-- ==== Sys2Proof/Word.lean ====
section
/-! DEFINITION. The register word, the byte, and the plainest arithmetic on bit fields and rounding. -/

namespace Sys2Proof

/-- A register word (R15: registers are 32 bits wide). -/
abbrev Word := BitVec 32

/-- A byte of a port, of a frame or of a memory. -/
abbrev Byte := BitVec 8

/-- The unsigned value of the `width` bits of `w` from bit `lo` up. -/
def bitsOf (w : Word) (lo width : Nat) : Nat := w.toNat / 2 ^ lo % 2 ^ width

/-- `w` with the `width` bits from bit `lo` up replaced by the low bits of `v`. -/
def withBits (w : Word) (lo width v : Nat) : Word :=
  BitVec.ofNat 32
    (w.toNat / 2 ^ (lo + width) * 2 ^ (lo + width) + v % 2 ^ width * 2 ^ lo + w.toNat % 2 ^ lo)

/-- A two's complement reading of an unsigned field of `width` bits. -/
def signedOf (width v : Nat) : Int := if 2 ^ (width - 1) ≤ v then (v : Int) - (2 ^ width : Nat) else v

/-- The two's complement code of `v` in a field of `width` bits. -/
def codeOf (width : Nat) (v : Int) : Nat := (v % (2 ^ width : Nat)).toNat

/-- `v` held inside `lo` to `hi`. -/
def clampInt (lo hi v : Int) : Int := if v < lo then lo else if hi < v then hi else v

/-- `v` held at or below `hi`. -/
def satNat (hi v : Nat) : Nat := if hi < v then hi else v

/-- `a / b` rounded to the nearest integer, ties away from zero (R14). -/
def roundDiv (a : Int) (b : Nat) : Int :=
  if 0 ≤ a then (2 * a + b) / (2 * b) else -((-(2 * a) + b) / (2 * b))

/-- `a / b` on naturals rounded to the nearest, ties up (R14). -/
def roundNat (a b : Nat) : Nat := (2 * a + b) / (2 * b)

/-- The bit of `m` numbered `k`. -/
def bitAt (m k : Nat) : Bool := m / 2 ^ k % 2 == 1

/-- The mask with exactly the bits of `ks` set. -/
def maskOf (ks : List Nat) : Nat := ks.foldl (fun m k => if bitAt m k then m else m + 2 ^ k) 0

/-- The numbers below `n` whose bit is set in `m`, rising. -/
def bitsSet (m n : Nat) : List Nat := (List.range n).filter (bitAt m)

/-- `m` without the bits set in `k`, for masks of up to 64 bits. -/
def maskMinus (m k : Nat) : Nat := m - Nat.land m k

end Sys2Proof
end

