-- ==== Sys2Proof/Syntax.lean ====
section
/-! DEFINITION. The commands of the block: one constructor of `Instr` for each row of the spec's table, with the row's
operands, and the plain data those operands are made of. -/

namespace Sys2Proof

/-- The three command ports (R49). -/
inductive PortId where
  | host | service | spi
deriving DecidableEq, Repr

/-- The verbs of R63. -/
inductive Verb where
  | caps | state | port | sub | unsub | peek | poke | time | rod | freight | mon | harvest | vka | stack | bridge
  | relay | backup | gauge | rightaway | claim | done | budget | load | start | stop | tt | depends | phase | sync
  | balance | rail | enable | disable | margin | limit | link | enc | reg | strobe | head | dose | lightgate | cal
  | route | fault | clear | flt | signal | bist | log | nv | save
deriving DecidableEq, Repr

/-- A line that has passed rows 1 to 4 of R35 and waits for its grant. The tokens after the verb stand in upper case
(R33), the query mark taken off the object (R34). -/
structure Line where
  /-- The verb. -/
  verb : Verb
  /-- The line is a query. -/
  query : Bool := false
  /-- The line carries the priority prefix. -/
  prio : Bool := false
  /-- The tokens after the verb, tag and check taken off. -/
  toks : List String := []
  /-- The tag. -/
  tag : Option Nat := none
  /-- How many bytes of the receive buffer the line holds (R53). -/
  len : Nat := 0
deriving DecidableEq, Repr

/-- Who asks for a start of a timetable (R205, R206, R211; the SRC field of R235). -/
inductive StartSrc where
  | boot | cmd | reg | junction | fault | signal
deriving DecidableEq, Repr

/-- What the check bits of a code word of the trim mirror say (R361). -/
inductive EccFinding where
  | clean | single | double
deriving DecidableEq, Repr

/-- An edge pair of the encoder (R333). -/
inductive EncMove where
  | forward | backward | illegal
deriving DecidableEq, Repr

/-- What a bridge switching cycle measures (R139). -/
structure BridgeMeas where
  /-- Stack voltage in codes of 6.25 mV. -/
  v : Nat
  /-- Stack current in mA, positive into the stack. -/
  i : Int
  /-- Bus voltage in codes of 12.5 mV. -/
  vbus : Nat
  /-- Bus-side power in W, positive from the bus. -/
  pbus : Int
  /-- Bus-load power in 0.1 W. -/
  pload : Nat
  /-- Both phases run. -/
  twoPh : Bool
deriving DecidableEq, Repr

/-- The commands, one constructor for each row of the spec's table. -/
inductive Instr where
  /-- AON_START_RISE (R114). VKA reaches AON_START: the always-on domain starts, the rectifiers become active, TEG
  is handed to its running converter and MPPSET is first sampled. Operands: belowMs: how long VKA had been below 1.2
  V, in ms; mpp: the four MPPSET samples in µV, AC1 AC2 TEG KEY. -/
  | aonStartRise (belowMs : Nat) (mpp : List Nat)
  /-- END_OF_RESET (R129). Once VKA is at or above CORE_OK with the core supply qualified, RESET ends and the device
  enters SELFTEST or RUN. Operands: vka: VKA in mV; peak: the highest VKA in mV, with no
  KEY pulse in progress and no relay pulse waiting or running, since VKA was last below CORE_LOW; compatBall: the COMPAT
  ball. -/
  | endOfReset (vka peak : Nat) (compatBall : Bool)
  /-- BIST_COND_CHECK (R425). The 4-tick check of crystal, test oscillator and VCORE ends, and a test is admitted,
  refused, held waiting or cut short. Operands: osc: test-oscillator cycles over 4 ticks. -/
  | bistCondCheck (osc : Nat)
  /-- BIST_TERMINAL_COUNT (R423). A partition's test reaches terminal count: its signature is compared and the
  result (PASS or FAIL) is recorded. Operands: sig: the MISR word. -/
  | bistTerminalCount (sig : Word)
  /-- LINE_TERMINATOR (R57). A line terminator arrives on a port: the line is checked and either enters the command
  queue or is answered at once. -/
  | lineTerminator (p : PortId)
  /-- UART_BREAK (R54). A UART receive line held low for 1 ms returns that port to its image defaults and discards
  any partial line. -/
  | uartBreak (p : PortId)
  /-- CTS_CHANGE (R52). CTS on the HOST UART changes level, stopping or resuming transmission between characters.
  Operands: asserted: the new level, true when asserted. -/
  | ctsChange (asserted : Bool)
  /-- SPI_FRAME (R55). An SPI frame from CS_N falling to CS_N rising carries line text in and waiting output bytes
  out. Operands: mosi: the bytes clocked in on MOSI. -/
  | spiFrame (mosi : List Byte)
  /-- REPLY_SENT (R50). The last stop bit or byte of a line sent leaves the port, and any pending mode or baud
  change takes effect. -/
  | replySent (p : PortId)
  /-- NOTIFY_QUEUE_SPACE (R48). Queue space returns after notifications were dropped, and !LOST count is sent before
  the next notification. -/
  | notifyQueueSpace (p : PortId)
  /-- CAPS_QUERY (R3). CAPS? reports every capability field in SYS_CAPS order. -/
  | capsQuery (p : PortId) (l : Line)
  /-- STATE_QUERY (R13). STATE? reports the device state, COMPAT, VCORE, LEVEL, GOOD and LASTRESET. -/
  | stateQuery (p : PortId) (l : Line)
  /-- PORT_CMD (R50). PORT sets MODE, BAUD and FLOW for a port, effective after the reply. -/
  | portCmd (p : PortId) (l : Line)
  /-- PORT_QUERY (R50). PORT? reports a port's mode, baud rate and flow control. -/
  | portQuery (p : PortId) (l : Line)
  /-- SUB_CMD (R46). SUB adds events or PULL notices to the port's subscription. -/
  | subCmd (p : PortId) (l : Line)
  /-- UNSUB_CMD (R46). UNSUB removes subscriptions, or UNSUB ALL clears them all. -/
  | unsubCmd (p : PortId) (l : Line)
  /-- SUB_QUERY (R46). SUB? reports the port's present selection. -/
  | subQuery (p : PortId) (l : Line)
  /-- PEEK_QUERY (R61). PEEK? reads 1 to 8 consecutive registers from one instant. -/
  | peekQuery (p : PortId) (l : Line)
  /-- POKE_CMD (R62). POKE writes one register atomically and reports the value read back. -/
  | pokeCmd (p : PortId) (l : Line)
  /-- TIME_QUERY (R75). TIME? reports the tick counter and the tick source. -/
  | timeQuery (p : PortId) (l : Line)
  /-- ROD_QUERY (R82). ROD? reports the rod's state, frequency, error, count and generations. -/
  | rodQuery (p : PortId) (l : Line)
  /-- FREIGHT_QUERY (R90). FREIGHT? reports the LATE bits and pending work, or the state of one job. -/
  | freightQuery (p : PortId) (l : Line)
  /-- MON_CMD (R111). MON sets a monitor's enable, input, mode, thresholds, periods and blanking. -/
  | monCmd (p : PortId) (l : Line)
  /-- MON_QUERY (R112). MON? reports a monitor's settings with STATE, VALUE and MISS. -/
  | monQuery (p : PortId) (l : Line)
  /-- HARVEST_CMD (R136). HARVEST sets an input's operating-point mode and parameters. -/
  | harvestCmd (p : PortId) (l : Line)
  /-- HARVEST_QUERY (R136). HARVEST? reports an input's settings with SET, OP, VOC, STATE and PULLED. -/
  | harvestQuery (p : PortId) (l : Line)
  /-- VKA_QUERY (R137). VKA? reports VKA, the source, trickle and relay status and the settable levels. Operands:
  vka: the conversion of VKA, 1.5 mV codes. -/
  | vkaQuery (p : PortId) (l : Line) (vka : Nat)
  /-- STACK_CMD (R165). STACK sets the cell count, cell maximum, floor and balancing. -/
  | stackCmd (p : PortId) (l : Line)
  /-- STACK_QUERY (R165). STACK? reports the stack settings, voltage, current, FULL and ATFLOOR. -/
  | stackQuery (p : PortId) (l : Line)
  /-- STACK_CELL_QUERY (R165). STACK? CELLn reports the cell's latest converted voltage and its bleed state. -/
  | stackCellQuery (p : PortId) (l : Line)
  /-- BRIDGE_CMD (R166). BRIDGE sets the bridge enables, power and current limits, voltages and frequency. -/
  | bridgeCmd (p : PortId) (l : Line)
  /-- BRIDGE_QUERY (R166). BRIDGE? reports the bridge settings with MODE, MAINS, BUS, PBUS and LIMITED. -/
  | bridgeQuery (p : PortId) (l : Line)
  /-- RELAY_SET_CMD (R167). RELAY SET requests a RELAY_SET pulse and is answered QUEUED. -/
  | relaySetCmd (p : PortId) (l : Line)
  /-- RELAY_CLR_CMD (R167). RELAY CLR requests a RELAY_CLR pulse under the refusals of R154. -/
  | relayClrCmd (p : PortId) (l : Line)
  /-- RELAY_CFG_CMD (R167). RELAY sets WIDTH, TOPUP, TOPUPEN and MAINSWAIT. -/
  | relayCfgCmd (p : PortId) (l : Line)
  /-- RELAY_QUERY (R167). RELAY? reports the relay settings with STATE, PENDING, CLOSURE, WAITMAINS and COUNT. -/
  | relayQuery (p : PortId) (l : Line)
  /-- BACKUP_QUERY (R168). BACKUP? reports the backup cell status and the energy used. -/
  | backupQuery (p : PortId) (l : Line)
  /-- GAUGE_QUERY (R191). GAUGE? reports the gauge readings from one instant. -/
  | gaugeQuery (p : PortId) (l : Line)
  /-- RIGHTAWAY_QUERY (R193). RIGHTAWAY? reports the permit, claims, NEED, AVAIL and the active holds. -/
  | rightawayQuery (p : PortId) (l : Line)
  /-- CLAIM_CMD (R185). CLAIM raises CLAIMS when the energy rule and the holds allow it, or is refused. -/
  | claimCmd (p : PortId) (l : Line)
  /-- DONE_CMD (R193). DONE releases one claim, or is answered NOCLAIM at CLAIMS 0. -/
  | doneCmd (p : PortId) (l : Line)
  /-- BUDGET_CMD (R192). BUDGET sets the page budget and the gauge parameters. -/
  | budgetCmd (p : PortId) (l : Line)
  /-- BUDGET_QUERY (R192). BUDGET? reports the budget settings, the budget in force and its source. -/
  | budgetQuery (p : PortId) (l : Line)
  /-- LOAD_BEGIN (R231). LOAD TTn BEGIN opens the single staging buffer for a timetable. -/
  | loadBegin (p : PortId) (l : Line)
  /-- LOAD_AT (R231). LOAD TTn AT stores 1 to 8 words in the staging buffer. -/
  | loadAt (p : PortId) (l : Line)
  /-- LOAD_END (R232). LOAD TTn END validates the staged image and queues its commit. -/
  | loadEnd (p : PortId) (l : Line)
  /-- LOAD_ABORT (R231). LOAD TTn ABORT discards the staging buffer. -/
  | loadAbort (p : PortId) (l : Line)
  /-- LOAD_ERASE (R232). LOAD TTn ERASE removes a timetable and commits the area without it. -/
  | loadErase (p : PortId) (l : Line)
  /-- START_CMD (R233). START requests the start of a timetable. -/
  | startCmd (p : PortId) (l : Line)
  /-- STOP_CMD (R233). STOP abandons a running timetable or empties the pending slot. -/
  | stopCmd (p : PortId) (l : Line)
  /-- TT_QUERY (R233). TT? reports a timetable's directory entry and state, or its stored words. -/
  | ttQuery (p : PortId) (l : Line)
  /-- DEPENDS_CMD (R234). DEPENDS sets a rail's dependency mask and power-good tracking. -/
  | dependsCmd (p : PortId) (l : Line)
  /-- DEPENDS_QUERY (R234). DEPENDS? reports a rail's dependencies, tracking, GOOD and SHED. -/
  | dependsQuery (p : PortId) (l : Line)
  /-- PHASE_CMD (R270). PHASE assigns a phase to a rail or sets its manual trim. -/
  | phaseCmd (p : PortId) (l : Line)
  /-- PHASE_QUERY (R270). PHASE? reports a phase's rail, state, current, offset and trim. -/
  | phaseQuery (p : PortId) (l : Line)
  /-- SYNC_CMD (R271). SYNC sets the switching reference and SYNC_OUT. -/
  | syncCmd (p : PortId) (l : Line)
  /-- SYNC_QUERY (R271). SYNC? reports the reference settings and status. -/
  | syncQuery (p : PortId) (l : Line)
  /-- BALANCE_CMD (R272). BALANCE sets a rail's switching, balance and light-load settings. -/
  | balanceCmd (p : PortId) (l : Line)
  /-- BALANCE_QUERY (R272). BALANCE? reports a rail's stored settings or its switching status. -/
  | balanceQuery (p : PortId) (l : Line)
  /-- RAIL_CMD (R294). RAIL sets a rail's target, slews, delays, response and anticipation. -/
  | railCmd (p : PortId) (l : Line)
  /-- RAIL_QUERY (R295). RAIL? reports a rail's settings or its status. -/
  | railQuery (p : PortId) (l : Line)
  /-- ENABLE_CMD (R296). ENABLE enables a rail and clears its shed bit. -/
  | enableCmd (p : PortId) (l : Line)
  /-- DISABLE_CMD (R296). DISABLE turns a rail off under R280. -/
  | disableCmd (p : PortId) (l : Line)
  /-- MARGIN_CMD (R297). MARGIN sets a rail's margin and starts a move. -/
  | marginCmd (p : PortId) (l : Line)
  /-- MARGIN_QUERY (R297). MARGIN? reports MARGIN, VSETM and STATE. -/
  | marginQuery (p : PortId) (l : Line)
  /-- LIMIT_CMD (R319). LIMIT sets a rail's current, over-voltage, temperature, hiccup and overload protection. -/
  | limitCmd (p : PortId) (l : Line)
  /-- LIMIT_RESTORE_CMD (R316). LIMIT RESTORE returns failed phases of an OFF, disabled rail to service. -/
  | limitRestoreCmd (p : PortId) (l : Line)
  /-- LIMIT_QUERY (R320). LIMIT? reports a rail's protection settings or its protection status. -/
  | limitQuery (p : PortId) (l : Line)
  /-- LINK_QUERY (R351). LINK? reports a head link's state, lanes, counters and readiness. -/
  | linkQuery (p : PortId) (l : Line)
  /-- ENC_CMD (R352). ENC sets the encoder and enables or disables line timing. -/
  | encCmd (p : PortId) (l : Line)
  /-- ENC_QUERY (R352). ENC? reports the encoder settings, position and line counters. -/
  | encQuery (p : PortId) (l : Line)
  /-- REG_CMD (R353). REG sets the registration offset, within the rate limit of R338 while running. -/
  | regCmd (p : PortId) (l : Line)
  /-- REG_QUERY (R353). REG? reports the registration offset. -/
  | regQuery (p : PortId) (l : Line)
  /-- STROBE_CMD (R353). STROBE sets the group count and group offsets while line timing is off. -/
  | strobeCmd (p : PortId) (l : Line)
  /-- STROBE_QUERY (R353). STROBE? reports the groups, their offsets and WMAX. -/
  | strobeQuery (p : PortId) (l : Line)
  /-- HEAD_QUERY (R389). HEAD? reports a head's memory data, a chip's data or an emitter's data. -/
  | headQuery (p : PortId) (l : Line)
  /-- DOSE_CMD (R390). DOSE sets a head's dose, temperature, fall-back and rank settings, its inhibit, or a resume. -/
  | doseCmd (p : PortId) (l : Line)
  /-- DOSE_QUERY (R390). DOSE? reports a head's dose settings, its status or a chip's factors. -/
  | doseQuery (p : PortId) (l : Line)
  /-- LIGHTGATE_CMD (R391). LIGHTGATE sets a head's light-gate parameters. -/
  | lightgateCmd (p : PortId) (l : Line)
  /-- LIGHTGATE_START_CMD (R391). LIGHTGATE START requests a light-gate run, refused or queued. Operands: parked:
  the HPARKn ball. -/
  | lightgateStartCmd (p : PortId) (l : Line) (parked : Bool)
  /-- LIGHTGATE_ABORT_CMD (R391). LIGHTGATE ABORT aborts a queued or running light-gate run. -/
  | lightgateAbortCmd (p : PortId) (l : Line)
  /-- LIGHTGATE_QUERY (R391). LIGHTGATE? reports the light-gate settings and state, or the dead-list entries. -/
  | lightgateQuery (p : PortId) (l : Line)
  /-- CAL_PHASE_CMD (R273). CAL PHn runs or queues a phase's offset calibration and zero check. -/
  | calPhaseCmd (p : PortId) (l : Line)
  /-- CAL_HEAD_CMD (R392). CAL HEADn runs or queues the VOFS calibration of a head. -/
  | calHeadCmd (p : PortId) (l : Line)
  /-- CAL_GAUGE_CMD (R194). CAL GAUGE discards the learned gauge values, at once or when CLAIMS reaches 0. -/
  | calGaugeCmd (p : PortId) (l : Line)
  /-- ROUTE_CMD (R418). ROUTE sets a source's routing fields. -/
  | routeCmd (p : PortId) (l : Line)
  /-- ROUTE_QUERY (R418). ROUTE? reports a source's routing fields. -/
  | routeQuery (p : PortId) (l : Line)
  /-- FAULT_QUERY (R419). FAULT? reports the fault summary, or one source's latched record. -/
  | faultQuery (p : PortId) (l : Line)
  /-- CLEAR_CMD (R420). CLEAR EVn clears one source under R400. -/
  | clearCmd (p : PortId) (l : Line)
  /-- CLEAR_FAULT_CMD (R420). CLEAR FAULT clears every source and empties FAULT_FIRST. -/
  | clearFaultCmd (p : PortId) (l : Line)
  /-- FLT_CMD (R421). FLT sets the FLT_N mode, minimum width and assert, or releases it. -/
  | fltCmd (p : PortId) (l : Line)
  /-- FLT_QUERY (R421). FLT? reports the FLT_N settings and level. -/
  | fltQuery (p : PortId) (l : Line)
  /-- SIGNAL_QUERY (R422). SIGNAL? reports the signal line's level, pull, falls and stuck state. -/
  | signalQuery (p : PortId) (l : Line)
  /-- BIST_CMD (R431). BIST BPn requests an on-demand self-test of one partition. -/
  | bistCmd (p : PortId) (l : Line)
  /-- BIST_ABORT_CMD (R439). BIST BPn ABORT cuts short a queued or running test. -/
  | bistAbortCmd (p : PortId) (l : Line)
  /-- BIST_PWRUP_CMD (R439). BIST PWRUP sets whether the power-up self-test runs. -/
  | bistPwrupCmd (p : PortId) (l : Line)
  /-- BIST_QUERY (R439). BIST? reports the self-test summary or one partition's result. -/
  | bistQuery (p : PortId) (l : Line)
  /-- LOG_QUERY (R463). LOG? reports the log summary or a range of records. -/
  | logQuery (p : PortId) (l : Line)
  /-- NV_QUERY (R464). NV? reports the store's status. -/
  | nvQuery (p : PortId) (l : Line)
  /-- SAVE_CONFIG_CMD (R465). SAVE CONFIG queues a write of the configuration image. -/
  | saveConfigCmd (p : PortId) (l : Line)
  /-- REGISTER_WRITE (R15). A write to a register that has no row of its own stores, clears or ignores each field
  under its access code. Operands: a: the register's address; w: the word written. -/
  | registerWrite (a : Nat) (w : Word)
  /-- HEAD_MDATA_READ (R475). A PEEK? read of HEADn_MDATA returns a mirror entry and advances HEADn_MSEL. -/
  | headMdataRead (h : Fin 4)
  /-- FAULT_LATCH_CLEAR (R400). A W1C write to a LATCHED bit clears the source's record under R400. Operands: e: the
  source. -/
  | faultLatchClear (e : Fin 64)
  /-- RAIL_EN_WRITE (R293). A write of RAILn_CTRL.EN enables the rail, or turns it off under R280. Operands: en: the
  bit written. -/
  | railEnWrite (r : Fin 6) (en : Bool)
  /-- RAIL_TARGET_WRITE (R282). A register write that changes TARGET or MARGIN starts a move, re-aims a ramp or is
  stored. Operands: w: the word written to RAILn_TARGET. -/
  | railTargetWrite (r : Fin 6) (w : Word)
  /-- PH_CAL_REQUEST (R262). A 1 written to PHn_CAL.CAL requests the phase calibration. -/
  | phCalRequest (n : Fin 16)
  /-- PH_RESTORE_REQUEST (R316). A 1 written to PHn_PROT.RESTORE restores a failed phase, or is refused. -/
  | phRestoreRequest (n : Fin 16)
  /-- LINE_TRAIN_REQUEST (R350). A 1 written to LINEn_LINK.TRAIN starts a training attempt. -/
  | lineTrainRequest (h : Fin 4)
  /-- HEAD_RESUME_REQUEST (R377). A 1 written to HEADn_CTRL.RESUME permits exposure to resume after a stop. -/
  | headResumeRequest (h : Fin 4)
  /-- HEAD_LG_START (R379). A 1 written to HEADn_LG.START requests a light-gate run. Operands: parked: the HPARKn
  ball. -/
  | headLgStart (h : Fin 4) (parked : Bool)
  /-- HEAD_LG_ABORT (R385). A 1 written to HEADn_LG.ABORT aborts a queued or running run. -/
  | headLgAbort (h : Fin 4)
  /-- HEAD_CAL_REQUEST (R388). A 1 written to HEADn_CAL.CAL requests CAL HEADn. -/
  | headCalRequest (h : Fin 4)
  /-- ROD_WINDOW_END (R76). A 64-tick rod window ends: the error is measured, the fine trim stepped, a calibration
  published and the rod state updated. Operands: count: rod periods in the 64-tick window; taps: the codes of the
  eight delay-line taps. -/
  | rodWindowEnd (count : Nat) (taps : List Nat)
  /-- FREIGHT_LATE_CHECK (R88). A periodic job has not completed within four nominal periods, so its LATE bit is set
  and FREIGHT_LATE raised. Operands: j: the job. -/
  | freightLateCheck (j : Fin 10)
  /-- SCRUB_SRAM (R87). The Freight job scrubs a portion of SRAM by ECC. Operands: done: this portion completes a
  full pass. -/
  | scrubSram (done : Bool)
  /-- SCRUB_MIRROR_WORD (R361). One code word of a head's trim mirror is checked and corrected or repaired.
  Operands: k: the code word, 0 to 3,967; err: what ECC finds. -/
  | scrubMirrorWord (h : Fin 4) (k : Nat) (err : EccFinding)
  /-- SCRUB_TRIM_REQUEST (R362). The scrub issues one TRIM_RD request for the next four trims. -/
  | scrubTrimRequest (h : Fin 4)
  /-- CAL_ISNS_CONVERSION (R260). An ISNS offset conversion in a phase's off-time adds to a set, and a full set is
  adopted or flagged OFS_BAD. Operands: code: the ISNS code with the input at ISREF; offNs: the phase's previous
  off-time in ns. -/
  | calIsnsConversion (n : Fin 16) (code : Nat) (offNs : Nat)
  /-- CAL_HEADSNS_SAMPLE (R374). The once-per-second VOFS learning step moves VOFS or sets VHEAD_BAD. Operands:
  vhead: VHEAD of the report, 2 mV units. -/
  | calHeadsnsSample (h : Fin 4) (vhead : Nat)
  /-- NV_SCRUB_SLOT (R458). One store slot is read at normal and tightened margins and is refreshed or reported.
  Operands: normalOk: the slot reads intact normally; marginOk: the margin read agrees. -/
  | nvScrubSlot (normalOk : Bool) (marginOk : Bool)
  /-- MONITOR_SAMPLE (R92). A monitor's sampling tick: wake, decision, state update and any event. Operands: x: the
  sampled value in result codes. -/
  | monitorSample (n : Fin 24) (x : Nat)
  /-- REFERENCE_REFRESH (R94). The bandgap and DAC references are refreshed onto their hold capacitors. Operands:
  mpp: the four MPPSET samples in µV. -/
  | referenceRefresh (mpp : List Nat)
  /-- BLANK_WINDOW_CLOSE (R107). A blanking window closes and a waiting sample proceeds. Operands: x: the sampled
  value in result codes. -/
  | blankWindowClose (n : Fin 24) (x : Nat)
  /-- CONVERTER_FREE (R105). A shared converter comes free and takes the lowest-numbered pending request. Operands:
  c: the converter; x: the 12-bit result of the conversion that ends. -/
  | converterFree (c : Fin 4) (x : Nat)
  /-- IMBALANCE_TIMER (R142). A BALk output has stayed high for 2^23 ticks and IMBALANCE is raised. Operands: k: the
  cell. -/
  | imbalanceTimer (k : Fin 8)
  /-- FRACTION_PERIOD (R121). A FRACTION sample period starts: the converter stops and the dwell begins. -/
  | fractionPeriod (i : Fin 4)
  /-- FRACTION_DWELL_END (R121). The dwell ends and the VOC conversion is requested at Freight rank. -/
  | fractionDwellEnd (i : Fin 4)
  /-- INPUT_CLAMP (R117). A harvest node rises above its limit and the input clamps. -/
  | inputClamp (i : Fin 4)
  /-- CLAMP_RELEASE (R117). The node falls back below the lower limit and the clamp releases. -/
  | clampRelease (i : Fin 4)
  /-- KEY_PULSE_START (R125). The KEY node rises above 1.000 V and a PRESS or RELEASE pulse begins. Operands: press:
  KEY_A positive first. -/
  | keyPulseStart (press : Bool)
  /-- KEY_PULSE_END (R125). The KEY node has stayed below 1.000 V for 64 ticks: the pulse ends and its event is
  raised. Operands: vka: VKA in mV; stack: the stack in mV. -/
  | keyPulseEnd (vka : Nat) (stack : Nat)
  /-- RES_ON_FALL (R127). VKA falls below the level that applies and the reservoir feed takes over VKA. Operands:
  vka: VKA in mV; stack: the stack in mV. -/
  | resOnFall (vka stack : Nat)
  /-- TRICKLE_STOP (R128). VKA falls to TRICKLE_OFF, the burst ends and its energy is added to HARV_TRICKLE.
  Operands: mJ: energy the burst delivered into the stack. -/
  | trickleStop (mJ : Nat)
  /-- BRIDGE_CYCLE (R139). A bridge switching cycle measures stack voltage and current for regulation and the gauge.
  Operands: m: the cycle's measurements. -/
  | bridgeCycle (m : BridgeMeas)
  /-- STACK_MEAS_TIMER (R169). While the bridge is not switching, a stack measurement is taken every 32 ticks.
  Operands: v: stack voltage, 6.25 mV codes; iStack: stack current, mA; vbus: bus voltage, 12.5 mV codes; pload: bus-load
  power, 0.1 W. -/
  | stackMeasTimer (v : Nat) (iStack : Int) (vbus : Nat) (pload : Nat)
  /-- BRIDGE_PHASE_ILIM (R148). A bridge phase current exceeds ILIM or 1.5 × ILIM and its on-time ends; after 8
  cycles the bridge stops with SHORT. Operands: k: the bridge phase; over15: the current is above 1.5 × ILIM. -/
  | bridgePhaseIlim (k : Fin 2) (over15 : Bool)
  /-- PAGE_CLAIM_EDGE (R183). A filtered PAGE_CLAIM edge raises CLAIMS, checks the permit grace and re-evaluates
  right-away. Operands: sinceFall: µs since RIGHTAWAY last fell. -/
  | pageClaimEdge (sinceFall : Nat)
  /-- TT_START (R205). The executor starts a timetable from its first step, or holds, replaces or refuses the
  request. Operands: tt: the timetable; src: who asks. -/
  | ttStart (tt : Fin 8) (src : StartSrc)
  /-- FALL_T1_EXPIRY (R224). T1 ends with the rail still high: STUCK_HIGH, SIGNAL_N pulse and active discharge
  start. -/
  | fallT1Expiry (r : Fin 6)
  /-- FALL_T2_EXPIRY (R224). T2 ends, discharge stops and the fall procedure completes. -/
  | fallT2Expiry (r : Fin 6)
  /-- DISABLE_DEPENDENT_WAIT_END (R226). The shed dependents have fallen, or T1 has run, and the disabled rail's own
  turn-off starts. -/
  | disableDependentWaitEnd (r : Fin 6)
  /-- RAIL_TRIGGER (R241). A rail's comparator triggers and one on-time starts on the next eligible phase. Operands:
  e: distance of a rank-0 start from its grid point, 1/256 turn. -/
  | railTrigger (r : Fin 6) (e : Int)
  /-- PHASE_ON_TIME_END (R242). A phase's on-time ends at its computed width. -/
  | phaseOnTimeEnd (n : Fin 16)
  /-- PHASE_SAMPLE (R259). A phase current sample is taken mid off-time, or every 1 µs while tri-stated. Operands:
  code: the ISNS code; sensed: the remote sense in mV; t: rod time of the sample in taps of 0.5 ns. -/
  | phaseSample (n : Fin 16) (code : Nat) (sensed : Nat) (t : Nat)
  /-- LIGHT_LOAD_DECISION (R254). After a 32-cycle average a phase is shed to IDLE or added back.
  Operands: the rail. -/
  | lightLoadDecision (r : Fin 6)
  /-- BALANCE_INTERVAL (R264). A 64-cycle balance interval ends and the AUTO trims are updated.
  Operands: the rail. -/
  | balanceInterval (r : Fin 6)
  /-- SYNC_WINDOW_END (R247). A 64-tick SYNC_IN window ends and the input is qualified or lost. Operands: f: the
  frequency measured over the window, Hz. -/
  | syncWindowEnd (f : Nat)
  /-- VINS_SAMPLE (R243). The VINS converter samples the bus every 0.5 µs. Operands: code: the VINS code, 50 mV. -/
  | vinsSample (code : Nat)
  /-- RAIL_WAIT_READY (R278). The dependencies, GOOD and VIN conditions hold together, so the rail leaves WAITING
  for ON_DELAY. -/
  | railWaitReady (r : Fin 6)
  /-- ON_DELAY_END (R278). ON_DLY ticks end and the rail enters RAMP_UP. -/
  | onDelayEnd (r : Fin 6)
  /-- OFF_DELAY_END (R280). OFF_DLY ticks end and the rail enters RAMP_DOWN. -/
  | offDelayEnd (r : Fin 6)
  /-- VCMD_STEP (R279). V_CMD takes one 1 mV step toward its end value. -/
  | vcmdStep (r : Fin 6)
  /-- ALL_PHASE_RESPONSE (R285). The remote sense falls below V_REF − NL_THR and every phase fires. -/
  | allPhaseResponse (r : Fin 6)
  /-- RESPONSE_ON_TIME_END (R286). A response on-time ends when the sense recovers or NL_MAXON elapses, and the
  response re-arms. Operands: ns: time since the crossing in ns; back: the sense stands at or above
  V_REF − NL_THR/2. -/
  | responseOnTimeEnd (r : Fin 6) (ns : Nat) (back : Bool)
  /-- BOOST_START (R289). An anticipation boost on-time starts ahead of a group's strobe. Operands: g: the strobe
  group. -/
  | boostStart (r : Fin 6) (g : Fin 4)
  /-- PHASE_LIMIT_TRIP (R299). A phase current reaches I_PH and its on-time ends as a limited cycle. -/
  | phaseLimitTrip (n : Fin 16)
  /-- PHASE_SHORT_TRIP (R300). A phase current reaches 1.5 × I_PH: the phase is tri-stated and its next trigger
  skipped. -/
  | phaseShortTrip (n : Fin 16)
  /-- HICCUP_OFF_END (R302). HICCUP_T ends and the rail leaves OFF for WAITING. -/
  | hiccupOffEnd (r : Fin 6)
  /-- HICCUP_COUNT_RESET (R302). The rail has been ON for 1 s without a limited cycle and HICCUPS returns to 0. -/
  | hiccupCountReset (r : Fin 6)
  /-- OVERLOAD_TIMER_EXPIRY (R304). The overload timer runs out and the rail is taken down with OVERLOAD_OFF. -/
  | overloadTimerExpiry (r : Fin 6)
  /-- OVERVOLT_TRIP (R308). The remote sense exceeds V_OV for 100 ns and OVERVOLT is raised. Operands: mV: the
  remote sense. -/
  | overvoltTrip (r : Fin 6) (mV : Nat)
  /-- TSNS_CONVERSION (R309). A rail's TSNS is converted every 32 ticks and its temperature thresholds are judged.
  Operands: mV: the TSNS voltage. -/
  | tsnsConversion (r : Fin 6) (mV : Nat)
  /-- TSNS_FAULT_TRIP (R309). TSNS has stayed at or above 1.800 V for 10 µs and STAGE_FAULT is raised. -/
  | tsnsFaultTrip (r : Fin 6)
  /-- UPSTREAM_LOCK (R327). Upstream lock has held for 64 µs and training begins with AUTO_TRAIN set. -/
  | upstreamLock (h : Fin 4)
  /-- UPSTREAM_QUIET (R327). The upstream lane has been quiet for 1 ms in LOST or FAILED and the link goes DOWN. -/
  | upstreamQuiet (h : Fin 4)
  /-- TRAIN_ATTEMPT_START (R328). A training attempt starts and TRAIN sets are sent on both lanes. -/
  | trainAttemptStart (h : Fin 4)
  /-- IDENT_RECEIVED (R328). The head's IDENT frame arrives and a PROBE is sent. Operands: chars: the 10-bit code groups
  of the frame on the upstream lane, the K28.5 before it first. -/
  | identReceived (h : Fin 4) (chars : List Nat)
  /-- PROBE_ACK (R328). The ACK to PROBE arrives and the link goes UP or ATTACHING by identity. Operands: chars: the
  code groups of the frame. -/
  | probeAck (h : Fin 4) (chars : List Nat)
  /-- TRAIN_TIMEOUT (R328). An attempt has not finished within 2 ms and fails. -/
  | trainTimeout (h : Fin 4)
  /-- LINK_LOCK_LOSS (R329). Upstream lock has been absent for 16 µs on an UP link and the link is LOST. -/
  | linkLockLoss (h : Fin 4)
  /-- LINK_RETRY_TIMER (R330). 64 ticks after a loss or failure, a retry attempt starts. -/
  | linkRetryTimer (h : Fin 4)
  /-- RETRIES_RESET_TIMER (R330). The link has been UP for 32,768 ticks and RETRIES returns to 0. -/
  | retriesResetTimer (h : Fin 4)
  /-- MEMBLOCK_RECEIVED (R331). A MEMBLOCK arrives and the next block is requested. Operands: chars: the code groups of
  the frame. -/
  | memblockReceived (h : Fin 4) (chars : List Nat)
  /-- MEMBLOCK_TIMEOUT (R331). A block is missing after 20 µs and is requested again, or the attempt fails. -/
  | memblockTimeout (h : Fin 4)
  /-- TRIM_ACK (R331). The ACK to a TRIM frame arrives and the next TRIM frame is sent. Operands: chars: the code
  groups of the frame. -/
  | trimAck (h : Fin 4) (chars : List Nat)
  /-- TRIM_ACK_TIMEOUT (R331). A TRIM ACK is late, so the frame is retried or the attach fails. -/
  | trimAckTimeout (h : Fin 4)
  /-- SIDE_REPLY_RECEIVED (R362). A sideband reply is compared with the trims in use and a fix, stuck report or
  verify step follows. Operands: chars: the code groups of the SIDE frame. -/
  | sideReplyReceived (h : Fin 4) (chars : List Nat)
  /-- ENC_COUNT (R333). An encoder edge counts forward or backward, updating POS, HWM and the excursion state.
  Operands: mv: forward, backward or illegal; t: the rod time, 0.5 ns taps. -/
  | encCount (h : Fin 4) (mv : EncMove) (t : Nat)
  /-- ENC_INDEX (R333). A Z rising edge captures POS into ZPOS. -/
  | encIndex (h : Fin 4)
  /-- LINE_GO_RISE (R339). The group 0 pulse of a line rises and the line starts, or the line is dropped. Operands:
  t: the rod time, 0.5 ns taps. -/
  | lineGoRise (h : Fin 4) (t : Nat)
  /-- GROUP_PULSE_RISE (R339). A later group's pulse rises at its offset. -/
  | groupPulseRise (h : Fin 4)
  /-- PULSE_FALL (R339). A LINE_GO pulse ends after its high time. -/
  | pulseFall (h : Fin 4)
  /-- REPORT_RECEIVED (R342). An upstream REPORT is accepted or discarded. Operands: chars: the code groups of
  the frame; t: the rod time of its last character, 0.5 ns taps. -/
  | reportReceived (h : Fin 4) (chars : List Nat) (t : Nat)
  /-- REPORT_DUE (R342). DUE passes with no REPORT accepted and the line falls back. -/
  | reportDue (h : Fin 4)
  /-- FRAME_SEND_START (R343). The LINE frame of the next line starts on the lanes. Operands: t: the rod time,
  0.5 ns taps. -/
  | frameSendStart (h : Fin 4) (t : Nat)
  /-- FRAME_COMMITTED (R343). The last character of a LINE frame leaves the device. Operands: t: the rod time of its
  last character, 0.5 ns taps. -/
  | frameCommitted (h : Fin 4) (t : Nat)
  /-- LG_RUN_START (R379). A light-gate run starts once its conditions hold. Operands: parked: the HPARKn ball. -/
  | lgRunStart (h : Fin 4) (parked : Bool)
  /-- LG_TEST_LINE (R380). A test line is timed from the rod every TPER. Operands: dark: first conversion of LGATEn;
  lit: second conversion; rep: the code groups of the line's REPORT, none when missing. -/
  | lgTestLine (h : Fin 4) (dark : Nat) (lit : Nat) (rep : Option (List Nat))
  /-- LG_RUN_DONE (R384). All test lines have been judged and the dead list and trims are written. -/
  | lgRunDone (h : Fin 4)
  /-- HPARK_FALL (R385). HPARKn falls and aborts a running light-gate run. -/
  | hparkFall (h : Fin 4)
  /-- EVT_PULSE_END (R406). An EVT pin's 1 µs pulse ends. Operands: m: the pin. -/
  | evtPulseEnd (m : Fin 4)
  /-- SLOT_WRITE_DONE (R441). A store slot write ends and is verified, retried or failed; the next piece of work is
  taken. Operands: verifyOk: the read-back agrees. -/
  | slotWriteDone (verifyOk : Bool)
  /-- BYTE_RECEIVED (R49). A byte arrives on a UART port and is stored, echoed or acted on as an edit character (BS,
  DEL, Ctrl-U), and may deassert RTS. Operands: b: the byte. -/
  | byteReceived (p : PortId) (b : Byte)
  /-- BACKUP_UPDATE (R161). The backup cell voltage is updated, every 65,536 ticks or at a change of source, setting
  LOW, PRESENT and their events. Operands: code: the cell voltage, 1.5 mV codes; used: energy drawn since the last
  update, 10 mJ units. -/
  | backupUpdate (code : Nat) (used : Nat)
  /-- PHASE_ELIGIBLE (R245). A phase becomes eligible again, MIN_OFF after its on-time or when its current falls
  below I_PH, and takes a trigger the rail was holding. -/
  | phaseEligible (n : Fin 16)
  /-- SYNC_IN_FALL (R249). A SYNC_IN falling edge ends a high time, and a mark is recognised that renumbers the
  count and sets ANCHORED. Operands: high: the high time in 1/1000 of the measured period. -/
  | syncInFall (high : Nat)
  /-- ROD_COARSE_STEP (R77). A 2-tick step of the rod's coarse trim search ends and the trim moves, before the fine
  windows begin. Operands: trim: the coarse trim the search moves to. -/
  | rodCoarseStep (trim : Nat)
  /-- DISCHARGE_SINK_LIMIT (R227). During active discharge a phase's sensed sink current reaches a quarter of its
  share of the limit and its low-side on-period ends. -/
  | dischargeSinkLimit (n : Fin 16)
  /-- DISCHARGE_RESTART (R227). During active discharge a phase's current decays to zero and its low-side on-period
  starts again. -/
  | dischargeRestart (n : Fin 16)
  /-- TEST_OSC_TRIM (R490). Every 64 ticks while the crystal is qualified, the test oscillator that times the UART
  bits is trimmed against the crystal. Operands: trim: the trim the comparison gives. -/
  | testOscTrim (trim : Nat)
  /-- POWER_ON_RESET (R126). VKA falls below POR (1.2 V): the always-on domain stops, the tick counter is zeroed and
  the device enters RESET. -/
  | powerOnReset
  /-- RESET_N_LOW (R7). RESET_N is recognised low in SELFTEST or RUN: the device enters RESET and abandons any
  self-test; it is ignored in BUFFER-STOP. -/
  | resetNLow
  /-- CORE_LOW_FALL (R7). VKA falls below CORE_LOW in SELFTEST or RUN and the device enters RESET; it is ignored in
  BUFFER-STOP. -/
  | coreLowFall
  /-- AUTOBOOT_START (R211). After the held causes have been granted, TT0 starts when AUTOBOOT is 1 and TT0 is
  valid. -/
  | autobootStart
  /-- KEY_HOLD_5S (R413). A KEY hold reaches 163,840 ticks in RUN and raises KEY_HOLD. -/
  | keyHold5s
  /-- KEY_HOLD_DRAIN (R413). A KEY hold reaches 327,680 ticks: every converter stops and the VKA drain switch
  closes. -/
  | keyHoldDrain
  /-- DRAIN_RELEASE (R413). VKA has been below 1.2 V for 150 ms and the analogue timer opens the drain switch. -/
  | drainRelease
  /-- VIO_LOSS (R482). VIO becomes absent: VIO outputs go high-impedance, inputs take their default readings and the
  line in progress is discarded. -/
  | vioLoss
  /-- VIO_RETURN (R482). VIO returns and the ports resume with an empty line under their held settings. -/
  | vioReturn
  /-- VLV_LOSS (R483). VLV becomes absent: the LVDS outputs go high-impedance and UP links are lost with reason
  LOCK. -/
  | vlvLoss
  /-- VDRV_LOW (R484). VDRV falls below 4.20 V: every PWM output is tri-stated and every bridge gate is driven low.
  Operands: vka: VKA in mV. -/
  | vdrvLow (vka : Nat)
  /-- VDRV_RISE (R484). VDRV rises to 4.50 V: the PWM and bridge hold is released and the core supply becomes
  qualified. -/
  | vdrvRise
  /-- TT_DATA_READ (R475). A PEEK? read of TT_DATA returns the word at TT_ADDR and advances the address. -/
  | ttDataRead
  /-- TT_CTRL_START (R236). A 1 written to TT_CTRL.START starts timetable SEL as START does. -/
  | ttCtrlStart
  /-- TT_CTRL_STOP (R236). A 1 written to TT_CTRL.STOP stops timetable SEL as STOP does. -/
  | ttCtrlStop
  /-- RELAY_CTRL_SET (R164). A 1 written to RELAY_CTRL.SET requests a RELAY_SET pulse. -/
  | relayCtrlSet
  /-- RELAY_CTRL_CLR (R164). A 1 written to RELAY_CTRL.CLR requests a RELAY_CLR pulse. -/
  | relayCtrlClr
  /-- FLT_RELEASE_WRITE (R408). A 1 written to FLT_CTRL.RELEASE releases a latched FLT_N once MIN has run. -/
  | fltReleaseWrite
  /-- BIST_START_REQUEST (R431). A 1 written to BIST_CTRL.START requests a test of partition SEL. -/
  | bistStartRequest
  /-- BIST_ABORT_REQUEST (R433). A 1 written to BIST_CTRL.ABORT cuts short the test of SEL. -/
  | bistAbortRequest
  /-- NV_SAVE_REQUEST (R452). A 1 written to NV_CTRL.SAVE starts SAVE CONFIG. -/
  | nvSaveRequest
  /-- VCORE_TO_STBY (R66). The standby conditions have held for 1,024 ticks and VCORE moves to STBY_LVL. -/
  | vcoreToStby
  /-- VCORE_TO_RUN (R66). A standby condition ceases and VCORE begins to rise to RUN_LVL. -/
  | vcoreToRun
  /-- VCORE_LOW_TIMER (R69). GOOD has stayed 0 for 2 ticks at RUN_LVL and EV63 VCORE_LOW is raised. -/
  | vcoreLowTimer
  /-- XTAL_QUALIFIED (R73). 1,024 consecutive crystal cycles qualify the crystal and the tick source changes at a
  tick edge. -/
  | xtalQualified
  /-- XTAL_LOST (R73). No crystal edge for 4 RC periods: the tick falls back to RC and the rod enters HOLDOVER. -/
  | xtalLost
  /-- TELEMETRY_SAMPLE (R87). The telemetry job samples at its 256-tick period. -/
  | telemetrySample
  /-- RES_OFF_RISE (R127). VKA rises through RES_OFF with the feed at its normal target and the source returns to
  HARVEST. Operands: vka: VKA in mV. -/
  | resOffRise (vka : Nat)
  /-- RES_OFF_HOLD_TIMER (R127). VKA has stood at or above RES_OFF for 64 ticks with the feed delivering nothing and
  the source returns to HARVEST. -/
  | resOffHoldTimer
  /-- STACK_FEED_LOW (R127). The stack falls below 1.00 V while the source is RESERVOIR and the feed stops.
  Operands: vka: VKA in mV. -/
  | stackFeedLow (vka : Nat)
  /-- STACK_FEED_RECOVER (R160). The stack reaches 1.05 V and the source returns to RESERVOIR. Operands: vka: VKA in
  mV. -/
  | stackFeedRecover (vka : Nat)
  /-- TRICKLE_START (R128). VKA reaches TRICKLE_ON and a trickle burst begins. Operands: vka: VKA in mV. -/
  | trickleStart (vka : Nat)
  /-- VKA_CLAMP (R126). VKA reaches 5.45 V and every harvest converter stops. -/
  | vkaClamp
  /-- VKA_CLAMP_RELEASE (R126). VKA falls below 5.40 V and the harvest converters resume. -/
  | vkaClampRelease
  /-- BK_ON_FALL (R160). VKA falls to BK_ON with a cell present and the source becomes BACKUP. Operands: vka: VKA in
  mV. -/
  | bkOnFall (vka : Nat)
  /-- BACKUP_EMPTY (R161). The backup cell falls below 1.900 V: the converter stops and EMPTY is raised. -/
  | backupEmpty
  /-- RELAY_GAP_END (R152). The 32-tick gap after a pulse ends and a waiting request begins to wait for arming. -/
  | relayGapEnd
  /-- RELAY_ARMED (R131). VKA reaches RELAY_ARM with a request waiting and the relay pulse starts. -/
  | relayArmed
  /-- RELAY_PULSE_END (R152). A relay pulse runs its full WIDTH and the relay STATE is updated. -/
  | relayPulseEnd
  /-- RELAY_CUT (R131). VKA falls to RELAY_STOP during a pulse: the pulse ends early and STATE becomes UNKNOWN. -/
  | relayCut
  /-- RELAY_UNARMED (R131). A request not armed within 2,048 ticks is abandoned. -/
  | relayUnarmed
  /-- FULL_SET (R140). The stack has been within 50 mV of FULL_V below 0.5 A for 64 ticks and FULL is set. -/
  | fullSet
  /-- ABSORB_ZERO_TIMER (R143). The absorbed current has been zero for 32 ticks and ABSORB ends. -/
  | absorbZeroTimer
  /-- BRIDGE_OVERLOAD_TIMER (R145). A limit has bound for 32 ticks in SUPPORT and OVERLOAD is raised. -/
  | bridgeOverloadTimer
  /-- MAINS_OK_FALL (R147). Filtered MAINS_OK falls: mains is taken as false and CHARGE ends. -/
  | mainsOkFall
  /-- MAINS_OK_RISE (R147). Filtered MAINS_OK rises and qualification begins. -/
  | mainsOkRise
  /-- MAINS_QUALIFIED (R147). MAINS_OK has been high for 64 ticks: it is qualified true, SUPPORT ends and WAIT_MAINS
  clears. -/
  | mainsQualified
  /-- TOPUP_REQUEST (R156). The top-up conditions hold and a top-up RELAY_SET is requested. -/
  | topupRequest
  /-- TOPUP_RETRY_TIMER (R156). 2,048 ticks after a failed top-up closure, a new top-up request is permitted. -/
  | topupRetryTimer
  /-- MAINS_WAIT_END (R157). The mains wait ends without qualification and MAINS_ABSENT is raised or the closure
  ends. -/
  | mainsWaitEnd
  /-- PAGE_DONE_EDGE (R184). A filtered PAGE_DONE edge releases a claim, closes a learned entry and re-evaluates
  right-away. -/
  | pageDoneEdge
  /-- GAUGE_CAL_RUN (R194). A queued CAL GAUGE executes when CLAIMS reaches 0. -/
  | gaugeCalRun
  /-- TT_PENDING_START (R205). The running timetable ends and the pending timetable starts. -/
  | ttPendingStart
  /-- TT_STEP_ENABLE (R214). An ENABLE step enables a rail, requests RELAY_SET or pulls SIGNAL_N. -/
  | ttStepEnable
  /-- TT_STEP_DISABLE (R224). A DISABLE step turns off a rail, requests RELAY_CLR or releases SIGNAL_N. -/
  | ttStepDisable
  /-- TT_STEP_WAIT (R201). A WAIT step begins its time or condition wait. -/
  | ttStepWait
  /-- TT_STEP_CHECK (R218). A CHECK step opens its window on a rail or monitor. -/
  | ttStepCheck
  /-- TT_STEP_JUMP (R221). A JUMP step goes to its target when the condition holds and its limit allows. -/
  | ttStepJump
  /-- TT_STEP_MARGIN (R222). A MARGIN step sets a rail's margin. -/
  | ttStepMargin
  /-- TT_STEP_MARK (R223). A MARK step queues a MARK log record and sets TT_MARK. -/
  | ttStepMark
  /-- TT_STEP_HALT (R209). A HALT step logs its exit code, ends the timetable and releases its pull. -/
  | ttStepHalt
  /-- WAIT_COND_MET (R220). A WAIT step's condition holds and the step completes. -/
  | waitCondMet
  /-- WAIT_TIMEOUT (R219). A WAIT step's time or timeout ends and its ACT is applied. -/
  | waitTimeout
  /-- CHECK_WINDOW_END (R218). The CHECK window ends unpassed and its failure action is applied. -/
  | checkWindowEnd
  /-- SIG_PULSE_END (R229). The SIG_PULSE after STUCK_HIGH ends and the pull is released if no other case holds. -/
  | sigPulseEnd
  /-- SYNC_IN_EDGE (R249). A SYNC_IN rising edge advances the reference count, and a marked edge renumbers it. -/
  | syncInEdge
  /-- SYNC_IN_LOST (R247). No SYNC_IN edge within 1.25 periods, so the source becomes HOLDOVER. -/
  | syncInLost
  /-- CAUSE_GRANT (R398). The arbiter grants one cause: latch, count, stamp, class action, routing and log. -/
  | causeGrant
  /-- FLT_MIN_EXPIRY (R408). MIN after the latest assertion instant ends and FLT_N is released per MODE. -/
  | fltMinExpiry
  /-- SIGNAL_FALL (R411). SIGNAL_N has stayed low for 1 µs without the device's own pull: TT4 starts and FALL is
  raised. -/
  | signalFall
  /-- SIGNAL_STUCK_LOW (R411). SIGNAL_N has stayed low 2^STUCK_K ticks after a fall and STUCK_LOW is raised. -/
  | signalStuckLow
  /-- SIGNAL_RISE (R411). SIGNAL_N goes high and RELEASED is raised. -/
  | signalRise
  /-- TOKEN_GAIN (R449). The log token bucket gains one token every WEAR_T seconds. -/
  | tokenGain
  /-- VLV_RETURN (R483). VLV rises above 2.25 V and the LVDS outputs resume, sending K28.5 on downstream lanes with
  LINE_GO low. -/
  | vlvReturn
  /-- GOOD_RISE (R68). VCORE reaches 0.80 V, so GOOD becomes 1, the VCORE hold of right-away lifts, waiting rail
  turn-on delays may begin and VCORE_LOW clears. -/
  | goodRise
  /-- GOOD_FALL (R68). VCORE falls below 0.80 V, so GOOD becomes 0, RIGHTAWAY is held false at once and the 2-tick
  VCORE_LOW timer starts. -/
  | goodFall
  /-- REFERENCE_EDGE_INTERNAL (R247). The internal reference generator gives an edge at FINT, or at the held
  frequency in HOLDOVER, advancing the count modulo 8 and the SYNC_OUT repeat. -/
  | referenceEdgeInternal
deriving DecidableEq, Repr

end Sys2Proof
end

