-- ==== Sys2Proof/Decode.lean ====
section
/-! DEFINITION. The reading of command words. -/

namespace Sys2Proof

/-- The command that a word of the table spells. The table gives no row any bits: a command is an event, a line of text
or a register access, and none of them is a word; so no word spells one (assumption 8). -/
def decodeTableWord (_nbits _w : Nat) : Option Instr := none

end Sys2Proof
end

