-- ==== Sys2Proof/Config.lean ====
section
/-! DEFINITION. What the spec leaves open as a value: constants with no body, so that nothing can be proved of them. -/

namespace Sys2Proof.Config

/-- A free 32-bit value, drawn in turn by the counter `State.free` (assumption 3). Safe: any value is allowed. -/
opaque freeWord : Nat → Word

/-- The signature that the ROM holds for partition `bp` at silicon revision `rev`: R423 says it comes from the ROM and
gives no number (assumption 6). -/
opaque bistExpect : (rev bp : Nat) → Word

/-- The time in tenths of a millisecond that a WAIT reply estimates (R40 gives no formula), as a function of the
waiting work (assumption 7). -/
opaque waitEstimate : Nat → Nat

/-- What HEADn_MDATA reads, in its fields, of head `head` at an ENTRY of MSEL above 31,743, where the mirror has no entry
(assumption 28). -/
opaque mirrorBeyond : (head entry : Nat) → Nat

/-- What a LINE frame of head `head` for line `line` carries in a field to which the spec gives no content there: the WMAX, ECHO
and width fields of a NUMBER_ONLY frame, ECHO where ECHO_VALID is 0, WMAX of a test line (assumption 73). -/
opaque frameFill : (head line field : Nat) → Nat

end Sys2Proof.Config
end

