-- ==== Sys2Proof/Machine/Tab.lean ====
section
/-! DEFINITION. Sparse maps as plain data: a list of key and value pairs in one canonical form, keys strictly rising,
and no entry equal to what an unlisted key reads as. The registers, the buffers, the store and every numbered family
of units are held so. -/

namespace Sys2Proof.Machine

/-- A sparse map from numbers. -/
abbrev Tab (α : Type) := List (Nat × α)

/-- The listed entry of `k`, if any. -/
def Tab.find {α : Type} : Tab α → Nat → Option α
  | [], _ => none
  | (j, a) :: t, k => if j = k then some a else Tab.find t k

/-- What `k` reads as, `d k` where it is not listed. -/
def Tab.get {α : Type} (d : Nat → α) (t : Tab α) (k : Nat) : α := (t.find k).getD (d k)

/-- `t` without any entry of `k`. -/
def Tab.drop {α : Type} : Tab α → Nat → Tab α
  | [], _ => []
  | (j, a) :: t, k => if j = k then Tab.drop t k else (j, a) :: Tab.drop t k

/-- `t` with the entry of `k` placed in key order. -/
def Tab.insert {α : Type} : Tab α → Nat → α → Tab α
  | [], k, v => [(k, v)]
  | (j, a) :: t, k, v => if k < j then (k, v) :: (j, a) :: t else (j, a) :: Tab.insert t k v

/-- `t` with `v` at `k`: a value equal to what an unlisted key reads as removes the entry. -/
def Tab.put {α : Type} [DecidableEq α] (d : Nat → α) (t : Tab α) (k : Nat) (v : α) : Tab α :=
  if v = d k then t.drop k else (t.drop k).insert k v

/-- Keys strictly rising from above `lo`, and no entry at its default. -/
def Tab.wfFrom {α : Type} [DecidableEq α] (d : Nat → α) : Option Nat → Tab α → Bool
  | _, [] => true
  | lo, (j, a) :: t => (match lo with | none => true | some l => decide (l < j)) && decide (a ≠ d j) && Tab.wfFrom d (some j) t

/-- The canonical form. -/
def Tab.wf {α : Type} [DecidableEq α] (d : Nat → α) (t : Tab α) : Bool := Tab.wfFrom d none t

/-- The consecutive keys from `k` written with the values of a list. -/
def Tab.putList {α : Type} [DecidableEq α] (d : Nat → α) : Tab α → Nat → List α → Tab α
  | t, _, [] => t
  | t, k, v :: vs => Tab.putList d (t.put d k v) (k + 1) vs

/-- The values of `n` consecutive keys from `k`. -/
def Tab.getList {α : Type} (d : Nat → α) (t : Tab α) (k n : Nat) : List α := (List.range n).map fun i => t.get d (k + i)

end Sys2Proof.Machine
end

