-- ==== Sys2Proof/Machine/State.lean ====
section
/-! DEFINITION. The state of the block: the register words, everything the spec names beside them, the queue of waiting
commands, the two stop reasons, and the state after power-on reset. Plain data throughout. -/

namespace Sys2Proof.Machine

/-! ### Names -/

/-- The three parts of R2. -/
inductive Part where
  | uhk7344 | uhk7341 | uhk7340
deriving DecidableEq, Repr

/-- The device states of R6. -/
inductive Dev where
  | reset | selftest | run | bufferStop
deriving DecidableEq, Repr

/-- The cause of the last entry to RESET (R7). -/
inductive ResetCause where
  | por | resetn | corelow
deriving DecidableEq, Repr

/-- The fault classes of R401. -/
inductive Cls where
  | notice | caution | danger | bufferStop
deriving DecidableEq, Repr

/-- How a cause passes the collector (R396; `unlogged` is LOG_DROP of R415). -/
inductive CauseKind where
  | normal | logOnly | signalOnly | unlogged
deriving DecidableEq, Repr

/-! ### The fault collector and the Junction (14_faults_junction) -/

/-- A cause at the arbiter (R397). -/
structure Cause where
  /-- Event source 0 to 63. -/
  src : Nat
  /-- Cause number (R395). -/
  no : Nat
  /-- Which object of the source it names, for PRESENT. -/
  key : Nat := 0
  /-- Class before PROMOTE. -/
  cls : Cls
  /-- How it passes the collector. -/
  kind : CauseKind := .normal
  /-- The text of the notification after the class (R405, R108). -/
  text : String
  /-- First numeric field, or 0 (R398); none where the spec does not say in which unit the field is recorded. -/
  num : Option Nat := some 0
  /-- 0 for a cause held before RUN; else one more than the grants made when it arrived (R397, R399). -/
  epoch : Nat := 0
deriving DecidableEq, Repr

/-- The record of one source (R398). -/
structure SrcRec where
  /-- COUNT, saturating at 255. -/
  count : Nat := 0
  /-- FIRST cause since the last clear, 0 for none. -/
  first : Nat := 0
  /-- LAST cause, 0 for none. -/
  last : Nat := 0
  /-- Its effective class. -/
  lclass : Nat := 0
  /-- Stamp of the latest grant. -/
  tick : Nat := 0
deriving DecidableEq, Repr

/-- A log record waiting for the store, without its sequence number (R416, R444). -/
structure LogRec where
  /-- TYPE of R445: 1 EV, 2 MARK. -/
  typ : Nat := 1
  /-- Source. -/
  src : Nat
  /-- Low 32 bits of the tick counter at the grant. -/
  tick : Nat
  /-- PAYLOAD, six bytes. -/
  payload : List Byte
  /-- Effective class, by which the queue drops and the tokens are spent (R416, R449). -/
  cls : Nat
deriving DecidableEq, Repr

/-- The fault collector, the routing and the signal line. -/
structure FaultX where
  /-- Causes not yet granted, in order of arrival. -/
  causes : List Cause := []
  /-- Causes held until RUN (R399). -/
  held : List Cause := []
  /-- PRESENT causes as (source, cause, object) (R395). -/
  present : List (Nat × Nat × Nat) := []
  /-- The record of each source. -/
  srcs : Tab SrcRec := []
  /-- Grants made since power-on reset or RESET. -/
  grants : Nat := 0
  /-- Log records waiting for the store, oldest first; 32 at most (R416). -/
  logQ : List LogRec := []
  /-- MIN of FLT_N runs since the latest assertion instant (R408). -/
  fltMin : Bool := false
  /-- A qualifying grant has been made and, under LATCH, not released (R408). -/
  fltHeld : Bool := false
  /-- RELEASE was written while MIN runs: it takes effect at its end (R408). -/
  fltRel : Bool := false
  /-- EVT pins whose 1 µs pulse runs, a mask (R406). -/
  evtPulse : Nat := 0
  /-- Routed work of grants made while BP1 is under test (R432). -/
  waitRouted : List Cause := []
  /-- SIGNAL_N as it stands at the ball, apart from the device's own pull (R411). -/
  sigHigh : Bool := true
  /-- The line has been recognised as fallen and has not gone high since (R411). -/
  sigFallen : Bool := false
  /-- The STUCK_LOW timer (R411). -/
  stuckAt : Option Nat := none
  /-- LOG_DROP has been raised since the queue was last empty (R416). -/
  dropTold : Bool := false
deriving DecidableEq, Repr

/-! ### Felten (02_felten) -/

/-- What an output item is (R45, R47). -/
inductive OutKind where
  | reply | notice | done | lost | echo
deriving DecidableEq, Repr

/-- Mode, baud rate and flow control of a port (R50). -/
structure PortSet where
  /-- STRICT mode. -/
  strict : Bool
  /-- Baud rate. -/
  baud : Nat
  /-- FLOW=RTSCTS. -/
  flow : Bool
deriving DecidableEq, Repr

/-- What a PORT line changes: the settings it names, the others left as they are when it takes effect (R50). -/
structure PortChange where
  /-- MODE. -/
  strict : Option Bool := none
  /-- BAUD. -/
  baud : Option Nat := none
  /-- FLOW. -/
  flow : Option Bool := none
deriving DecidableEq, Repr

/-- Settings with a change made (R50). -/
def PortSet.after (d : PortSet) (c : PortChange) : PortSet :=
  { strict := c.strict.getD d.strict, baud := c.baud.getD d.baud, flow := c.flow.getD d.flow }

/-- One item of a port's output sequence (R50). -/
structure OutItem where
  /-- What it is. -/
  kind : OutKind
  /-- The text, without the CR LF that ends a line. -/
  text : String
  /-- Port settings that take effect when this item has been sent (R50). -/
  apply : Option (PortId × PortChange) := none
deriving DecidableEq, Repr

/-- What a port subscribes to (R46). -/
structure Subs where
  /-- Sources selected one by one, a 64-bit mask. -/
  mask : Nat := 0
  /-- Every source at or above `cls` is selected. -/
  clsEn : Bool := false
  /-- The minimum class. -/
  cls : Nat := 0
  /-- PULL notices are selected. -/
  pull : Bool := false
deriving DecidableEq, Repr

/-- A command port. -/
structure PortX where
  /-- Bytes of the line in progress, after editing, at most 160. -/
  rx : List Byte := []
  /-- Characters of the line in progress beyond 160, not stored (R31). -/
  extra : Nat := 0
  /-- The line in progress holds a byte that R32 forbids. -/
  bad : Bool := false
  /-- The line in progress is discarded up to its terminator (R11, R53). -/
  skip : Bool := false
  /-- It is discarded for an overrun, which the terminator answers (R53). -/
  overrun : Bool := false
  /-- The last byte was a CR (R30). -/
  cr : Bool := false
  /-- Settings in use. -/
  set : PortSet
  /-- RTS asserted (R52). -/
  rts : Bool := true
  /-- CTS asserted (R52). -/
  cts : Bool := true
  /-- Subscriptions. -/
  subs : Subs
  /-- Output sequence, oldest first. -/
  out : List OutItem := []
  /-- Notifications dropped since the queue was full (R48). -/
  dropped : Nat := 0
  /-- Bytes of the first output item already clocked out on MISO (R55). -/
  clocked : Nat := 0
  /-- MISO of the last frame (R55). -/
  miso : List Byte := []
  /-- The last line that left the port, without CR LF. -/
  sent : String := ""
deriving DecidableEq, Repr

/-- A complete line that waits for its grant (R57, R60). -/
structure Waiting where
  /-- The port. -/
  port : PortId
  /-- The line. -/
  line : Line
  /-- How many grants had been made when its terminator arrived. -/
  epoch : Nat
deriving DecidableEq, Repr

/-- A command answered QUEUED and not yet completed (R43). -/
structure Owed where
  /-- The port. -/
  port : PortId
  /-- Verb and object as the DONE line writes them. -/
  what : String
  /-- The tag. -/
  tag : Option Nat
deriving DecidableEq, Repr

/-! ### Core supply, timebase and Freight (03_self_timed_core) -/

/-- A Freight job, of one head or phase where it has a period for each (R87 to R90). -/
structure JobX where
  /-- Start of the period in progress: the last completion, or since when the condition has held if that is later. -/
  since : Option Nat := none
  /-- LATE has been raised for this period (R88). -/
  late : Bool := false
  /-- Its partition is under test since (R436). -/
  paused : Option Nat := none
  /-- The last completion, as (end tick, ticks taken) (R90). -/
  last : Option (Nat × Nat) := none
deriving DecidableEq, Repr

/-- VCORE, rod and Freight. -/
structure CoreX where
  /-- Present VCORE in mV. -/
  vcore : Nat := 900
  /-- The level in force is STBY_LVL (R66). -/
  stby : Bool := false
  /-- Since when the standby conditions have held together (R66). -/
  stbyAt : Option Nat := none
  /-- The tick of the last change of level (R93, R94). -/
  levelAt : Nat := 0
  /-- The tick of the last refresh of the references (R94). -/
  refAt : Nat := 0
  /-- The 2-tick timer of VCORE_LOW (R69). -/
  lowAt : Option Nat := none
  /-- Fine trim of the ring in 2 ppm steps (R76). -/
  fine : Int := 0
  /-- Coarse trim (R77). -/
  coarse : Nat := 0
  /-- Coarse search steps made since the rod left STOPPED (R77). -/
  coarseN : Nat := 0
  /-- Start of the rod window or coarse step in progress (R76, R77). -/
  winAt : Option Nat := none
  /-- Consecutive windows outside 20 ppm (R77). -/
  outRun : Nat := 0
  /-- The newest published calibration: window count and tap codes (R76). -/
  calCount : Nat := 0
  /-- Codes of the eight delay-line taps. -/
  calTaps : List Nat := []
  /-- Generation each consumer uses, by consumer number (R78). -/
  gens : Tab (Option Nat) := []
  /-- The Freight jobs, by 32 × job + head or phase (R87 to R90). -/
  jobs : Tab JobX := []
  /-- Lines granted since the last Freight grant (R83). -/
  passRun : Nat := 0
  /-- Test-oscillator trim (R490). -/
  oscTrim : Nat := 0
deriving DecidableEq, Repr

/-! ### Window monitors and converters (04_window_monitors) -/

/-- One monitor state (R100). -/
inductive MonState where
  | unsettled | below | inside | above
deriving DecidableEq, Repr

/-- What CELLSCAN keeps for one cell (R96). -/
structure CellX where
  /-- State of the cell. -/
  st : MonState := .unsettled
  /-- The move that consecutive samples call for, and how many (R101). -/
  tgt : Option MonState := none
  /-- How many consecutive samples call for `tgt`. -/
  cnt : Nat := 0
  /-- Last converted value, none before the first since UNSETTLED (R112). -/
  val : Option Nat := none
deriving DecidableEq, Repr

/-- A window monitor. Its STATE, LAST and MISS stand in its status register. -/
structure MonX where
  /-- The move that consecutive samples call for (R101). -/
  tgt : Option MonState := none
  /-- How many consecutive samples call for `tgt`. -/
  cnt : Nat := 0
  /-- A blanking window is open (R106). -/
  blank : Bool := false
  /-- A sample waits for the window or the refresh to end (R107). -/
  wait : Bool := false
  /-- Consecutive missed samples (R107). -/
  missRun : Nat := 0
  /-- The tick edge of the last sample (R93). -/
  lastAt : Nat := 0
  /-- THR and CONFIRM as a sample whose wake has begun found them (R104). -/
  wake : Option (Word × Nat) := none
  /-- Since when its samples have read INSIDE (R218). -/
  goodAt : Option Nat := none
  /-- Since when its samples have found its rail good (R212, R218). -/
  railAt : Option Nat := none
  /-- The cells of CELLSCAN, by cell number from 0 (R96). -/
  cells : Tab CellX := []
  /-- The next cell to be converted (R96). -/
  nextCell : Nat := 0
deriving DecidableEq, Repr

/-- Who asked for a conversion (R105). -/
inductive AdcReq where
  | monitor (n : Nat)
  | voc (i : Nat)
  | freight
deriving DecidableEq, Repr

/-- A shared converter (R105). -/
structure AdcX where
  /-- The conversion in progress. -/
  busy : Option AdcReq := none
  /-- Monitors that wait, as a mask. -/
  mons : Nat := 0
  /-- Freight requests that wait, in order. -/
  freight : List AdcReq := []
deriving DecidableEq, Repr

/-! ### Harvest, keep-alive and relay (05_harvest, 06_reservoir) -/

/-- Where an open-circuit sample of a harvest input stands (R121). -/
inductive VocPhase where
  | none | dwell | convert
deriving DecidableEq, Repr

/-- A harvest input. OP, VOC, STATE, PULLED and FIXED_LIM stand in its status register. -/
structure HarvX where
  /-- The input's own comparator clamps it (R117). -/
  clampOwn : Bool := false
  /-- The supervising monitor clamps it (R117). -/
  clampMon : Bool := false
  /-- Open-circuit sample in progress (R121). -/
  voc : VocPhase := .none
  /-- The conversion in progress belongs to settings since changed: its result is discarded (R124). -/
  discard : Bool := false
  /-- VOC was below the range: idle until the next sample (R121). -/
  idle : Bool := false
  /-- When the next open-circuit sample is due (R121). -/
  nextAt : Option Nat := none
  /-- End of the dwell (R121). -/
  dwellAt : Option Nat := none
  /-- MPPSET read below 10 mV (R120). -/
  off : Bool := false
deriving DecidableEq, Repr

/-- A KEY pulse in progress (R125). -/
inductive KeyPulse where
  | none | press | release
deriving DecidableEq, Repr

/-- The keep-alive source (R127). -/
inductive KaSource where
  | harvest | reservoir | backup
deriving DecidableEq, Repr

/-- The always-on domain, the supplies and the reset conditions. -/
structure AonX where
  /-- The always-on domain runs (R114). -/
  running : Bool := false
  /-- VDRV at 4.50 V or more and not since below its lower level (R129, R484). -/
  vdrvOk : Bool := false
  /-- VIO present (R482). -/
  vioOk : Bool := true
  /-- VLV present (R483). -/
  vlvOk : Bool := true
  /-- The core supply has been qualified by VDRV or by the source since VKA was last below CORE_LOW or power-on reset ended,
  and is no longer by that (R129). -/
  coreQual : Bool := false
  /-- The device has left RESET since the last power-on reset (R133). -/
  leftReset : Bool := false
  /-- COLD_SHOT is owed at the next entry to RUN (R134). -/
  shotOwed : Bool := false
  /-- KEY_WEAK is owed at the next entry to RUN (R134). -/
  weakOwed : Bool := false
  /-- The feed stopped for a low stack: it needs 1.05 V (R127). -/
  feedLow : Bool := false
  /-- The converters stand stopped by the VKA clamp (R126). -/
  vkaClamp : Bool := false
  /-- The drain switch is closed (R413). -/
  drain : Bool := false
  /-- The KEY pulse in progress (R125). -/
  keyPulse : KeyPulse := .none
  /-- A hold runs since this tick (R413). -/
  keyHold : Option Nat := none
  /-- The crystal is the tick source (R73). -/
  xtal : Bool := false
deriving DecidableEq, Repr

/-- Why a relay pulse was requested; what its end must report (R43, R155, R156). -/
inductive RelayWhy where
  | command (p : PortId) (tag : Option Nat)
  | register
  | step
  /-- A step of a timetable that has ended since. -/
  | past
  | topup
  | full
  | recovery
  | bufferStop
deriving DecidableEq, Repr

/-- A relay request: which coil, and why. -/
structure RelayReq where
  /-- RELAY_SET, or RELAY_CLR. -/
  set : Bool
  /-- Why. -/
  why : RelayWhy
deriving DecidableEq, Repr

/-- Kinds of closure (R156, R167). -/
inductive Closure where
  | none | topup | normal
deriving DecidableEq, Repr

/-- The mains relay. STATE, CUT, UNARMED, REFUSED and COUNT stand in its status register. -/
structure RelayX where
  /-- The request that waits for the gap or for arming (R152). -/
  wait : Option RelayReq := none
  /-- The pulse that runs, and the tick at which its width ends (R152). -/
  run : Option (RelayReq × Nat) := none
  /-- The cold-start shot runs (R133). -/
  shot : Option Nat := none
  /-- End of the gap after the last pulse (R152). -/
  gapAt : Option Nat := none
  /-- When a pulse not armed is abandoned (R131). -/
  armAt : Option Nat := none
  /-- Kind of the present closure (R156). -/
  closure : Closure := .none
  /-- The 2,048 ticks after a top-up that ended without the relay closed (R156). -/
  retryAt : Option Nat := none
  /-- End of the mains wait (R157). -/
  mainsAt : Option Nat := none
  /-- MAINS_OK has been qualified true in the mains wait that runs (R157). -/
  mainsMet : Bool := false
deriving DecidableEq, Repr

/-! ### Bridge and stack (06_reservoir) -/

/-- The bridge and the stack. -/
structure BridgeX where
  /-- Qualification of MAINS_OK (R147). -/
  qualAt : Option Nat := none
  /-- The FULL condition has held since (R140). -/
  fullAt : Option Nat := none
  /-- Absorbed current at zero since (R143). -/
  absAt : Option Nat := none
  /-- A limit has bound since (R145). -/
  limAt : Option Nat := none
  /-- No limit has bound since (R163). -/
  freeAt : Option Nat := none
  /-- Consecutive cycles above 1.5 × ILIM, phase 0 (R148). -/
  short0 : Nat := 0
  /-- The same, phase 1. -/
  short1 : Nat := 0
  /-- The phase skips its next cycle (R148), a mask of the two phases. -/
  skip : Nat := 0
  /-- The phases whose on-time has been ended by ILIM in this cycle, a mask (R148). -/
  ended : Nat := 0
  /-- The phases whose current has been above 1.5 × ILIM in this cycle, a mask (R148). -/
  above : Nat := 0
  /-- The bus monitor has moved to ABOVE and ABSORB has not yet been entered on it (R143). -/
  absEdge : Bool := false
  /-- The absorbed current has been zero for its time: ABSORB ends with the switching cycle in progress (R143, R144). -/
  absOver : Bool := false
  /-- CHARGE has been in force since (R145). -/
  chgAt : Option Nat := none
  /-- When each balancing output went high (R142), by cell from 0. -/
  balAt : Tab (Option Nat) := []
deriving DecidableEq, Repr

/-! ### Gauge (07_gauge_rightaway) -/

/-- An open capacitance span (R172). -/
structure SpanX where
  /-- Steady since this tick. -/
  since : Nat
  /-- Sum and number of the current measurements, mA. -/
  sumI : Int
  /-- How many measurements `sumI` adds. -/
  n : Nat
  /-- Stack voltage code at which the span opened, none while the 64 ticks run. -/
  v0 : Option Nat
  /-- Charge counted since it opened, in mA × ns. -/
  q : Int
deriving DecidableEq, Repr

/-- The gauge. CLAIMS, the learned values and the counters stand in its registers. -/
structure GaugeX where
  /-- Stack voltage code and current in mA of the bridge cycle before (R174). -/
  prev : Option (Nat × Int) := none
  /-- A stack measurement has been made since entry to RUN (R171). -/
  fresh : Bool := false
  /-- E_raw, whole joules (R191). -/
  eRaw : Nat := 0
  /-- E_avail, whole joules (R171). -/
  eAvail : Nat := 0
  /-- BUDGET in force behind PEND_LOWER (R179). -/
  budget : Nat := 900
  /-- FLOOR_RES in force (R179). -/
  floor : Nat := 250
  /-- FORCE in force (R179). -/
  force : Bool := false
  /-- B_LEARNED in force (R179). -/
  learned : Nat := 0
  /-- The learning span (R172). -/
  span : Option SpanX := none
  /-- Learned entries in nJ of the stack side, newest first (R177). -/
  entries : List Nat := []
  /-- Bus-load energy since the last release, nJ of the stack side (R177). -/
  acc : Nat := 0
  /-- RIGHTAWAY has been high since entry to RUN (R183). -/
  raEver : Bool := false
  /-- RESERVE_SHORT stands (R187). -/
  short : Bool := false
  /-- The learned budget is in force and its notice sent (R178). -/
  learnedOn : Bool := false
  /-- CAL GAUGE waits for CLAIMS 0 (R194). -/
  calPend : Bool := false
  /-- Stack power of the measurements of the last second, newest first: the tick, the sum of voltage code times mA of its
  measurements, and how many they are (R176). -/
  power : List (Nat × Int × Nat) := []
  /-- The mean over the last second as the latest measurement found it: a sum in voltage code times mA, and the ticks it spans;
  0 ticks before the first (R176). -/
  mean : Int × Nat := (0, 0)
  /-- In sustained SUPPORT above 20 W since (R175). -/
  etaFrom : Option Nat := none
deriving DecidableEq, Repr

/-! ### Timetables (08_timetables) -/

/-- What a running timetable waits for (R199). -/
inductive TtWait where
  /-- The next step may be taken. -/
  | ready
  /-- A DISABLE of a rail, until its fall procedure ends. -/
  | fall (r : Nat)
  /-- A relay step, until its pulse completes, is abandoned or is refused (R155). -/
  | relay
  /-- A WAIT: its condition, event source, action, and the tick at which its time or timeout ends. -/
  | wait (cond evsrc act : Nat) (till : Option Nat)
  /-- A CHECK: kind, index, action, dwell exponent, chatter limit, chatters so far, end of the window, start of the step,
  and whether the object was good at the last sample. -/
  | check (kind idx act dwell chatter seen till since : Nat) (wasGood : Bool)
  /-- A MARGIN with WAIT, until TARGET_REACHED of the rail. -/
  | margin (r : Nat)
  /-- Holding at a step that failed with ACT FAULT, until TT4 abandons it (R219). -/
  | held
deriving DecidableEq, Repr

/-- A running timetable. -/
structure TtRun where
  /-- Number. -/
  tt : Nat
  /-- Step index in progress. -/
  step : Nat := 0
  /-- What it waits for. -/
  wait : TtWait := .ready
  /-- How often each JUMP with a limit has been taken, by step index (R221). -/
  jumps : Tab Nat := []
  /-- A step of it pulls SIGNAL_N (R229). -/
  pull : Bool := false
  /-- It was started by the device's own DANGER fault (R229). -/
  danger : Bool := false
deriving DecidableEq, Repr

/-- A pending start (R205), with the line that a DONE must answer. -/
structure TtPend where
  /-- Number. -/
  tt : Nat
  /-- Source of the request. -/
  src : StartSrc
  /-- The START line answered QUEUED. -/
  owed : Option Owed := none
deriving DecidableEq, Repr

/-- The staging buffer (R231). -/
structure Staging where
  /-- Port that opened it. -/
  port : PortId
  /-- Timetable. -/
  tt : Nat
  /-- Step count. -/
  n : Nat
  /-- CRC announced. -/
  crc : Nat
  /-- Words stored, by step index; a missing word is not listed. -/
  words : Tab (Option Word) := []
deriving DecidableEq, Repr

/-- A commit asked for (R232). -/
structure CommitReq where
  /-- Timetable. -/
  tt : Nat
  /-- Its words, the header first; none for an ERASE. -/
  words : List Word
  /-- The line that a DONE must answer. -/
  owed : Owed
deriving DecidableEq, Repr

/-- A commit in progress (R455). -/
structure Commit where
  /-- What was asked for. -/
  req : CommitReq
  /-- Words of the new area in use, from word 0 on. -/
  area : List Word
  /-- Next slot to be written. -/
  slot : Nat
  /-- First slot not to be written. -/
  stop : Nat
  /-- TT_BEGIN has been written. -/
  begun : Bool := false
deriving DecidableEq, Repr

/-- The executor and the loader. -/
structure TtX where
  /-- RAM copy of the timetable area, erased where not listed (R456). -/
  ram : Tab Word := []
  /-- The running timetable. -/
  run : Option TtRun := none
  /-- The pending slot (R205). -/
  pend : Option TtPend := none
  /-- Last MARK of each timetable since reset (R233). -/
  marks : Tab (Option Nat) := []
  /-- The staging buffer (R231). -/
  staging : Option Staging := none
  /-- The commit in progress (R455). -/
  commit : Option Commit := none
  /-- Commits that wait for it, in order. -/
  commits : List CommitReq := []
  /-- AUTOBOOT has still to start TT0 (R211). -/
  bootPend : Bool := false
  /-- SIG_PULSE of a STUCK_HIGH runs until this tick (R229). -/
  sigPulseAt : Option Nat := none
  /-- Starts that wait, in order: a DANGER fault, a fall, or a route asked for them (R205, R206). -/
  asked : List (Nat × StartSrc) := []
deriving DecidableEq, Repr

/-! ### Rails and phases (09_phase_control, 10_rail_targets, 11_rail_protection) -/

/-- The fall procedure of a rail (R224, R226). -/
structure Fall where
  /-- T1 in ticks. -/
  t1 : Nat
  /-- T2 in ticks. -/
  t2 : Nat
  /-- The timetable and step that wait for it; none in the background. -/
  by_ : Option (Nat × Nat)
  /-- 0 waits for its shed dependents; 1 turning off; 2 T1 runs; 3 discharge, T2 runs. -/
  stage : Nat
  /-- End of the timer of this stage. -/
  till : Option Nat := none
  /-- The dependents shed with it, a mask of rails (R226). -/
  deps : Nat := 0
deriving DecidableEq, Repr

/-- The lasting state of a rail beside its registers. -/
structure RailX where
  /-- Words still in force until the rail's next trigger, by register address (R272, R276, R298). -/
  use : Tab (Option Word) := []
  /-- End value of V_CMD, mV (R279). -/
  vEnd : Nat := 0
  /-- Slew of the ramp in progress, 0.1 mV/µs. -/
  slew : Nat := 0
  /-- Turn-on or turn-off delay runs until this tick (R278, R280). -/
  dlyAt : Option Nat := none
  /-- The fall procedure. -/
  fall : Option Fall := none
  /-- Phases drive the low side since V_REF met the sense (R244). -/
  lowSide : Bool := false
  /-- The phase that fired last (R245). -/
  last : Option Nat := none
  /-- A trigger is held for want of an eligible phase (R245). -/
  held : Bool := false
  /-- The phases that have skipped the trigger held, a mask (R300). -/
  passed : Nat := 0
  /-- A limited cycle or trip has occurred since the last rank-0 start (R301). -/
  lim : Bool := false
  /-- Consecutive limited rank-0 cycles (R302). -/
  limRun : Nat := 0
  /-- Consecutive rank-0 cycles not limited, in an overload interval (R304). -/
  okRun : Nat := 0
  /-- ON without a limited cycle since (R302). -/
  cleanFrom : Option Nat := none
  /-- End of the hiccup off-time (R302). -/
  hicAt : Option Nat := none
  /-- Overload timer (R304). -/
  ovlAt : Option Nat := none
  /-- Phases that tripped in this rank-0 cycle, a mask (R305). -/
  tripSet : Nat := 0
  /-- Consecutive rank-0 cycles meeting the rail condition (R305). -/
  tripRun : Nat := 0
  /-- Consecutive lock measurements within 1/64 turn (R253). -/
  lockOk : Nat := 0
  /-- Consecutive lock measurements beyond 1/16 turn (R253). -/
  lockBad : Nat := 0
  /-- LOCK_P times 4,096, turns (R252). -/
  lockP : Int := 0
  /-- LOCK_I in 1/65,536 of 1, finer than the register reports (R252). -/
  lockI : Int := 0
  /-- Rank-0 cycles for which the loop holds (R252). -/
  lockHold : Nat := 0
  /-- Rank-0 cycles for which LOCK_LOST is not raised (R253). -/
  lockGuard : Nat := 0
  /-- Rank-0 cycles for which balancing skips (R256). -/
  balSkip : Nat := 0
  /-- The balance interval in progress overlaps a ramp or the skip of R256 (R264). -/
  balBad : Bool := true
  /-- Rank-0 cycles of the balance interval in progress (R264). -/
  balCyc : Nat := 0
  /-- Rail currents of the light-load average in progress, 10 mA, one for each rank-0 cycle (R254). -/
  lightSum : Int := 0
  /-- How many `lightSum` adds. -/
  lightN : Nat := 0
  /-- The sum of the last 32; none since a shed or an add (R254). -/
  lightAvg : Option Int := none
  /-- All-phase response in progress (R286). -/
  resp : Bool := false
  /-- The sense has come back to V_REF − NL_THR/2 in the response in progress (R286). -/
  respBack : Bool := false
  /-- Ticks of the recent responses, newest first, at most 16 (R287). -/
  respAt : List Nat := []
  /-- I_BASE, mA (R288). -/
  iBase : Int := 0
  /-- The phases sampled since a set of samples with no strobe in progress began, a mask (R288). -/
  baseSet : Nat := 0
  /-- V_pred of each group of the latest line, mV; none where it was not formed (R288, R290). -/
  vpreds : List Nat := []
  /-- Boost currents of the lines reported, newest first: line number modulo 65,536, and the currents in µA by group
  (R289). A line without a report has none (R290). -/
  boosts : List (Nat × List Nat) := []
  /-- Lines missed in the present fall-back (R290). -/
  antLines : Nat := 0
  /-- Consecutive conversions at or above OT_WARN (R309). -/
  warnRun : Nat := 0
  /-- Consecutive conversions below OT_WARN − 10 °C (R309). -/
  coolRun : Nat := 0
  /-- Consecutive conversions at or above OT_SHUT (R309). -/
  shutRun : Nat := 0
  /-- Consecutive conversions below 0.360 V (R309). -/
  openRun : Nat := 0
  /-- Consecutive conversions at or above 0.360 V (R309). -/
  closeRun : Nat := 0
deriving DecidableEq, Repr

/-- The lasting state of a phase beside its registers. -/
structure PhX where
  /-- In an on-time (R245). -/
  on : Bool := false
  /-- MIN_OFF has passed since the last on-time (R245). -/
  elig : Bool := true
  /-- Ineligible until the current has fallen below I_PH (R299). -/
  limited : Bool := false
  /-- It skips its next trigger (R300). -/
  skip : Bool := false
  /-- Its PWM is tri-stated. -/
  tri : Bool := true
  /-- The on-time belongs to an all-phase response (R286). -/
  resp : Bool := false
  /-- The response found it in progress and continued it (R285). -/
  cont : Bool := false
  /-- It has lasted its value under R242 (R286). -/
  minOk : Bool := false
  /-- Consecutive on-times at the lower limit (R242). -/
  minRun : Nat := 0
  /-- Consecutive on-times at the upper limit (R242). -/
  maxRun : Nat := 0
  /-- Consecutive on-times at neither limit (R268). -/
  freeRun : Nat := 0
  /-- Offset conversions of the set in progress (R260). -/
  ofsN : Nat := 0
  /-- Their sum, codes. -/
  ofsSum : Nat := 0
  /-- A set has been adopted since reset (R260). -/
  ofsAny : Bool := false
  /-- It has started an on-time in the rank-0 cycle in progress (R312). -/
  fired : Bool := false
  /-- Consecutive rank-0 cycles that read open (R312). -/
  openRun : Nat := 0
  /-- Consecutive samples at code 0 or 1,023 (R312). -/
  endRun : Nat := 0
  /-- Consecutive samples at one code (R312). -/
  sameRun : Nat := 0
  /-- Consecutive samples below −I_PH/2 (R312). -/
  negRun : Nat := 0
  /-- Lowest and highest code of the other ACTIVE phases at the samples of that run, newest first, at most 64 (R312). -/
  spans : List (Nat × Nat) := []
  /-- Sum of its samples in the balance interval in progress, 10 mA (R264). -/
  balSum : Int := 0
  /-- How many `balSum` adds. -/
  balN : Nat := 0
  /-- Consecutive switching cycles of its own with a trip (R305). -/
  trips : Nat := 0
  /-- A trip occurred in its present cycle. -/
  tripped : Bool := false
  /-- A change to this state waits for the rail's next trigger (R256). -/
  pend : Option Nat := none
  /-- The discharge of its rail holds its low side on (R227). -/
  sink : Bool := false
  /-- A calibration is queued for a line (R262). -/
  calOwed : List Owed := []
deriving DecidableEq, Repr

/-- One copy of the switching reference and of the VINS converter (R243, R247 to R250, R266). -/
structure SyncX where
  /-- SOURCE: 0 INTERNAL, 1 EXTERNAL, 2 HOLDOVER. -/
  src : Nat := 0
  /-- SYNC_IN is qualified (R247). -/
  qual : Bool := false
  /-- A mark has been recognised since the last change of SOURCE (R249). -/
  anchored : Bool := false
  /-- Latest sample of VINS, 50 mV codes (R243). -/
  vin : Nat := 0
  /-- Frequency of SYNC_IN as the last window that passed measured it, Hz: the reference under EXTERNAL and HOLDOVER. -/
  hold : Nat := 0
  /-- The last window broke R248. -/
  range : Bool := false
  /-- Reference edges modulo 8 (R249). -/
  cnt : Nat := 0
  /-- Frequency of the last window, Hz (R247). -/
  f : Nat := 0
  /-- Consecutive windows that pass (R247). -/
  okWins : Nat := 0
  /-- The first edge after a change of SOURCE has still to come (R249). -/
  fresh : Bool := true
  /-- The count at the last rising edge of SYNC_IN, to be renumbered by a mark (R249). -/
  atEdge : Nat := 0
  /-- The level of SYNC_OUT follows the reference (R250); high time in eighths of the period, 0 while OUT_EN is 0. -/
  outHigh : Nat := 0
deriving DecidableEq, Repr

/-! ### Store and self-test (15_self_test, 16_nv_store) -/

/-- What a slot write is for: a queued log record, a LAP record (R448), the records around a commit (R455), a slot of a
commit, of a save, or a scrub refresh. -/
inductive SlotWhy where
  | log
  | lap
  | ttBegin
  | ttEnd
  | commit
  | save
  | scrub
deriving DecidableEq, Repr

/-- A slot write in progress (R441). -/
structure SlotJob where
  /-- Slot number. -/
  slot : Nat
  /-- The 16 bytes. -/
  bytes : List Byte
  /-- Why. -/
  why : SlotWhy
  /-- The write has been repeated once. -/
  again : Bool := false
deriving DecidableEq, Repr

/-- A configuration save in progress (R452). -/
structure SaveJob where
  /-- Bank written. -/
  bank : Nat
  /-- The 1,024 bytes of the bank. -/
  bytes : List Byte
  /-- Next of the 64 slots. -/
  next : Nat := 0
  /-- Generation. -/
  gen : Nat
  /-- The line that a DONE must answer. -/
  owed : Option Owed := none
deriving DecidableEq, Repr

/-- The nonvolatile store and its controller. -/
structure StoreX where
  /-- The 8 KB, erased where not listed (R440). -/
  bytes : Tab Byte := []
  /-- The slot write in progress. -/
  job : Option SlotJob := none
  /-- The save in progress. -/
  save : Option SaveJob := none
  /-- Slots that wait for a scrub refresh (R458). -/
  refresh : List Nat := []
  /-- The bank in use as kept in RAM (R453): its 1,024 bytes, none where no bank is in use. -/
  bank : List Byte := []
  /-- The words of the image by address, without those set aside (R453). -/
  image : Tab (Option Word) := []
  /-- The next slot to scrub (R458). -/
  scrubAt : Nat := 0
  /-- The log holds no record. -/
  empty : Bool := true
deriving DecidableEq, Repr

/-- Who started a test (R431). -/
inductive BistBy where
  | powerup
  | line (o : Owed)
  | register
deriving DecidableEq, Repr

/-- A test queued or running (R425 to R433). -/
structure BistRun where
  /-- Partition. -/
  bp : Nat
  /-- Who started it. -/
  how : BistBy
  /-- Patterns are being applied; else the first check is awaited. -/
  running : Bool := false
deriving DecidableEq, Repr

/-- The self-test controller. -/
structure BistX where
  /-- The test queued or running. -/
  run : Option BistRun := none
  /-- The first check of the power-up run failed (R430). -/
  cold : Bool := false
  /-- A check of the power-up run has been made. -/
  checked : Bool := false
  /-- Claims counted by BP0 during a test of BP6 (R432). -/
  copy : Nat := 0
  /-- UNPERMITTED counted meanwhile. -/
  copyUnp : Nat := 0
  /-- OVERFLOW counted meanwhile. -/
  copyOvf : Nat := 0
  /-- Releases counted meanwhile. -/
  copyRel : Nat := 0
  /-- The causes of source 47 that wait for the release, in edge order (R432): cause number and class. -/
  copyCauses : List Nat := []
deriving DecidableEq, Repr

/-! ### Heads (12_line_timing, 13_exposure_dose) -/

/-- Where the training or the attach of a link stands (R328, R331, R357). -/
inductive LinkStep where
  | idle
  | sets
  | probe
  | memory (blk tries : Nat)
  | trims (chip tries : Nat)
deriving DecidableEq, Repr

/-- A sideband field (R326). -/
structure Side where
  /-- OP: 0 NONE, 1 TRIM_RD, 2 TRIM_WR. -/
  op : Nat := 0
  /-- CHIP. -/
  chip : Nat := 0
  /-- IDX. -/
  idx : Nat := 0
  /-- DATA as four trims, lowest emitter first. -/
  data : List Nat := [0, 0, 0, 0]
deriving DecidableEq, Repr

/-- A REPORT frame of a head, decoded (R325). -/
structure Report where
  /-- LINE, modulo 65,536. -/
  line : Nat
  /-- LIT0 to LIT3. -/
  lits : List Nat
  /-- TSEG0 to TSEG7; 0x3FF is invalid. -/
  tseg : List Nat
  /-- VHEAD in 2 mV units. -/
  vhead : Nat
  /-- READY. -/
  ready : Bool := true
  /-- FRAME_BAD. -/
  frameBad : Bool := false
  /-- ECHO_MISMATCH. -/
  echoMismatch : Bool := false
  /-- V_VALID. -/
  vValid : Bool := true
  /-- OVERLAP. -/
  overlap : Bool := false
  /-- Sideband reply. -/
  side : Side := {}
deriving DecidableEq, Repr

/-- What a sideband request is for (R358, R361, R362). -/
inductive SideFor where
  | scrub | verify | repair
deriving DecidableEq, Repr

/-- The sideband request outstanding (R326). -/
structure SideReq where
  /-- TRIM_WR, else TRIM_RD. -/
  write : Bool
  /-- Chip. -/
  chip : Nat
  /-- Index of the four trims. -/
  idx : Nat
  /-- The four trims that TRIM_WR carries. -/
  data : List Nat := [0, 0, 0, 0]
  /-- What it is for. -/
  why : SideFor
  /-- TRIM_WR repeated once (R362). -/
  again : Bool := false
  /-- It has left the device: in a SIDE frame, or in the LINE frame last sent (R326). -/
  out : Bool := false
deriving DecidableEq, Repr

/-- An entry of the dead list (R384). -/
structure DeadEntry where
  /-- Emitter. -/
  e : Nat
  /-- DEAD, else WEAK. -/
  dead : Bool
  /-- Relative response in 1/256. -/
  resp : Nat
deriving DecidableEq, Repr

/-- A pulse fixed in time and not yet risen (R335). -/
structure Pulse where
  /-- Line. -/
  line : Nat
  /-- Group. -/
  group : Nat
  /-- Rod time in 0.5 ns taps. -/
  t : Nat
deriving DecidableEq, Repr

/-- What the LINE_GO pair drives (R339). -/
inductive LineGo where
  | low | group0 | later
deriving DecidableEq, Repr

/-- A light-gate run queued or running (R379 to R386). -/
structure LgRun where
  /-- It runs; else it waits for CLAIMS 0. -/
  running : Bool := false
  /-- Test line. -/
  j : Nat := 0
  /-- The test line has been repeated once (R380). -/
  again : Bool := false
  /-- Responses of the chip in progress in codes, newest first (R381). -/
  resps : List Int := []
  /-- Failed emitters found, in order. -/
  found : List DeadEntry := []
  /-- The line that a DONE must answer. -/
  owed : Option Owed := none
deriving DecidableEq, Repr

/-- The width set of a line (R364). -/
structure Widths where
  /-- Line. -/
  line : Nat
  /-- Strobe widths of the 248 chips in 4 ns units. -/
  w : List Nat
  /-- It is a fall-back line (R371). -/
  fb : Bool
  /-- PRIME in 4 ns units (R371). -/
  prime : Nat := 0
  /-- WMAX of the line in 4 ns units (R341). -/
  wmax : Nat := 0
  /-- The lit counts of the REPORT accepted: with them ECHO_VALID is 1 (R324, R342). -/
  echo : Option (List Nat)
  /-- Factors used, by segment, in 1/8,000,000. -/
  tfac : List Int
  /-- Factors used, by group, in 1/(4,096 × V_REF). -/
  vfac : List Int
  /-- Segments frozen, a mask. -/
  frozenT : Nat
  /-- Voltage frozen. -/
  frozenV : Bool
deriving DecidableEq, Repr

/-- A head with its link, its line timing and its dose. -/
structure HeadX where
  /-- Identity block received in this attempt (R328). -/
  ident : List Byte := []
  /-- Identity last attached on this link since reset (R328). -/
  lastIdent : List Byte := []
  /-- An attach has completed since reset. -/
  attached : Bool := false
  /-- Image of the on-head memory, as attached (R354). -/
  mem : Tab Byte := []
  /-- Blocks read so far of the present attach (R331). -/
  memIn : Tab Byte := []
  /-- Trim mirror entries that differ from the base trim with no flag (R360). -/
  mirror : Tab (Option Byte) := []
  /-- Dead list (R384). -/
  dead : List DeadEntry := []
  /-- Dead list set aside by a run (R380). -/
  deadSaved : List DeadEntry := []
  /-- Training and attach. -/
  step : LinkStep := .idle
  /-- A retry is due (R330). -/
  retryAt : Option Nat := none
  /-- UP since (R330). -/
  upAt : Option Nat := none
  /-- Consecutive lines placed without an accepted REPORT (R329). -/
  missRun : Nat := 0
  /-- Consecutive REPORTs with FRAME_BAD or ECHO_MISMATCH (R329). -/
  badRun : Nat := 0
  /-- Sideband request outstanding (R326). -/
  side : Option SideReq := none
  /-- Next four trims of the scrub, chip × 32 + index (R362). -/
  scrubAt : Nat := 0
  /-- Next four trims of a verify pass in progress (R358). -/
  verify : Option Nat := none
  /-- Chips with a stuck trim (R362). -/
  stuck : List Nat := []
  /-- Chips of `stuck` whose trims have been written again, with the mask of the fours read back correctly (R362). -/
  reread : List (Nat × Nat) := []
  /-- Code words with a double-bit error not yet repaired (R361). -/
  bad : List Nat := []
  /-- The first four trims read for the repair of the first of them (R361). -/
  got : List Nat := []
  /-- Chips whose TRIM frame is still to be acknowledged outside an attach, the one on the lanes first (R380, R384). -/
  trimQ : List Nat := []
  /-- How often the first of them has been sent again (R331). -/
  trimTries : Nat := 0
  /-- The bytes of the last downstream frame, with its CRC (R322, R323). -/
  tx : List Byte := []
  /-- Running disparity of lane 0 where that frame begins; true when positive (R321). -/
  rd0 : Bool := false
  /-- Running disparity of lane 1 there. -/
  rd1 : Bool := false
  /-- Last valid F_T by segment, in 1/8,000,000 (R370). -/
  lastFT : Tab (Option Int) := []
  /-- Last valid F_V by group, in 1/(4,096 × V_REF) (R370). -/
  lastFV : Tab (Option Int) := []
  /-- T_c in taps (R335). -/
  tc : Option Nat := none
  /-- Rod time of the last forward count; none inside an excursion (R337). -/
  lastT : Option Nat := none
  /-- Lowest POS of the excursion in progress (R337). -/
  exc : Option Int := none
  /-- ENC_REVERSE raised for this excursion. -/
  excTold : Bool := false
  /-- After an excursion, until a new forward interval beyond the old HWM (R337). -/
  coarse : Bool := false
  /-- Ticks of the recent illegal transitions (R333). -/
  illAt : List Nat := []
  /-- Pulses fixed and not yet risen, in order of time (R335). -/
  fixed : List Pulse := []
  /-- The next line and group to be fixed. -/
  next : Nat × Nat := (0, 0)
  /-- A target left behind by a registration change is placed at the next forward count (R338). -/
  late : Bool := false
  /-- Rod time of the last group 0 pulse (R339). -/
  lastGo : Option Nat := none
  /-- The line whose pulses are being given, with the delay they carry (R339). -/
  cur : Option (Nat × Nat) := none
  /-- LINE_GO pair. -/
  go : LineGo := .low
  /-- Rod time at which the last strobe begun ends (R288). -/
  strobeEnd : Nat := 0
  /-- The longest strobe of each group of the last LINE frame sent, in taps (R332, R372). -/
  sentStrobe : List Nat := []
  /-- The same of the line whose pulses are being given. -/
  curStrobe : List Nat := []
  /-- The lines, modulo 65,536, of the last REPORTs accepted, newest first (R329, R342). -/
  accepted : List Nat := []
  /-- Widths ready for a line (R343). -/
  widths : Option Widths := none
  /-- LINE frame in transmission: line, and NUMBER_ONLY (R343, R344). -/
  frame : Option (Nat × Bool) := none
  /-- Line of the last LINE frame sent (R344). -/
  sent : Option Nat := none
  /-- Line of the last frame committed with widths, and its rod time (R343). -/
  committed : Option (Nat × Nat) := none
  /-- Consecutive lines placed without delay (R349). -/
  clean : Nat := 0
  /-- RESUME has been written since the stop (R377). -/
  resume : Bool := false
  /-- HPARKn high. -/
  hpark : Bool := false
  /-- Light-gate run. -/
  lg : Option LgRun := none
  /-- The line that the end of a queued CAL HEADn must answer (R386). -/
  calOwed : Option Owed := none
deriving DecidableEq, Repr

/-! ### The whole state -/

/-- The settings of a port without a configuration image (R50). -/
def PortSet.init (strict : Bool) : PortSet := { strict := strict, baud := 115200, flow := false }

/-- The subscriptions of a port without a configuration image (R46). -/
def Subs.init (spi : Bool) : Subs := if spi then {} else { clsEn := true, cls := 1 }

/-- A port after reset without a configuration image. -/
def PortX.init (spi : Bool) : PortX := { set := PortSet.init spi, subs := Subs.init spi }

/-- The state of the block. -/
@[ext]
structure State where
  /-- Which part this is (R2). -/
  part : Part := .uhk7344
  /-- Silicon revision. -/
  rev : Nat := 1
  /-- Commands that wait, first in first out: the model's own queue. -/
  pending : List Instr := []
  /-- The registers, by address; a register not listed reads its reset word (R467, R471). -/
  regs : Tab Word := []
  /-- Device state (R6). -/
  dev : Dev := .reset
  /-- COMPAT as sampled (R10). -/
  compat : Bool := false
  /-- Cause of the last entry to RESET (R7). -/
  lastReset : ResetCause := .por
  /-- The tick counter, read modulo 2^64 (R71). -/
  ticks : Nat := 0
  /-- The model's own field: how many free values have been drawn. -/
  free : Nat := 0
  /-- Always-on domain and supplies. -/
  aon : AonX := {}
  /-- Core supply, rod, Freight. -/
  core : CoreX := {}
  /-- Port HOST. -/
  host : PortX := PortX.init false
  /-- Port SERVICE. -/
  service : PortX := PortX.init false
  /-- Port SPI. -/
  spi : PortX := PortX.init true
  /-- The Junction's command queue, in order of arrival (R57). -/
  queue : List Waiting := []
  /-- Lines that wait for a partition under test, in order of arrival (R435). -/
  held : List Waiting := []
  /-- Lines released by a test, granted first (R435). -/
  released : List Waiting := []
  /-- Lines granted (R57). -/
  grants : Nat := 0
  /-- Relay and other commands answered QUEUED and not yet completed (R43). -/
  owed : List Owed := []
  /-- Fault collector, Junction, signal line. -/
  flt : FaultX := {}
  /-- Monitors. -/
  mons : Tab MonX := []
  /-- Converters. -/
  adcs : Tab AdcX := []
  /-- Harvest inputs. -/
  harvs : Tab HarvX := []
  /-- Relay. -/
  relay : RelayX := {}
  /-- Bridge and stack. -/
  bridge : BridgeX := {}
  /-- Gauge. -/
  gauge : GaugeX := {}
  /-- Timetables. -/
  tt : TtX := {}
  /-- Rails. -/
  rails : Tab RailX := []
  /-- Phases. -/
  phs : Tab PhX := []
  /-- Switching reference and VINS converter of BP3. -/
  sync3 : SyncX := {}
  /-- Those of BP4. -/
  sync : SyncX := {}
  /-- Heads. -/
  heads : Tab HeadX := []
  /-- Nonvolatile store. -/
  store : StoreX := {}
  /-- Self-test. -/
  bist : BistX := {}
deriving DecidableEq, Repr

/-- Why a step can stop with a fault. No command of this block stops so: the spec gives each of them an effect. -/
inductive Fault where
  /-- Raised by nothing in this model: it stands for a command that would act outside the device. Safe. -/
  | outsideDevice
deriving DecidableEq, Repr

/-- Why a step can be refused. -/
inductive Refusal where
  /-- Raised by an arm of `exec` whose command has no meaning yet, with its mnemonic. Safe. -/
  | notModelled (mnemonic : String)
deriving DecidableEq, Repr

/-- The machine just after a power-on reset (R126, R467): in RESET, the always-on domain not yet started, every register
at its reset word but for the sticky flag HARV_START.COLD, which every power-on reset sets (R135), the store erased. The
registers that the spec gives no reset value stand at 0 (assumption 2), the part and its revision are the model's choice
(assumption 1), and the store is erased (assumption 5). -/
def State.resetOf (p : Part) (rev : Nat) : State := { part := p, rev := rev, regs := [(0x0E44, 0x000040B4#32)] }

/-- The machine right after reset. -/
def State.reset : State := State.resetOf .uhk7344 1

end Sys2Proof.Machine
end

