-- ==== Sys2Proof/Machine/Reg.lean ====
section
/-! DEFINITION. The register map of 17_register_map: every register, its address, its access by R15, its reset word by
R467 and R471, and which parts lack it (R472). Then every field by name: its register, lowest bit and width. -/

namespace Sys2Proof.Machine

/-- The registers of the map, with the number of the unit where a register stands once for each. -/
inductive Reg where
  | SYS_ID
  | SYS_CAPS
  | SYS_STATE
  | SYS_VCORE
  | SYS_TIME
  | SYS_TIME_HI
  | SYS_TIMEBASE
  | SYS_ROD
  | SYS_FREIGHT
  | SYS_SYNC
  | SYS_SWSTAT
  | ROUTE (n : Nat)
  | FLT_CTRL
  | EVT_CTRL
  | FAULT_STAT
  | FAULT_PRES_LO
  | FAULT_PRES_HI
  | FAULT_LAT_LO
  | FAULT_LAT_HI
  | FAULT_FIRST
  | FAULT_FIRST_T
  | FAULT_LAST
  | FAULT_LAST_T
  | FAULT_SEL
  | FAULT_SRC
  | FAULT_SRC_T
  | SIG_CTRL
  | SIG_STAT
  | TT_CTRL
  | TT_STATUS
  | TT_VALID
  | TT_MARK
  | TT_ADDR
  | TT_DATA
  | TT_DEP_LO
  | TT_DEP_HI
  | TT_DIR (n : Nat)
  | TT_PG (n : Nat)
  | RAIL_CTRL (n : Nat)
  | RAIL_TARGET (n : Nat)
  | RAIL_RAMP (n : Nat)
  | RAIL_DELAY (n : Nat)
  | RAIL_NL (n : Nat)
  | RAIL_ANT (n : Nat)
  | RAIL_PRED (n : Nat)
  | RAIL_STATUS (n : Nat)
  | RAIL_SW (n : Nat)
  | RAIL_BAL (n : Nat)
  | RAIL_LIGHT (n : Nat)
  | RAIL_PMASK (n : Nat)
  | RAIL_LOCK (n : Nat)
  | RAIL_LIMIT (n : Nat)
  | RAIL_PROT (n : Nat)
  | RAIL_PSTAT (n : Nat)
  | PH_CTRL (n : Nat)
  | PH_TRIM (n : Nat)
  | PH_ISNS (n : Nat)
  | PH_CAL (n : Nat)
  | PH_STATUS (n : Nat)
  | PH_PROT (n : Nat)
  | MON_CTRL (n : Nat)
  | MON_THR (n : Nat)
  | MON_TIME (n : Nat)
  | MON_STATUS (n : Nat)
  | HARV_CTRL (n : Nat)
  | HARV_LIM (n : Nat)
  | HARV_STATUS (n : Nat)
  | HARV_SET (n : Nat)
  | HARV_KA
  | HARV_START
  | HARV_TRICKLE
  | RES_CFG
  | RES_BAL
  | RES_STATUS
  | BR_CTRL
  | BR_SET
  | BR_LIM
  | BR_STATUS
  | RELAY_CTRL
  | RELAY_STATUS
  | BACKUP_STATUS
  | GAUGE_BUDGET
  | GAUGE_CFG
  | GAUGE_CAP
  | GAUGE_ESR
  | GAUGE_AVAIL
  | GAUGE_RA
  | GAUGE_PAGE
  | GAUGE_POWER
  | GAUGE_TIME
  | GAUGE_COUNT
  | BIST_CTRL
  | BIST_COND
  | BIST_SUM
  | BIST_RES (n : Nat)
  | BIST_SIG (n : Nat)
  | BIST_EXP (n : Nat)
  | NV_CTRL
  | NV_STAT
  | NV_GEN
  | NV_LOG
  | NV_LOG2
  | NV_LAPS
  | NV_SCRUB
  | NV_LSEL
  | NV_LSTAT
  | NV_LDATA (n : Nat)
  | LINE_CTRL (n : Nat)
  | LINE_REG (n : Nat)
  | LINE_GROUP (n : Nat)
  | LINE_LINK (n : Nat)
  | LINE_LSTAT (n : Nat)
  | LINE_POS (n : Nat)
  | LINE_HWM (n : Nat)
  | LINE_ZPOS (n : Nat)
  | LINE_LINE (n : Nat)
  | LINE_TIME (n : Nat)
  | LINE_STAT (n : Nat)
  | LINE_CNT (n : Nat)
  | HEAD_CTRL (n : Nat)
  | HEAD_RANK (n : Nat)
  | HEAD_TCOR (n : Nat)
  | HEAD_TEMP (n : Nat)
  | HEAD_FB (n : Nat)
  | HEAD_LG (n : Nat)
  | HEAD_LGT (n : Nat)
  | HEAD_CAL (n : Nat)
  | HEAD_ID0 (n : Nat)
  | HEAD_ID1 (n : Nat)
  | HEAD_ID2 (n : Nat)
  | HEAD_ID3 (n : Nat)
  | HEAD_PAR0 (n : Nat)
  | HEAD_PAR1 (n : Nat)
  | HEAD_PAR2 (n : Nat)
  | HEAD_STATUS (n : Nat)
  | HEAD_VOFS (n : Nat)
  | HEAD_CNT (n : Nat)
  | HEAD_CNT2 (n : Nat)
  | HEAD_LGSTAT (n : Nat)
  | HEAD_DLSEL (n : Nat)
  | HEAD_DLDATA (n : Nat)
  | HEAD_MSEL (n : Nat)
  | HEAD_MDATA (n : Nat)
deriving DecidableEq, Repr

/-- The byte address of a register (R466 to R470). -/
def Reg.addr : Reg → Nat
  | .SYS_ID => 0x0000
  | .SYS_CAPS => 0x0004
  | .SYS_STATE => 0x0008
  | .SYS_VCORE => 0x000C
  | .SYS_TIME => 0x0010
  | .SYS_TIME_HI => 0x0014
  | .SYS_TIMEBASE => 0x0018
  | .SYS_ROD => 0x001C
  | .SYS_FREIGHT => 0x0020
  | .SYS_SYNC => 0x0024
  | .SYS_SWSTAT => 0x0028
  | .ROUTE n => 0x0100 + 0x4 * n
  | .FLT_CTRL => 0x0200
  | .EVT_CTRL => 0x0204
  | .FAULT_STAT => 0x0208
  | .FAULT_PRES_LO => 0x0210
  | .FAULT_PRES_HI => 0x0214
  | .FAULT_LAT_LO => 0x0218
  | .FAULT_LAT_HI => 0x021C
  | .FAULT_FIRST => 0x0220
  | .FAULT_FIRST_T => 0x0224
  | .FAULT_LAST => 0x0228
  | .FAULT_LAST_T => 0x022C
  | .FAULT_SEL => 0x0230
  | .FAULT_SRC => 0x0234
  | .FAULT_SRC_T => 0x0238
  | .SIG_CTRL => 0x0240
  | .SIG_STAT => 0x0244
  | .TT_CTRL => 0x0300
  | .TT_STATUS => 0x0304
  | .TT_VALID => 0x0308
  | .TT_MARK => 0x030C
  | .TT_ADDR => 0x0310
  | .TT_DATA => 0x0314
  | .TT_DEP_LO => 0x0318
  | .TT_DEP_HI => 0x031C
  | .TT_DIR n => 0x0320 + 0x4 * n
  | .TT_PG n => 0x0340 + 0x4 * n
  | .RAIL_CTRL n => 0x0800 + 0x40 * n
  | .RAIL_TARGET n => 0x0804 + 0x40 * n
  | .RAIL_RAMP n => 0x0808 + 0x40 * n
  | .RAIL_DELAY n => 0x080C + 0x40 * n
  | .RAIL_NL n => 0x0810 + 0x40 * n
  | .RAIL_ANT n => 0x0814 + 0x40 * n
  | .RAIL_PRED n => 0x0818 + 0x40 * n
  | .RAIL_STATUS n => 0x081C + 0x40 * n
  | .RAIL_SW n => 0x0820 + 0x40 * n
  | .RAIL_BAL n => 0x0824 + 0x40 * n
  | .RAIL_LIGHT n => 0x0828 + 0x40 * n
  | .RAIL_PMASK n => 0x082C + 0x40 * n
  | .RAIL_LOCK n => 0x0830 + 0x40 * n
  | .RAIL_LIMIT n => 0x0834 + 0x40 * n
  | .RAIL_PROT n => 0x0838 + 0x40 * n
  | .RAIL_PSTAT n => 0x083C + 0x40 * n
  | .PH_CTRL n => 0x0A00 + 0x20 * n
  | .PH_TRIM n => 0x0A04 + 0x20 * n
  | .PH_ISNS n => 0x0A08 + 0x20 * n
  | .PH_CAL n => 0x0A0C + 0x20 * n
  | .PH_STATUS n => 0x0A10 + 0x20 * n
  | .PH_PROT n => 0x0A14 + 0x20 * n
  | .MON_CTRL n => 0x0C00 + 0x10 * n
  | .MON_THR n => 0x0C04 + 0x10 * n
  | .MON_TIME n => 0x0C08 + 0x10 * n
  | .MON_STATUS n => 0x0C0C + 0x10 * n
  | .HARV_CTRL n => 0x0E00 + 0x10 * n
  | .HARV_LIM n => 0x0E04 + 0x10 * n
  | .HARV_STATUS n => 0x0E08 + 0x10 * n
  | .HARV_SET n => 0x0E0C + 0x10 * n
  | .HARV_KA => 0x0E40
  | .HARV_START => 0x0E44
  | .HARV_TRICKLE => 0x0E48
  | .RES_CFG => 0x0F00
  | .RES_BAL => 0x0F04
  | .RES_STATUS => 0x0F08
  | .BR_CTRL => 0x0F10
  | .BR_SET => 0x0F14
  | .BR_LIM => 0x0F18
  | .BR_STATUS => 0x0F1C
  | .RELAY_CTRL => 0x0F20
  | .RELAY_STATUS => 0x0F24
  | .BACKUP_STATUS => 0x0F28
  | .GAUGE_BUDGET => 0x1000
  | .GAUGE_CFG => 0x1004
  | .GAUGE_CAP => 0x1008
  | .GAUGE_ESR => 0x100C
  | .GAUGE_AVAIL => 0x1010
  | .GAUGE_RA => 0x1014
  | .GAUGE_PAGE => 0x1018
  | .GAUGE_POWER => 0x101C
  | .GAUGE_TIME => 0x1020
  | .GAUGE_COUNT => 0x1024
  | .BIST_CTRL => 0x1100
  | .BIST_COND => 0x1104
  | .BIST_SUM => 0x1108
  | .BIST_RES n => 0x1110 + 0x4 * n
  | .BIST_SIG n => 0x1140 + 0x4 * n
  | .BIST_EXP n => 0x1180 + 0x4 * n
  | .NV_CTRL => 0x1200
  | .NV_STAT => 0x1204
  | .NV_GEN => 0x1208
  | .NV_LOG => 0x120C
  | .NV_LOG2 => 0x1210
  | .NV_LAPS => 0x1214
  | .NV_SCRUB => 0x1218
  | .NV_LSEL => 0x1220
  | .NV_LSTAT => 0x1224
  | .NV_LDATA n => 0x1230 + 0x4 * n
  | .LINE_CTRL n => 0x1800 + 0x40 * n
  | .LINE_REG n => 0x1804 + 0x40 * n
  | .LINE_GROUP n => 0x1808 + 0x40 * n
  | .LINE_LINK n => 0x180C + 0x40 * n
  | .LINE_LSTAT n => 0x1810 + 0x40 * n
  | .LINE_POS n => 0x1814 + 0x40 * n
  | .LINE_HWM n => 0x1818 + 0x40 * n
  | .LINE_ZPOS n => 0x181C + 0x40 * n
  | .LINE_LINE n => 0x1820 + 0x40 * n
  | .LINE_TIME n => 0x1824 + 0x40 * n
  | .LINE_STAT n => 0x1828 + 0x40 * n
  | .LINE_CNT n => 0x182C + 0x40 * n
  | .HEAD_CTRL n => 0x2000 + 0x100 * n
  | .HEAD_RANK n => 0x2004 + 0x100 * n
  | .HEAD_TCOR n => 0x2008 + 0x100 * n
  | .HEAD_TEMP n => 0x200C + 0x100 * n
  | .HEAD_FB n => 0x2010 + 0x100 * n
  | .HEAD_LG n => 0x2014 + 0x100 * n
  | .HEAD_LGT n => 0x2018 + 0x100 * n
  | .HEAD_CAL n => 0x201C + 0x100 * n
  | .HEAD_ID0 n => 0x2020 + 0x100 * n
  | .HEAD_ID1 n => 0x2024 + 0x100 * n
  | .HEAD_ID2 n => 0x2028 + 0x100 * n
  | .HEAD_ID3 n => 0x202C + 0x100 * n
  | .HEAD_PAR0 n => 0x2030 + 0x100 * n
  | .HEAD_PAR1 n => 0x2034 + 0x100 * n
  | .HEAD_PAR2 n => 0x2038 + 0x100 * n
  | .HEAD_STATUS n => 0x2040 + 0x100 * n
  | .HEAD_VOFS n => 0x2044 + 0x100 * n
  | .HEAD_CNT n => 0x2048 + 0x100 * n
  | .HEAD_CNT2 n => 0x204C + 0x100 * n
  | .HEAD_LGSTAT n => 0x2050 + 0x100 * n
  | .HEAD_DLSEL n => 0x2054 + 0x100 * n
  | .HEAD_DLDATA n => 0x2058 + 0x100 * n
  | .HEAD_MSEL n => 0x205C + 0x100 * n
  | .HEAD_MDATA n => 0x2060 + 0x100 * n

/-- The registers that stand once, by address. -/
def singleAt : Nat → Option Reg
  | 0x0000 => some .SYS_ID
  | 0x0004 => some .SYS_CAPS
  | 0x0008 => some .SYS_STATE
  | 0x000C => some .SYS_VCORE
  | 0x0010 => some .SYS_TIME
  | 0x0014 => some .SYS_TIME_HI
  | 0x0018 => some .SYS_TIMEBASE
  | 0x001C => some .SYS_ROD
  | 0x0020 => some .SYS_FREIGHT
  | 0x0024 => some .SYS_SYNC
  | 0x0028 => some .SYS_SWSTAT
  | 0x0200 => some .FLT_CTRL
  | 0x0204 => some .EVT_CTRL
  | 0x0208 => some .FAULT_STAT
  | 0x0210 => some .FAULT_PRES_LO
  | 0x0214 => some .FAULT_PRES_HI
  | 0x0218 => some .FAULT_LAT_LO
  | 0x021C => some .FAULT_LAT_HI
  | 0x0220 => some .FAULT_FIRST
  | 0x0224 => some .FAULT_FIRST_T
  | 0x0228 => some .FAULT_LAST
  | 0x022C => some .FAULT_LAST_T
  | 0x0230 => some .FAULT_SEL
  | 0x0234 => some .FAULT_SRC
  | 0x0238 => some .FAULT_SRC_T
  | 0x0240 => some .SIG_CTRL
  | 0x0244 => some .SIG_STAT
  | 0x0300 => some .TT_CTRL
  | 0x0304 => some .TT_STATUS
  | 0x0308 => some .TT_VALID
  | 0x030C => some .TT_MARK
  | 0x0310 => some .TT_ADDR
  | 0x0314 => some .TT_DATA
  | 0x0318 => some .TT_DEP_LO
  | 0x031C => some .TT_DEP_HI
  | 0x0E40 => some .HARV_KA
  | 0x0E44 => some .HARV_START
  | 0x0E48 => some .HARV_TRICKLE
  | 0x0F00 => some .RES_CFG
  | 0x0F04 => some .RES_BAL
  | 0x0F08 => some .RES_STATUS
  | 0x0F10 => some .BR_CTRL
  | 0x0F14 => some .BR_SET
  | 0x0F18 => some .BR_LIM
  | 0x0F1C => some .BR_STATUS
  | 0x0F20 => some .RELAY_CTRL
  | 0x0F24 => some .RELAY_STATUS
  | 0x0F28 => some .BACKUP_STATUS
  | 0x1000 => some .GAUGE_BUDGET
  | 0x1004 => some .GAUGE_CFG
  | 0x1008 => some .GAUGE_CAP
  | 0x100C => some .GAUGE_ESR
  | 0x1010 => some .GAUGE_AVAIL
  | 0x1014 => some .GAUGE_RA
  | 0x1018 => some .GAUGE_PAGE
  | 0x101C => some .GAUGE_POWER
  | 0x1020 => some .GAUGE_TIME
  | 0x1024 => some .GAUGE_COUNT
  | 0x1100 => some .BIST_CTRL
  | 0x1104 => some .BIST_COND
  | 0x1108 => some .BIST_SUM
  | 0x1200 => some .NV_CTRL
  | 0x1204 => some .NV_STAT
  | 0x1208 => some .NV_GEN
  | 0x120C => some .NV_LOG
  | 0x1210 => some .NV_LOG2
  | 0x1214 => some .NV_LAPS
  | 0x1218 => some .NV_SCRUB
  | 0x1220 => some .NV_LSEL
  | 0x1224 => some .NV_LSTAT
  | _ => none

/-- The registers of a rail block by offset. -/
def railAt (n : Nat) : Nat → Option Reg
  | 0x00 => some (.RAIL_CTRL n)
  | 0x04 => some (.RAIL_TARGET n)
  | 0x08 => some (.RAIL_RAMP n)
  | 0x0C => some (.RAIL_DELAY n)
  | 0x10 => some (.RAIL_NL n)
  | 0x14 => some (.RAIL_ANT n)
  | 0x18 => some (.RAIL_PRED n)
  | 0x1C => some (.RAIL_STATUS n)
  | 0x20 => some (.RAIL_SW n)
  | 0x24 => some (.RAIL_BAL n)
  | 0x28 => some (.RAIL_LIGHT n)
  | 0x2C => some (.RAIL_PMASK n)
  | 0x30 => some (.RAIL_LOCK n)
  | 0x34 => some (.RAIL_LIMIT n)
  | 0x38 => some (.RAIL_PROT n)
  | 0x3C => some (.RAIL_PSTAT n)
  | _ => none

/-- The registers of a phase block by offset. -/
def phaseAt (n : Nat) : Nat → Option Reg
  | 0x00 => some (.PH_CTRL n)
  | 0x04 => some (.PH_TRIM n)
  | 0x08 => some (.PH_ISNS n)
  | 0x0C => some (.PH_CAL n)
  | 0x10 => some (.PH_STATUS n)
  | 0x14 => some (.PH_PROT n)
  | _ => none

/-- The registers of a monitor block by offset. -/
def monitorAt (n : Nat) : Nat → Option Reg
  | 0x00 => some (.MON_CTRL n)
  | 0x04 => some (.MON_THR n)
  | 0x08 => some (.MON_TIME n)
  | 0x0C => some (.MON_STATUS n)
  | _ => none

/-- The registers of a harvest block by offset. -/
def harvestAt (n : Nat) : Nat → Option Reg
  | 0x00 => some (.HARV_CTRL n)
  | 0x04 => some (.HARV_LIM n)
  | 0x08 => some (.HARV_STATUS n)
  | 0x0C => some (.HARV_SET n)
  | _ => none

/-- The registers of a line block by offset. -/
def lineAt (n : Nat) : Nat → Option Reg
  | 0x00 => some (.LINE_CTRL n)
  | 0x04 => some (.LINE_REG n)
  | 0x08 => some (.LINE_GROUP n)
  | 0x0C => some (.LINE_LINK n)
  | 0x10 => some (.LINE_LSTAT n)
  | 0x14 => some (.LINE_POS n)
  | 0x18 => some (.LINE_HWM n)
  | 0x1C => some (.LINE_ZPOS n)
  | 0x20 => some (.LINE_LINE n)
  | 0x24 => some (.LINE_TIME n)
  | 0x28 => some (.LINE_STAT n)
  | 0x2C => some (.LINE_CNT n)
  | _ => none

/-- The registers of a head block by offset. -/
def headAt (n : Nat) : Nat → Option Reg
  | 0x00 => some (.HEAD_CTRL n)
  | 0x04 => some (.HEAD_RANK n)
  | 0x08 => some (.HEAD_TCOR n)
  | 0x0C => some (.HEAD_TEMP n)
  | 0x10 => some (.HEAD_FB n)
  | 0x14 => some (.HEAD_LG n)
  | 0x18 => some (.HEAD_LGT n)
  | 0x1C => some (.HEAD_CAL n)
  | 0x20 => some (.HEAD_ID0 n)
  | 0x24 => some (.HEAD_ID1 n)
  | 0x28 => some (.HEAD_ID2 n)
  | 0x2C => some (.HEAD_ID3 n)
  | 0x30 => some (.HEAD_PAR0 n)
  | 0x34 => some (.HEAD_PAR1 n)
  | 0x38 => some (.HEAD_PAR2 n)
  | 0x40 => some (.HEAD_STATUS n)
  | 0x44 => some (.HEAD_VOFS n)
  | 0x48 => some (.HEAD_CNT n)
  | 0x4C => some (.HEAD_CNT2 n)
  | 0x50 => some (.HEAD_LGSTAT n)
  | 0x54 => some (.HEAD_DLSEL n)
  | 0x58 => some (.HEAD_DLDATA n)
  | 0x5C => some (.HEAD_MSEL n)
  | 0x60 => some (.HEAD_MDATA n)
  | _ => none

/-- A run of single registers of one kind from `base` on. -/
def runAt (a base count : Nat) (r : Nat → Reg) : Option Reg :=
  if base ≤ a ∧ a < base + 4 * count ∧ (a - base) % 4 = 0 then some (r ((a - base) / 4)) else none

/-- The register at an address, none where the address is unassigned (R468). -/
def regAt (a : Nat) : Option Reg :=
  if a < 0x0100 then singleAt a
  else if a < 0x0200 then runAt a 0x0100 64 .ROUTE
  else if a < 0x0320 then singleAt a
  else if a < 0x0340 then runAt a 0x0320 8 .TT_DIR
  else if a < 0x0800 then runAt a 0x0340 6 .TT_PG
  else if a < 0x0980 then railAt ((a - 0x0800) / 0x40) ((a - 0x0800) % 0x40)
  else if a < 0x0A00 then none
  else if a < 0x0C00 then phaseAt ((a - 0x0A00) / 0x20) ((a - 0x0A00) % 0x20)
  else if a < 0x0D80 then monitorAt ((a - 0x0C00) / 0x10) ((a - 0x0C00) % 0x10)
  else if a < 0x0E00 then none
  else if a < 0x0E40 then harvestAt ((a - 0x0E00) / 0x10) ((a - 0x0E00) % 0x10)
  else if a < 0x1110 then singleAt a
  else if a < 0x1140 then runAt a 0x1110 10 .BIST_RES
  else if a < 0x1180 then runAt a 0x1140 10 .BIST_SIG
  else if a < 0x1200 then runAt a 0x1180 10 .BIST_EXP
  else if a < 0x1230 then singleAt a
  else if a < 0x1800 then runAt a 0x1230 4 .NV_LDATA
  else if a < 0x1900 then lineAt ((a - 0x1800) / 0x40) ((a - 0x1800) % 0x40)
  else if a < 0x2000 then none
  else if a < 0x2400 then headAt ((a - 0x2000) / 0x100) ((a - 0x2000) % 0x100)
  else none

/-- Reset words of the ROUTE registers (R407). -/
def resetRoute (n : Nat) : Nat :=
  if n < 12 then 0x30 + 2 ^ (18 + n % 6) else if n = 40 then 0x2E30 else 0x30

/-- Reset words of the phase assignments (R239, R471). -/
def resetPhase (p : Part) (n : Nat) : Nat :=
  if p = .uhk7344 then n / 3 else if n < 3 then 0 else if n < 6 then 4 else if n = 6 then 5 else 7

/-- Reset words of a spare monitor, on input `input`. -/
def resetMonSpare (input : Nat) : Nat × Nat × Nat := (0x000700C0 + input * 0x100, 0x00FFF000, 0x000000F0)

/-- Reset words CTRL, THR and TIME of the monitors (R98, R118, R471). -/
def resetMon (p : Part) (n : Nat) : Nat × Nat × Nat :=
  if p ≠ .uhk7344 ∧ (n = 1 ∨ n = 2 ∨ n = 3 ∨ n = 14) then resetMonSpare 15
  else match n with
  | 0 | 1 | 2 | 3 | 4 => (0x000700C1 + n * 0x100, 0x08FFF0C8, 0x000000F0)
  | 5 => (0x000705C1, 0x08FFF0C8, 0x000000C0)
  | 6 => (0x000706C1, 0x087F86E0, 0x00000050)
  | 7 => (0x000707C3, 0x08A50510, 0x000000C5)
  | 8 => (0x000708C7, 0x14E100C8, 0x00000085)
  | 9 => (0x000709C1, 0x20E504B0, 0x000000C8)
  | 10 => (0x00070AC1, 0x20960578, 0x000000CC)
  | 11 => (0x00070BC1, 0x08C80050, 0x000000CC)
  | 12 => if p = .uhk7344 then (0x00070CC1, 0x10FA0064, 0x000000CC) else (0x00070DC1, 0x047D000C, 0x000000CC)
  | 13 => if p = .uhk7344 then (0x00070DC1, 0x047D000C, 0x000000CC) else (0x00070EC1, 0x10F000A0, 0x000000CC)
  | 14 => (0x00070EC1, 0x10F000A0, 0x000000CC)
  | _ => resetMonSpare n

/-- The reset word of a register (R467, R471). A field marked "—" is counted as 0 there, and stands at 0 until the
hardware first sets it (assumption 2). -/
def Reg.reset (p : Part) : Reg → Nat
  | .SYS_VCORE => 0x00022D5A
  | .SYS_SYNC => 0x001007D1
  | .ROUTE n => resetRoute n
  | .FLT_CTRL => 0x00000190
  | .SIG_CTRL => 0x0000000F
  | .TT_CTRL => 0x00000420
  | .TT_DEP_LO => if p = .uhk7344 then 0x10101010 else 0x00000010
  | .TT_DEP_HI => 0x00000020
  | .TT_PG _ => 0x10C83232
  | .RAIL_TARGET n => if n < 4 then 0x00029388 else if n = 4 then 0x00064384 else 0x00000CE4
  | .RAIL_RAMP _ => 0x00086464
  | .RAIL_NL n => if n < 4 then 0x0000FA19 else if n = 4 then 0x0000FA0D else 0x0000FA29
  | .RAIL_ANT n => if n < 4 ∧ (n = 0 → p ≠ .uhk7340) then 0x00A07B85 else 0x00A07B84
  | .RAIL_SW n => if n = 1 then 0x7D141415 else if n = 2 then 0x7D14142D else if n = 3 then 0x7D141441 else 0x7D141401
  | .RAIL_BAL _ => 0x000508C9
  | .RAIL_LIGHT _ => 0x000281E0
  | .RAIL_LIMIT n => if n < 4 then 0x014085DC else if n = 4 then 0x014084B0 else 0x01408050
  | .RAIL_PROT _ => 0x876E5064
  | .PH_CTRL n => resetPhase p n
  | .MON_CTRL n => (resetMon p n).1
  | .MON_THR n => (resetMon p n).2.1
  | .MON_TIME n => (resetMon p n).2.2
  | .HARV_CTRL n => if n = 0 then 0x0050A6C8 else if n = 1 then 0x0064A6C8 else if n = 2 then 0x000CA6C8 else 0x00A0A6C8
  | .HARV_LIM n => if n = 0 then 0x00C80050 else if n = 1 then 0x00FA0064 else if n = 2 then 0x007D000C else 0x00F000A0
  | .HARV_KA => 0xD4CC6C60
  | .HARV_START => 0x000000B4
  | .RES_CFG => 0x014421C6
  | .RES_BAL => 0x000091F4
  | .BR_CTRL => 0x0787878F
  | .BR_SET => 0x007E8730
  | .BR_LIM => 0x000A96A0
  | .RELAY_CTRL => 0x1605DCA0
  | .GAUGE_BUDGET => 0x00FA0384
  | .GAUGE_CFG => if p = .uhk7344 then 0x18F0ABC6 else if p = .uhk7341 then 0x1810ABC6 else 0x1800ABC6
  | .GAUGE_CAP => 0x00000E56
  | .GAUGE_ESR => 0x00000096
  | .GAUGE_TIME => 0xFFFFFFFF
  | .BIST_CTRL => 0x00000040
  | .NV_CTRL => 0x00000082
  | .NV_LOG2 => 0x01000000
  | .LINE_CTRL _ => 0x00089A20
  | .LINE_GROUP _ => 0x00C08040
  | .HEAD_CTRL _ => 0x03C32FA0
  | .HEAD_RANK _ => 0x0000FFFF
  | .HEAD_TCOR _ => 0x0028A320
  | .HEAD_TEMP _ => 0x034B4137
  | .HEAD_FB _ => 0x004B4000
  | .HEAD_LG _ => 0x01052364
  | .HEAD_LGT _ => 0x000401F4
  | .HEAD_STATUS _ => 0x03FF0010
  | _ => 0

/-- The bits that hold RW fields (R15). -/
def Reg.rw : Reg → Nat
  | .SYS_VCORE => 0x0001FFFF
  | .SYS_SYNC => 0x001FFFFF
  | .ROUTE _ => 0x1FFFFFFF
  | .FLT_CTRL => 0x0001FFFF
  | .EVT_CTRL => 0x00007777
  | .FAULT_SEL => 0x0000003F
  | .SIG_CTRL => 0x0000000F
  | .TT_CTRL => 0x0000FF27
  | .TT_ADDR => 0x000001FF
  | .TT_DEP_LO => 0x3F3F3F3F
  | .TT_DEP_HI => 0x00003F3F
  | .TT_PG _ => 0x1FFFFFFF
  | .RAIL_CTRL _ => 0x00000001
  | .RAIL_TARGET _ => 0x3FFFFFFF
  | .RAIL_RAMP _ => 0x00FFFFFF
  | .RAIL_DELAY _ => 0x000FFFFF
  | .RAIL_NL _ => 0x0003FFFF
  | .RAIL_ANT _ => 0x01FFFFFF
  | .RAIL_SW _ => 0xFFFFFFFF
  | .RAIL_BAL _ => 0x007FFFFF
  | .RAIL_LIGHT _ => 0x000FFFFF
  | .RAIL_LIMIT _ => 0xFFFFFFFF
  | .RAIL_PROT _ => 0xFFFFFFFF
  | .PH_CTRL _ => 0x00000007
  | .PH_TRIM _ => 0x000000FF
  | .MON_CTRL _ => 0x0007FFFF
  | .MON_THR _ => 0x3FFFFFFF
  | .MON_TIME _ => 0x007FFFFF
  | .HARV_CTRL _ => 0x0FFFFFFF
  | .HARV_LIM _ => 0x00FFFFFF
  | .HARV_KA => 0xFFFFFFFF
  | .HARV_START => 0x000000FF
  | .RES_CFG => 0x03FFFFFF
  | .RES_BAL => 0x0000FFFF
  | .BR_CTRL => 0x07FFFFFF
  | .BR_SET => 0x00FFFFFF
  | .BR_LIM => 0x001FFFFF
  | .RELAY_CTRL => 0x1FFFFFFF
  | .GAUGE_BUDGET => 0x1FFFFFFF
  | .GAUGE_CFG => 0x1FFFFFFF
  | .GAUGE_CAP => 0x0000FFFF
  | .GAUGE_ESR => 0x00000FFF
  | .BIST_CTRL => 0x0000004F
  | .NV_CTRL => 0x000003FE
  | .NV_LSEL => 0x0000FFFF
  | .LINE_CTRL _ => 0x000FFFFF
  | .LINE_REG _ => 0x0000FFFF
  | .LINE_GROUP _ => 0x00FFFFFF
  | .HEAD_CTRL _ => 0x0FFFFFFD
  | .HEAD_RANK _ => 0x0000FFFF
  | .HEAD_TCOR _ => 0x003FFFFF
  | .HEAD_TEMP _ => 0x0FFFFFFF
  | .HEAD_FB _ => 0x00FFFFFF
  | .HEAD_LG _ => 0x07FFFFFC
  | .HEAD_LGT _ => 0x000FFFFF
  | .HEAD_DLSEL _ => 0x0000003F
  | .HEAD_MSEL _ => 0x00007FFF
  | _ => 0

/-- The bits that hold W1C fields (R15). -/
def Reg.w1c : Reg → Nat
  | .SYS_FREIGHT => 0x000003FF
  | .FAULT_LAT_LO => 0xFFFFFFFF
  | .FAULT_LAT_HI => 0xFFFFFFFF
  | .FAULT_FIRST => 0x00000040
  | .FAULT_SRC => 0x00000002
  | .TT_VALID => 0x0000FF00
  | .HARV_START => 0x0000F000
  | .RELAY_STATUS => 0x000000E0
  | .HEAD_STATUS _ => 0x00008000
  | _ => 0

/-- The bits that hold SC fields (R15). -/
def Reg.sc : Reg → Nat
  | .FLT_CTRL => 0x00020000
  | .TT_CTRL => 0x00000018
  | .PH_CAL _ => 0x00000800
  | .PH_PROT _ => 0x00000008
  | .RELAY_CTRL => 0x60000000
  | .BIST_CTRL => 0x00000030
  | .NV_CTRL => 0x00000001
  | .LINE_LINK _ => 0x00000001
  | .HEAD_CTRL _ => 0x00000002
  | .HEAD_LG _ => 0x00000003
  | .HEAD_CAL _ => 0x00000001
  | _ => 0

/-- The bits that hold CFG fields, which an entry of the configuration image holds (R17, R451). -/
def Reg.cfg : Reg → Nat
  | .SYS_VCORE => 0x0001FFFF
  | .SYS_SYNC => 0x001FFFFF
  | .ROUTE _ => 0x1FFFFFFF
  | .FLT_CTRL => 0x0000FFFF
  | .EVT_CTRL => 0x00007777
  | .SIG_CTRL => 0x0000000F
  | .TT_CTRL => 0x0000FF20
  | .TT_DEP_LO => 0x3F3F3F3F
  | .TT_DEP_HI => 0x00003F3F
  | .TT_PG _ => 0x1FFFFFFF
  | .RAIL_TARGET _ => 0x003FFFFF
  | .RAIL_RAMP _ => 0x00FFFFFF
  | .RAIL_DELAY _ => 0x000FFFFF
  | .RAIL_NL _ => 0x0003FFFF
  | .RAIL_ANT _ => 0x01FFFFFF
  | .RAIL_SW _ => 0xFFFFFFFF
  | .RAIL_BAL _ => 0x007FFFFF
  | .RAIL_LIGHT _ => 0x000FFFFF
  | .RAIL_LIMIT _ => 0xFFFFFFFF
  | .RAIL_PROT _ => 0xFFFFFFFF
  | .PH_CTRL _ => 0x00000007
  | .PH_TRIM _ => 0x000000FF
  | .MON_CTRL _ => 0x0007FFFF
  | .MON_THR _ => 0x3FFFFFFF
  | .MON_TIME _ => 0x007FFFFF
  | .HARV_CTRL _ => 0x0FFFFFFF
  | .HARV_LIM _ => 0x00FFFFFF
  | .HARV_KA => 0xFFFFFFFF
  | .HARV_START => 0x000000FF
  | .RES_CFG => 0x03FFFFFF
  | .RES_BAL => 0x0000FFFF
  | .BR_CTRL => 0x07FFFFFF
  | .BR_SET => 0x00FFFFFF
  | .BR_LIM => 0x001FFFFF
  | .RELAY_CTRL => 0x1FFFFFFF
  | .GAUGE_BUDGET => 0x0FFFFFFF
  | .GAUGE_CFG => 0x1FFFFFFF
  | .GAUGE_CAP => 0x0000FFFF
  | .GAUGE_ESR => 0x00000FFF
  | .BIST_CTRL => 0x00000040
  | .NV_CTRL => 0x000003FE
  | .LINE_CTRL _ => 0x000FFFFF
  | .LINE_REG _ => 0x0000FFFF
  | .LINE_GROUP _ => 0x00FFFFFF
  | .HEAD_CTRL _ => 0x0FFFFFFC
  | .HEAD_RANK _ => 0x0000FFFF
  | .HEAD_TCOR _ => 0x003FFFFF
  | .HEAD_TEMP _ => 0x0FFFFFFF
  | .HEAD_FB _ => 0x00FFFFFF
  | .HEAD_LG _ => 0x07FFFFFC
  | .HEAD_LGT _ => 0x000FFFFF
  | _ => 0

/-- Source `e` is absent from the part (R394, R472). -/
def sourceAbsent (p : Part) (e : Nat) : Bool :=
  match p with
  | .uhk7344 => false
  | .uhk7341 => e ∈ [1, 2, 3, 7, 8, 9, 49, 50, 51, 53, 54, 55] || (32 ≤ e && e < 40)
  | .uhk7340 => e ∈ [1, 2, 3, 7, 8, 9, 48, 49, 50, 51, 52, 53, 54, 55] || (32 ≤ e && e < 40)

/-- Heads present (R2). -/
def Part.heads : Part → Nat
  | .uhk7344 => 4
  | .uhk7341 => 1
  | .uhk7340 => 0

/-- Phase channels present (R2). -/
def Part.phases (p : Part) : Nat := if p = .uhk7344 then 16 else 8

/-- Monitors present (R2). -/
def Part.mons (p : Part) : Nat := if p = .uhk7344 then 24 else 16

/-- Rails present, by rail number (R2). -/
def Part.railList (p : Part) : List Nat := if p = .uhk7344 then [0, 1, 2, 3, 4, 5] else [0, 4, 5]

/-- Rail `r` is present. -/
def Part.hasRail (p : Part) (r : Nat) : Bool := p.railList.contains r

/-- Harvest input `i` is present: AC1, AC2, TEG, KEY in that order (R2). -/
def Part.hasHarv (p : Part) (i : Nat) : Bool := i < 4 && (p = .uhk7344 || i != 1)

/-- The register is absent from the part (R472). -/
def Reg.absent (p : Part) : Reg → Bool
  | .ROUTE n => sourceAbsent p n
  | .TT_PG n | .RAIL_CTRL n | .RAIL_TARGET n | .RAIL_RAMP n | .RAIL_DELAY n | .RAIL_NL n | .RAIL_ANT n | .RAIL_PRED n
  | .RAIL_STATUS n | .RAIL_SW n | .RAIL_BAL n | .RAIL_LIGHT n | .RAIL_PMASK n | .RAIL_LOCK n | .RAIL_LIMIT n
  | .RAIL_PROT n | .RAIL_PSTAT n => !p.hasRail n
  | .PH_CTRL n | .PH_TRIM n | .PH_ISNS n | .PH_CAL n | .PH_STATUS n | .PH_PROT n => p.phases ≤ n
  | .MON_CTRL n | .MON_THR n | .MON_TIME n | .MON_STATUS n => p.mons ≤ n
  | .HARV_CTRL i | .HARV_LIM i | .HARV_STATUS i | .HARV_SET i => !p.hasHarv i
  | .LINE_CTRL n | .LINE_REG n | .LINE_GROUP n | .LINE_LINK n | .LINE_LSTAT n | .LINE_POS n | .LINE_HWM n | .LINE_ZPOS n
  | .LINE_LINE n | .LINE_TIME n | .LINE_STAT n | .LINE_CNT n => p.heads ≤ n
  | .HEAD_CTRL n | .HEAD_RANK n | .HEAD_TCOR n | .HEAD_TEMP n | .HEAD_FB n | .HEAD_LG n | .HEAD_LGT n | .HEAD_CAL n
  | .HEAD_ID0 n | .HEAD_ID1 n | .HEAD_ID2 n | .HEAD_ID3 n | .HEAD_PAR0 n | .HEAD_PAR1 n | .HEAD_PAR2 n | .HEAD_STATUS n
  | .HEAD_VOFS n | .HEAD_CNT n | .HEAD_CNT2 n | .HEAD_LGSTAT n | .HEAD_DLSEL n | .HEAD_DLDATA n | .HEAD_MSEL n
  | .HEAD_MDATA n => p.heads ≤ n
  | _ => false

/-- The word an unlisted register reads, 0 where none is present (R468, R472). -/
def resetWord (p : Part) (a : Nat) : Word :=
  match regAt a with
  | some r => if r.absent p then 0 else BitVec.ofNat 32 (r.reset p)
  | none => 0

/-- A register field: the address of its register, its lowest bit and its width. -/
structure Field where
  /-- Address of the register. -/
  addr : Nat
  /-- Lowest bit. -/
  lo : Nat
  /-- Width in bits. -/
  width : Nat
deriving DecidableEq, Repr

end Sys2Proof.Machine

/-! ### Every field by the name of its register and its own name -/

namespace Sys2Proof.Machine.F

/-- SYS_ID [7:0], RO (R469): silicon revision. -/
def SYS_ID_REV : Field := ⟨Reg.addr .SYS_ID, 0, 8⟩
/-- SYS_ID [23:8], RO (R469): 0x7344, 0x7341 or 0x7340. -/
def SYS_ID_PART : Field := ⟨Reg.addr .SYS_ID, 8, 16⟩
/-- SYS_ID [31:24], RO (R469): vendor code. -/
def SYS_ID_VENDOR : Field := ⟨Reg.addr .SYS_ID, 24, 8⟩
/-- SYS_CAPS [3:0], RO (R469): 4, 1 or 0. -/
def SYS_CAPS_HEADS : Field := ⟨Reg.addr .SYS_CAPS, 0, 4⟩
/-- SYS_CAPS [8:4], RO (R469): 16 or 8. -/
def SYS_CAPS_PHASES : Field := ⟨Reg.addr .SYS_CAPS, 4, 5⟩
/-- SYS_CAPS [11:9], RO (R469): 6 or 3. -/
def SYS_CAPS_RAILS : Field := ⟨Reg.addr .SYS_CAPS, 9, 3⟩
/-- SYS_CAPS [15:12], RO (R469): [12] AC1, [13] AC2, [14] TEG, [15] KEY. -/
def SYS_CAPS_HARVEST : Field := ⟨Reg.addr .SYS_CAPS, 12, 4⟩
/-- SYS_CAPS [16], RO (R469): bridge present. -/
def SYS_CAPS_BRIDGE : Field := ⟨Reg.addr .SYS_CAPS, 16, 1⟩
/-- SYS_CAPS [17], RO (R469): dose engine present. -/
def SYS_CAPS_DOSE : Field := ⟨Reg.addr .SYS_CAPS, 17, 1⟩
/-- SYS_CAPS [18], RO (R469): light-gate support. -/
def SYS_CAPS_LIGHTGATE : Field := ⟨Reg.addr .SYS_CAPS, 18, 1⟩
/-- SYS_CAPS [23:19], RO (R469): 24 or 16. -/
def SYS_CAPS_MONITORS : Field := ⟨Reg.addr .SYS_CAPS, 19, 5⟩
/-- SYS_CAPS [31:28], RO (R469): 2; 1 under COMPAT (R64). -/
def SYS_CAPS_FELTEN : Field := ⟨Reg.addr .SYS_CAPS, 28, 4⟩
/-- SYS_STATE [1:0], RO (R469): 0 RESET, 1 SELFTEST, 2 RUN, 3 BUFFER-STOP (R6). -/
def SYS_STATE_STATE : Field := ⟨Reg.addr .SYS_STATE, 0, 2⟩
/-- SYS_STATE [2], RO (R469): COMPAT as sampled (R10). -/
def SYS_STATE_COMPAT : Field := ⟨Reg.addr .SYS_STATE, 2, 1⟩
/-- SYS_STATE [15:8], RO (R469): present VCORE, 10 mV units. -/
def SYS_STATE_VCORE : Field := ⟨Reg.addr .SYS_STATE, 8, 8⟩
/-- SYS_VCORE [7:0], RW (R70): VCORE outside standby, in 10 mV; 80 to 100; default 90. -/
def SYS_VCORE_RUN_LVL : Field := ⟨Reg.addr .SYS_VCORE, 0, 8⟩
/-- SYS_VCORE [15:8], RW (R70): VCORE in standby, in 10 mV; 45 to 80; default 45. -/
def SYS_VCORE_STBY_LVL : Field := ⟨Reg.addr .SYS_VCORE, 8, 8⟩
/-- SYS_VCORE [16], RW (R70): 1: stay at RUN_LVL at all times; default 0. -/
def SYS_VCORE_HOLD_RUN : Field := ⟨Reg.addr .SYS_VCORE, 16, 1⟩
/-- SYS_VCORE [17], RO (R70): 1: VCORE ≥ 0.80 V. -/
def SYS_VCORE_GOOD : Field := ⟨Reg.addr .SYS_VCORE, 17, 1⟩
/-- SYS_TIME [31:0], RO (R74): tick counter bits 31 to 0; zeroed at power-on reset only. -/
def SYS_TIME_TICK_LO : Field := ⟨Reg.addr .SYS_TIME, 0, 32⟩
/-- SYS_TIME_HI [31:0], RO (R74): tick counter bits 63 to 32; zeroed at power-on reset only. -/
def SYS_TIME_HI_TICK_HI : Field := ⟨Reg.addr .SYS_TIME_HI, 0, 32⟩
/-- SYS_TIMEBASE [0], RO (R81): 1: crystal qualified. -/
def SYS_TIMEBASE_XTAL_OK : Field := ⟨Reg.addr .SYS_TIMEBASE, 0, 1⟩
/-- SYS_TIMEBASE [1], RO (R81): 0: crystal; 1: internal RC. -/
def SYS_TIMEBASE_TICK_SRC : Field := ⟨Reg.addr .SYS_TIMEBASE, 1, 1⟩
/-- SYS_TIMEBASE [4:2], RO (R81): state under R77; 5 to 7 not used. -/
def SYS_TIMEBASE_ROD_STATE : Field := ⟨Reg.addr .SYS_TIMEBASE, 2, 3⟩
/-- SYS_TIMEBASE [15:8], RO (R81): newest published generation. -/
def SYS_TIMEBASE_ROD_GEN : Field := ⟨Reg.addr .SYS_TIMEBASE, 8, 8⟩
/-- SYS_TIMEBASE [23:16], RO (R81): oldest generation still in use by any consumer. -/
def SYS_TIMEBASE_ROD_OLDEST : Field := ⟨Reg.addr .SYS_TIMEBASE, 16, 8⟩
/-- SYS_TIMEBASE [31:24], RO (R81): last window error in 2 ppm units, two's complement, saturated at −128 and +127. -/
def SYS_TIMEBASE_ROD_ERR : Field := ⟨Reg.addr .SYS_TIMEBASE, 24, 8⟩
/-- SYS_ROD [19:0], RO (R81): rod periods in the last 64-tick window. -/
def SYS_ROD_COUNT : Field := ⟨Reg.addr .SYS_ROD, 0, 20⟩
/-- SYS_FREIGHT [9:0], W1C (R89): one bit per job of R87; 1: late under R88. -/
def SYS_FREIGHT_LATE : Field := ⟨Reg.addr .SYS_FREIGHT, 0, 10⟩
/-- SYS_SYNC [0], RW (R269): 0 INTERNAL, 1 EXTERNAL; default 1. -/
def SYS_SYNC_MODE : Field := ⟨Reg.addr .SYS_SYNC, 0, 1⟩
/-- SYS_SYNC [12:1], RW (R269): internal reference in kHz, 250 to 3,000; default 1,000. -/
def SYS_SYNC_FINT : Field := ⟨Reg.addr .SYS_SYNC, 1, 12⟩
/-- SYS_SYNC [13], RW (R269): 1: SYNC_OUT repeats the reference; default 0. -/
def SYS_SYNC_OUT_EN : Field := ⟨Reg.addr .SYS_SYNC, 13, 1⟩
/-- SYS_SYNC [19:14], RW (R269): 1/64 of the reference period; default 0. -/
def SYS_SYNC_OUT_SHIFT : Field := ⟨Reg.addr .SYS_SYNC, 14, 6⟩
/-- SYS_SYNC [20], RW (R269): 1: mark count 0 (R250); default 1. -/
def SYS_SYNC_OUT_MARK : Field := ⟨Reg.addr .SYS_SYNC, 20, 1⟩
/-- SYS_SWSTAT [1:0], RO (R269): 0 INTERNAL, 1 EXTERNAL, 2 HOLDOVER, 3 reserved. -/
def SYS_SWSTAT_SRC : Field := ⟨Reg.addr .SYS_SWSTAT, 0, 2⟩
/-- SYS_SWSTAT [2], RO (R269): 1: SYNC_IN qualified. -/
def SYS_SWSTAT_QUAL : Field := ⟨Reg.addr .SYS_SWSTAT, 2, 1⟩
/-- SYS_SWSTAT [3], RO (R269): R249. -/
def SYS_SWSTAT_ANCHORED : Field := ⟨Reg.addr .SYS_SWSTAT, 3, 1⟩
/-- SYS_SWSTAT [15:4], RO (R269): reference in use, kHz. -/
def SYS_SWSTAT_FREF : Field := ⟨Reg.addr .SYS_SWSTAT, 4, 12⟩
/-- SYS_SWSTAT [25:16], RO (R269): latest VINS sample, 50 mV codes. -/
def SYS_SWSTAT_VIN : Field := ⟨Reg.addr .SYS_SWSTAT, 16, 10⟩
/-- ROUTE [3:0], RW (R417): bit m: routed to EVTm. -/
def ROUTE_EVT (n : Nat) : Field := ⟨Reg.addr (.ROUTE n), 0, 4⟩
/-- ROUTE [4], RW (R417): R405. -/
def ROUTE_NOTIFY (n : Nat) : Field := ⟨Reg.addr (.ROUTE n), 4, 1⟩
/-- ROUTE [5], RW (R417): R405. -/
def ROUTE_LOG (n : Nat) : Field := ⟨Reg.addr (.ROUTE n), 5, 1⟩
/-- ROUTE [6], RW (R417): R405. -/
def ROUTE_FLT (n : Nat) : Field := ⟨Reg.addr (.ROUTE n), 6, 1⟩
/-- ROUTE [8:7], RW (R417): class floor, R402. -/
def ROUTE_PROMOTE (n : Nat) : Field := ⟨Reg.addr (.ROUTE n), 7, 2⟩
/-- ROUTE [9], RW (R417): R405. -/
def ROUTE_TT_EN (n : Nat) : Field := ⟨Reg.addr (.ROUTE n), 9, 1⟩
/-- ROUTE [12:10], RW (R417): timetable started. -/
def ROUTE_TT (n : Nat) : Field := ⟨Reg.addr (.ROUTE n), 10, 3⟩
/-- ROUTE [17:13], RW (R417): 0: any cause. -/
def ROUTE_TT_CAUSE (n : Nat) : Field := ⟨Reg.addr (.ROUTE n), 13, 5⟩
/-- ROUTE [23:18], RW (R417): bit r: rail r, R403. -/
def ROUTE_AFFECT (n : Nat) : Field := ⟨Reg.addr (.ROUTE n), 18, 6⟩
/-- ROUTE [28:24], RW (R417): 0: all causes, R402. -/
def ROUTE_PCAUSE (n : Nat) : Field := ⟨Reg.addr (.ROUTE n), 24, 5⟩
/-- FLT_CTRL [1:0], RW (R417): 0 PULSE, 1 LATCH, 2 LEVEL, 3 refused; default 0. -/
def FLT_CTRL_MODE : Field := ⟨Reg.addr .FLT_CTRL, 0, 2⟩
/-- FLT_CTRL [15:2], RW (R417): µs, 10 to 10,000; default 100. -/
def FLT_CTRL_MIN : Field := ⟨Reg.addr .FLT_CTRL, 2, 14⟩
/-- FLT_CTRL [16], RW (R417): R408. -/
def FLT_CTRL_ASSERT : Field := ⟨Reg.addr .FLT_CTRL, 16, 1⟩
/-- FLT_CTRL [17], SC (R417): 1: release under LATCH. -/
def FLT_CTRL_RELEASE : Field := ⟨Reg.addr .FLT_CTRL, 17, 1⟩
/-- EVT_CTRL [1:0], RW (R417): R406; 3 refused; default 0. -/
def EVT_CTRL_MODE0 : Field := ⟨Reg.addr .EVT_CTRL, 0, 2⟩
/-- EVT_CTRL [5:4], RW (R417): R406; 3 refused; default 0. -/
def EVT_CTRL_MODE1 : Field := ⟨Reg.addr .EVT_CTRL, 4, 2⟩
/-- EVT_CTRL [9:8], RW (R417): R406; 3 refused; default 0. -/
def EVT_CTRL_MODE2 : Field := ⟨Reg.addr .EVT_CTRL, 8, 2⟩
/-- EVT_CTRL [13:12], RW (R417): R406; 3 refused; default 0. -/
def EVT_CTRL_MODE3 : Field := ⟨Reg.addr .EVT_CTRL, 12, 2⟩
/-- EVT_CTRL [2], RW (R417): 1: active low; default 0. -/
def EVT_CTRL_POL0 : Field := ⟨Reg.addr .EVT_CTRL, 2, 1⟩
/-- EVT_CTRL [6], RW (R417): 1: active low; default 0. -/
def EVT_CTRL_POL1 : Field := ⟨Reg.addr .EVT_CTRL, 6, 1⟩
/-- EVT_CTRL [10], RW (R417): 1: active low; default 0. -/
def EVT_CTRL_POL2 : Field := ⟨Reg.addr .EVT_CTRL, 10, 1⟩
/-- EVT_CTRL [14], RW (R417): 1: active low; default 0. -/
def EVT_CTRL_POL3 : Field := ⟨Reg.addr .EVT_CTRL, 14, 1⟩
/-- FAULT_STAT [0], RO (R417): 1: FLT_N low. -/
def FAULT_STAT_FLT_LOW : Field := ⟨Reg.addr .FAULT_STAT, 0, 1⟩
/-- FAULT_STAT [4:1], RO (R417): bit m: EVTm active. -/
def FAULT_STAT_EVT_ACT : Field := ⟨Reg.addr .FAULT_STAT, 1, 4⟩
/-- FAULT_STAT [5], RO (R417): 1: a hold is running. -/
def FAULT_STAT_KEY_HELD : Field := ⟨Reg.addr .FAULT_STAT, 5, 1⟩
/-- FAULT_STAT [31:16], RO (R417): R416, saturating. -/
def FAULT_STAT_LOG_DROP : Field := ⟨Reg.addr .FAULT_STAT, 16, 16⟩
/-- FAULT_PRES_LO [31:0], RO (R417): bit n: EVn PRESENT. -/
def FAULT_PRES_LO_PRESENT : Field := ⟨Reg.addr .FAULT_PRES_LO, 0, 32⟩
/-- FAULT_PRES_HI [31:0], RO (R417): bit n: EV(32 + n) PRESENT. -/
def FAULT_PRES_HI_PRESENT : Field := ⟨Reg.addr .FAULT_PRES_HI, 0, 32⟩
/-- FAULT_LAT_LO [31:0], W1C (R417): bit n: EVn; a clear acts under R400. -/
def FAULT_LAT_LO_LATCHED : Field := ⟨Reg.addr .FAULT_LAT_LO, 0, 32⟩
/-- FAULT_LAT_HI [31:0], W1C (R417): bit n: EV(32 + n). -/
def FAULT_LAT_HI_LATCHED : Field := ⟨Reg.addr .FAULT_LAT_HI, 0, 32⟩
/-- FAULT_FIRST [5:0], RO (R417): R398. -/
def FAULT_FIRST_SRC : Field := ⟨Reg.addr .FAULT_FIRST, 0, 6⟩
/-- FAULT_FIRST [6], W1C (R417): 1: holds a cause; 1 written empties it. -/
def FAULT_FIRST_VALID : Field := ⟨Reg.addr .FAULT_FIRST, 6, 1⟩
/-- FAULT_FIRST [12:8], RO (R417): cause number. -/
def FAULT_FIRST_CAUSE : Field := ⟨Reg.addr .FAULT_FIRST, 8, 5⟩
/-- FAULT_FIRST [14:13], RO (R417): effective class. -/
def FAULT_FIRST_CLASS : Field := ⟨Reg.addr .FAULT_FIRST, 13, 2⟩
/-- FAULT_FIRST_T [31:0], RO (R417): grant stamp. -/
def FAULT_FIRST_T_TICK : Field := ⟨Reg.addr .FAULT_FIRST_T, 0, 32⟩
/-- FAULT_LAST [5:0], RO (R417): latest grant. -/
def FAULT_LAST_SRC : Field := ⟨Reg.addr .FAULT_LAST, 0, 6⟩
/-- FAULT_LAST [12:8], RO (R417): —. -/
def FAULT_LAST_CAUSE : Field := ⟨Reg.addr .FAULT_LAST, 8, 5⟩
/-- FAULT_LAST [14:13], RO (R417): —. -/
def FAULT_LAST_CLASS : Field := ⟨Reg.addr .FAULT_LAST, 13, 2⟩
/-- FAULT_LAST_T [31:0], RO (R417): grant stamp. -/
def FAULT_LAST_T_TICK : Field := ⟨Reg.addr .FAULT_LAST_T, 0, 32⟩
/-- FAULT_SEL [5:0], RW (R417): source read by FAULT_SRC. -/
def FAULT_SEL_SRC : Field := ⟨Reg.addr .FAULT_SEL, 0, 6⟩
/-- FAULT_SRC [0], RO (R417): R395. -/
def FAULT_SRC_PRESENT : Field := ⟨Reg.addr .FAULT_SRC, 0, 1⟩
/-- FAULT_SRC [1], W1C (R417): R400. -/
def FAULT_SRC_LATCHED : Field := ⟨Reg.addr .FAULT_SRC, 1, 1⟩
/-- FAULT_SRC [9:2], RO (R417): R398. -/
def FAULT_SRC_COUNT : Field := ⟨Reg.addr .FAULT_SRC, 2, 8⟩
/-- FAULT_SRC [14:10], RO (R417): first cause since clear. -/
def FAULT_SRC_FIRST : Field := ⟨Reg.addr .FAULT_SRC, 10, 5⟩
/-- FAULT_SRC [19:15], RO (R417): latest cause. -/
def FAULT_SRC_LAST : Field := ⟨Reg.addr .FAULT_SRC, 15, 5⟩
/-- FAULT_SRC [21:20], RO (R417): its effective class. -/
def FAULT_SRC_LCLASS : Field := ⟨Reg.addr .FAULT_SRC, 20, 2⟩
/-- FAULT_SRC_T [31:0], RO (R417): stamp of the latest grant. -/
def FAULT_SRC_T_TICK : Field := ⟨Reg.addr .FAULT_SRC_T, 0, 32⟩
/-- SIG_CTRL [3:0], RW (R417): 2^k ticks, 6 to 15; default 15 (1 s). -/
def SIG_CTRL_STUCK_K : Field := ⟨Reg.addr .SIG_CTRL, 0, 4⟩
/-- SIG_STAT [0], RO (R417): 1: line high at the ball. -/
def SIG_STAT_LEVEL : Field := ⟨Reg.addr .SIG_STAT, 0, 1⟩
/-- SIG_STAT [1], RO (R417): 1: device pulls. -/
def SIG_STAT_PULL : Field := ⟨Reg.addr .SIG_STAT, 1, 1⟩
/-- SIG_STAT [4:2], RO (R417): [2] TT4, [3] STEP, [4] STUCK_HIGH, as R229. -/
def SIG_STAT_BY : Field := ⟨Reg.addr .SIG_STAT, 2, 3⟩
/-- SIG_STAT [5], RO (R417): R411. -/
def SIG_STAT_STUCK : Field := ⟨Reg.addr .SIG_STAT, 5, 1⟩
/-- SIG_STAT [15:8], RO (R417): R411, saturating. -/
def SIG_STAT_FALLS : Field := ⟨Reg.addr .SIG_STAT, 8, 8⟩
/-- TT_CTRL [2:0], RW (R236): timetable for START and STOP. -/
def TT_CTRL_SEL : Field := ⟨Reg.addr .TT_CTRL, 0, 3⟩
/-- TT_CTRL [3], SC (R236): 1: start SEL as START does; cleared when started, held or refused. -/
def TT_CTRL_START : Field := ⟨Reg.addr .TT_CTRL, 3, 1⟩
/-- TT_CTRL [4], SC (R236): 1: stop SEL as STOP does. -/
def TT_CTRL_STOP : Field := ⟨Reg.addr .TT_CTRL, 4, 1⟩
/-- TT_CTRL [5], RW (R236): 1: TT0 at entry to RUN; default 1. -/
def TT_CTRL_AUTOBOOT : Field := ⟨Reg.addr .TT_CTRL, 5, 1⟩
/-- TT_CTRL [15:8], RW (R236): ticks, 1 to 255; default 4. -/
def TT_CTRL_SIG_PULSE : Field := ⟨Reg.addr .TT_CTRL, 8, 8⟩
/-- TT_STATUS [2:0], RO (R236): timetable running. -/
def TT_STATUS_EXEC_TT : Field := ⟨Reg.addr .TT_STATUS, 0, 3⟩
/-- TT_STATUS [3], RO (R236): 1: a timetable is running. -/
def TT_STATUS_EXEC : Field := ⟨Reg.addr .TT_STATUS, 3, 1⟩
/-- TT_STATUS [12:4], RO (R236): step index in progress. -/
def TT_STATUS_STEP : Field := ⟨Reg.addr .TT_STATUS, 4, 9⟩
/-- TT_STATUS [15:13], RO (R236): timetable held pending. -/
def TT_STATUS_PEND_TT : Field := ⟨Reg.addr .TT_STATUS, 13, 3⟩
/-- TT_STATUS [16], RO (R236): 1: pending slot full. -/
def TT_STATUS_PEND : Field := ⟨Reg.addr .TT_STATUS, 16, 1⟩
/-- TT_STATUS [17], RO (R236): R209. -/
def TT_STATUS_LAST_FAIL : Field := ⟨Reg.addr .TT_STATUS, 17, 1⟩
/-- TT_STATUS [18], RO (R236): 1: device pulls SIGNAL_N. -/
def TT_STATUS_SIG_PULL : Field := ⟨Reg.addr .TT_STATUS, 18, 1⟩
/-- TT_STATUS [19], RO (R236): SIGNAL_N at the ball; 1: high. -/
def TT_STATUS_SIG_LEVEL : Field := ⟨Reg.addr .TT_STATUS, 19, 1⟩
/-- TT_STATUS [20], RO (R236): 1: commit in progress. -/
def TT_STATUS_LOADING : Field := ⟨Reg.addr .TT_STATUS, 20, 1⟩
/-- TT_STATUS [27:22], RO (R236): bit r: rail r shed. -/
def TT_STATUS_SHED : Field := ⟨Reg.addr .TT_STATUS, 22, 6⟩
/-- TT_VALID [7:0], RO (R236): bit n: TTn loaded and valid. -/
def TT_VALID_VALID : Field := ⟨Reg.addr .TT_VALID, 0, 8⟩
/-- TT_VALID [15:8], W1C (R236): bit n: TTn abandoned. -/
def TT_VALID_ABANDONED : Field := ⟨Reg.addr .TT_VALID, 8, 8⟩
/-- TT_VALID [25:16], RO (R236): free words, 0 to 512. -/
def TT_VALID_FREE : Field := ⟨Reg.addr .TT_VALID, 16, 10⟩
/-- TT_MARK [15:0], RO (R236): last MARK code. -/
def TT_MARK_CODE : Field := ⟨Reg.addr .TT_MARK, 0, 16⟩
/-- TT_MARK [18:16], RO (R236): its timetable. -/
def TT_MARK_TT : Field := ⟨Reg.addr .TT_MARK, 16, 3⟩
/-- TT_MARK [27:19], RO (R236): its step index. -/
def TT_MARK_STEP : Field := ⟨Reg.addr .TT_MARK, 19, 9⟩
/-- TT_MARK [28], RO (R236): 1: a MARK ran since reset. -/
def TT_MARK_SEEN : Field := ⟨Reg.addr .TT_MARK, 28, 1⟩
/-- TT_ADDR [8:0], RW (R236): word of the area read by TT_DATA. -/
def TT_ADDR_ADDR : Field := ⟨Reg.addr .TT_ADDR, 0, 9⟩
/-- TT_DATA [31:0], RO (R236): word at ADDR; each read advances ADDR by 1, modulo 512. -/
def TT_DATA_WORD : Field := ⟨Reg.addr .TT_DATA, 0, 32⟩
/-- TT_DEP_LO [5:0], RW (R236): DEPENDS mask of H1; default 0x10. -/
def TT_DEP_LO_DEP_H1 : Field := ⟨Reg.addr .TT_DEP_LO, 0, 6⟩
/-- TT_DEP_LO [13:8], RW (R236): default 0x10. -/
def TT_DEP_LO_DEP_H2 : Field := ⟨Reg.addr .TT_DEP_LO, 8, 6⟩
/-- TT_DEP_LO [21:16], RW (R236): default 0x10. -/
def TT_DEP_LO_DEP_H3 : Field := ⟨Reg.addr .TT_DEP_LO, 16, 6⟩
/-- TT_DEP_LO [29:24], RW (R236): default 0x10. -/
def TT_DEP_LO_DEP_H4 : Field := ⟨Reg.addr .TT_DEP_LO, 24, 6⟩
/-- TT_DEP_HI [5:0], RW (R236): default 0x20. -/
def TT_DEP_HI_DEP_C : Field := ⟨Reg.addr .TT_DEP_HI, 0, 6⟩
/-- TT_DEP_HI [13:8], RW (R236): default 0x00. -/
def TT_DEP_HI_DEP_A : Field := ⟨Reg.addr .TT_DEP_HI, 8, 6⟩
/-- TT_DIR [8:0], RO (R236): word of the header. -/
def TT_DIR_START (n : Nat) : Field := ⟨Reg.addr (.TT_DIR n), 0, 9⟩
/-- TT_DIR [18:9], RO (R236): words including the header; 0: not loaded. -/
def TT_DIR_LEN (n : Nat) : Field := ⟨Reg.addr (.TT_DIR n), 9, 10⟩
/-- TT_DIR [19], RO (R236): R198. -/
def TT_DIR_VALID (n : Nat) : Field := ⟨Reg.addr (.TT_DIR n), 19, 1⟩
/-- TT_PG [7:0], RW (R236): 0.1 %, 10 to 250; default 50. -/
def TT_PG_PG_LO (n : Nat) : Field := ⟨Reg.addr (.TT_PG n), 0, 8⟩
/-- TT_PG [15:8], RW (R236): 0.1 %, 10 to 250; default 50. -/
def TT_PG_PG_HI (n : Nat) : Field := ⟨Reg.addr (.TT_PG n), 8, 8⟩
/-- TT_PG [27:16], RW (R236): codes of 1.5 mV; default 200 (0.300 V). -/
def TT_PG_OFF_V (n : Nat) : Field := ⟨Reg.addr (.TT_PG n), 16, 12⟩
/-- TT_PG [28], RW (R236): R217; default 1. -/
def TT_PG_TRACK (n : Nat) : Field := ⟨Reg.addr (.TT_PG n), 28, 1⟩
/-- RAIL_CTRL [0], RW (R293): 1: enable, as ENABLE; 0: turn off under R280; a 1 written to a shed rail clears its shed
bit. -/
def RAIL_CTRL_EN (n : Nat) : Field := ⟨Reg.addr (.RAIL_CTRL n), 0, 1⟩
/-- RAIL_CTRL [4:1], RO (R293): R277. -/
def RAIL_CTRL_STATE (n : Nat) : Field := ⟨Reg.addr (.RAIL_CTRL n), 1, 4⟩
/-- RAIL_CTRL [5], RO (R293): 1: a move or turn-on ramp owes TARGET_REACHED. -/
def RAIL_CTRL_TR_PEND (n : Nat) : Field := ⟨Reg.addr (.RAIL_CTRL n), 5, 1⟩
/-- RAIL_TARGET [12:0], RW (R293): mV, 400 to 5,600; default 5,000 H1–H4, 900 C, 3,300 A. -/
def RAIL_TARGET_TARGET (n : Nat) : Field := ⟨Reg.addr (.RAIL_TARGET n), 0, 13⟩
/-- RAIL_TARGET [21:13], RW (R293): 0.01 mΩ, 0 to 400; default 20 H1–H4, 50 C, 0 A. -/
def RAIL_TARGET_LOADLINE (n : Nat) : Field := ⟨Reg.addr (.RAIL_TARGET n), 13, 9⟩
/-- RAIL_TARGET [29:22], RW (R293): 0.1 %, two's complement, −100 to +100. -/
def RAIL_TARGET_MARGIN (n : Nat) : Field := ⟨Reg.addr (.RAIL_TARGET n), 22, 8⟩
/-- RAIL_RAMP [7:0], RW (R293): 0.1 mV/µs, 1 to 255; default 100. -/
def RAIL_RAMP_ON_SLEW (n : Nat) : Field := ⟨Reg.addr (.RAIL_RAMP n), 0, 8⟩
/-- RAIL_RAMP [15:8], RW (R293): 0.1 mV/µs, 1 to 255; default 100. -/
def RAIL_RAMP_OFF_SLEW (n : Nat) : Field := ⟨Reg.addr (.RAIL_RAMP n), 8, 8⟩
/-- RAIL_RAMP [23:16], RW (R293): 0.1 mV/µs, 1 to 255; default 8. -/
def RAIL_RAMP_MOVE_SLEW (n : Nat) : Field := ⟨Reg.addr (.RAIL_RAMP n), 16, 8⟩
/-- RAIL_DELAY [9:0], RW (R293): ticks, 0 to 1,023; default 0. -/
def RAIL_DELAY_ON_DLY (n : Nat) : Field := ⟨Reg.addr (.RAIL_DELAY n), 0, 10⟩
/-- RAIL_DELAY [19:10], RW (R293): ticks, 0 to 1,023; default 0. -/
def RAIL_DELAY_OFF_DLY (n : Nat) : Field := ⟨Reg.addr (.RAIL_DELAY n), 10, 10⟩
/-- RAIL_NL [0], RW (R293): default 1. -/
def RAIL_NL_NL_EN (n : Nat) : Field := ⟨Reg.addr (.RAIL_NL n), 0, 1⟩
/-- RAIL_NL [6:1], RW (R293): 5 mV, 1 to 63; default 12 H1–H4, 6 C, 20 A. -/
def RAIL_NL_NL_THR (n : Nat) : Field := ⟨Reg.addr (.RAIL_NL n), 1, 6⟩
/-- RAIL_NL [17:7], RW (R293): ns, 40 to 2,000; default 500. -/
def RAIL_NL_NL_MAXON (n : Nat) : Field := ⟨Reg.addr (.RAIL_NL n), 7, 11⟩
/-- RAIL_ANT [0], RW (R293): default 1 H1–H4, 0 C and A; a 1 is refused where no head exists. -/
def RAIL_ANT_ANT_EN (n : Nat) : Field := ⟨Reg.addr (.RAIL_ANT n), 0, 1⟩
/-- RAIL_ANT [10:1], RW (R293): 10 µA, 0 to 1,023; default 450. -/
def RAIL_ANT_IEM (n : Nat) : Field := ⟨Reg.addr (.RAIL_ANT n), 1, 10⟩
/-- RAIL_ANT [18:11], RW (R293): 10 nH, 1 to 255; default 15. -/
def RAIL_ANT_LPH (n : Nat) : Field := ⟨Reg.addr (.RAIL_ANT n), 11, 8⟩
/-- RAIL_ANT [24:19], RW (R293): ns, 0 to 63; default 20. -/
def RAIL_ANT_ANT_DLY (n : Nat) : Field := ⟨Reg.addr (.RAIL_ANT n), 19, 6⟩
/-- RAIL_PRED [12:0], RO (R293): last V_pred formed, mV. -/
def RAIL_PRED_VPRED (n : Nat) : Field := ⟨Reg.addr (.RAIL_PRED n), 0, 13⟩
/-- RAIL_PRED [14:13], RO (R293): its group. -/
def RAIL_PRED_GROUP (n : Nat) : Field := ⟨Reg.addr (.RAIL_PRED n), 13, 2⟩
/-- RAIL_PRED [15], RO (R293): 1: VPRED belongs to the latest line. -/
def RAIL_PRED_VALID (n : Nat) : Field := ⟨Reg.addr (.RAIL_PRED n), 15, 1⟩
/-- RAIL_PRED [28:16], RO (R293): V_REF, mV. -/
def RAIL_PRED_VREF (n : Nat) : Field := ⟨Reg.addr (.RAIL_PRED n), 16, 13⟩
/-- RAIL_STATUS [12:0], RO (R293): V_CMD, mV. -/
def RAIL_STATUS_VCMD (n : Nat) : Field := ⟨Reg.addr (.RAIL_STATUS n), 0, 13⟩
/-- RAIL_STATUS [21:14], RO (R293): responses since reset, saturating at 255. -/
def RAIL_STATUS_NL_COUNT (n : Nat) : Field := ⟨Reg.addr (.RAIL_STATUS n), 14, 8⟩
/-- RAIL_STATUS [31:22], RO (R293): R286, 4 ns units, saturating at 1,023. -/
def RAIL_STATUS_NL_LAST (n : Nat) : Field := ⟨Reg.addr (.RAIL_STATUS n), 22, 10⟩
/-- RAIL_SW [1:0], RW (R269): k: T_SW = 2^k reference periods; default 1. -/
def RAIL_SW_DIV (n : Nat) : Field := ⟨Reg.addr (.RAIL_SW n), 0, 2⟩
/-- RAIL_SW [7:2], RW (R269): 1/64 turn; defaults H1 0, H2 5, H3 11, H4 16, C 0, A 0. -/
def RAIL_SW_OFFSET (n : Nat) : Field := ⟨Reg.addr (.RAIL_SW n), 2, 6⟩
/-- RAIL_SW [13:8], RW (R269): mV peak to peak, 4 to 63; default 20. -/
def RAIL_SW_RIPPLE (n : Nat) : Field := ⟨Reg.addr (.RAIL_SW n), 8, 6⟩
/-- RAIL_SW [21:14], RW (R269): ns, 40 to 200; default 80. -/
def RAIL_SW_MIN_OFF (n : Nat) : Field := ⟨Reg.addr (.RAIL_SW n), 14, 8⟩
/-- RAIL_SW [31:22], RW (R269): 0.01 mV/A, 200 to 1,000; default 500. -/
def RAIL_SW_ISGAIN (n : Nat) : Field := ⟨Reg.addr (.RAIL_SW n), 22, 10⟩
/-- RAIL_BAL [1:0], RW (R269): 0 OFF, 1 AUTO, 2 MANUAL, 3 refused; default 1. -/
def RAIL_BAL_MODE (n : Nat) : Field := ⟨Reg.addr (.RAIL_BAL n), 0, 2⟩
/-- RAIL_BAL [8:2], RW (R269): 0.1 %, 0 to 120; default 50. -/
def RAIL_BAL_LIM (n : Nat) : Field := ⟨Reg.addr (.RAIL_BAL n), 2, 7⟩
/-- RAIL_BAL [14:9], RW (R269): 50 mA, 1 to 63; default 4. -/
def RAIL_BAL_DB (n : Nat) : Field := ⟨Reg.addr (.RAIL_BAL n), 9, 6⟩
/-- RAIL_BAL [22:15], RW (R269): 0.1 A, 0 to 255; default 10. -/
def RAIL_BAL_BAL_MIN (n : Nat) : Field := ⟨Reg.addr (.RAIL_BAL n), 15, 8⟩
/-- RAIL_LIGHT [0], RW (R269): default 0. -/
def RAIL_LIGHT_AUTOSHED (n : Nat) : Field := ⟨Reg.addr (.RAIL_LIGHT n), 0, 1⟩
/-- RAIL_LIGHT [3:1], RW (R269): minimum rotation minus 1; default 0. -/
def RAIL_LIGHT_MIN_PH (n : Nat) : Field := ⟨Reg.addr (.RAIL_LIGHT n), 1, 3⟩
/-- RAIL_LIGHT [11:4], RW (R269): 0.1 A per phase, 1 to 255; default 30. -/
def RAIL_LIGHT_SHED_I (n : Nat) : Field := ⟨Reg.addr (.RAIL_LIGHT n), 4, 8⟩
/-- RAIL_LIGHT [19:12], RW (R269): 0.1 A per phase, 1 to 255; default 40. -/
def RAIL_LIGHT_ADD_I (n : Nat) : Field := ⟨Reg.addr (.RAIL_LIGHT n), 12, 8⟩
/-- RAIL_PMASK [15:0], RO (R269): bit n: PHn assigned to the rail. -/
def RAIL_PMASK_ASSIGNED (n : Nat) : Field := ⟨Reg.addr (.RAIL_PMASK n), 0, 16⟩
/-- RAIL_PMASK [31:16], RO (R269): bit 16 + n: 1 while PHn is in the rotation set. -/
def RAIL_PMASK_ROTATION (n : Nat) : Field := ⟨Reg.addr (.RAIL_PMASK n), 16, 16⟩
/-- RAIL_LOCK [1:0], RO (R269): 0 FREE, 1 PULLING, 2 LOCKED, 3 reserved. -/
def RAIL_LOCK_LOCK (n : Nat) : Field := ⟨Reg.addr (.RAIL_LOCK n), 0, 2⟩
/-- RAIL_LOCK [5:2], RO (R269): N, 0 to 8. -/
def RAIL_LOCK_NACT (n : Nat) : Field := ⟨Reg.addr (.RAIL_LOCK n), 2, 4⟩
/-- RAIL_LOCK [6], RO (R269): 1: a phase is IDLE. -/
def RAIL_LOCK_LIGHT (n : Nat) : Field := ⟨Reg.addr (.RAIL_LOCK n), 6, 1⟩
/-- RAIL_LOCK [15:8], RO (R269): last e, 1/256 turn, two's complement. -/
def RAIL_LOCK_ERR (n : Nat) : Field := ⟨Reg.addr (.RAIL_LOCK n), 8, 8⟩
/-- RAIL_LOCK [24:16], RO (R269): 0.1 %, two's complement, −250 to +250. -/
def RAIL_LOCK_LOCK_I (n : Nat) : Field := ⟨Reg.addr (.RAIL_LOCK n), 16, 9⟩
/-- RAIL_LIMIT [11:0], RW (R318): 0.1 A, 10 to 4,000; default 1,500 H1–H4, 1,200 C, 80 A. -/
def RAIL_LIMIT_LIMIT (n : Nat) : Field := ⟨Reg.addr (.RAIL_LIMIT n), 0, 12⟩
/-- RAIL_LIMIT [19:12], RW (R318): limited rank-0 cycles, 1 to 255; default 8. -/
def RAIL_LIMIT_HICCUP_N (n : Nat) : Field := ⟨Reg.addr (.RAIL_LIMIT n), 12, 8⟩
/-- RAIL_LIMIT [27:20], RW (R318): ms, 1 to 255; default 20. -/
def RAIL_LIMIT_HICCUP_T (n : Nat) : Field := ⟨Reg.addr (.RAIL_LIMIT n), 20, 8⟩
/-- RAIL_LIMIT [31:28], RW (R318): 0 to 15; 0: unlimited; default 0. -/
def RAIL_LIMIT_HICCUP_MAX (n : Nat) : Field := ⟨Reg.addr (.RAIL_LIMIT n), 28, 4⟩
/-- RAIL_PROT [10:0], RW (R318): ms, 1 to 2,000; default 100. -/
def RAIL_PROT_OVL_T (n : Nat) : Field := ⟨Reg.addr (.RAIL_PROT n), 0, 11⟩
/-- RAIL_PROT [15:11], RW (R318): %, 2 to 20; default 10. -/
def RAIL_PROT_OV_PCT (n : Nat) : Field := ⟨Reg.addr (.RAIL_PROT n), 11, 5⟩
/-- RAIL_PROT [23:16], RW (R318): °C, 40 to 140; default 110. -/
def RAIL_PROT_OT_WARN (n : Nat) : Field := ⟨Reg.addr (.RAIL_PROT n), 16, 8⟩
/-- RAIL_PROT [31:24], RW (R318): °C, 60 to 145; default 135. -/
def RAIL_PROT_OT_SHUT (n : Nat) : Field := ⟨Reg.addr (.RAIL_PROT n), 24, 8⟩
/-- RAIL_PSTAT [11:0], RO (R318): R298, 0.1 A, saturating at 4,095. -/
def RAIL_PSTAT_I_FORCE (n : Nat) : Field := ⟨Reg.addr (.RAIL_PSTAT n), 0, 12⟩
/-- RAIL_PSTAT [12], RO (R318): R299. -/
def RAIL_PSTAT_LIMITING (n : Nat) : Field := ⟨Reg.addr (.RAIL_PSTAT n), 12, 1⟩
/-- RAIL_PSTAT [13], RO (R318): R304. -/
def RAIL_PSTAT_OVERLOAD (n : Nat) : Field := ⟨Reg.addr (.RAIL_PSTAT n), 13, 1⟩
/-- RAIL_PSTAT [14], RO (R318): 1: in hiccup off-time. -/
def RAIL_PSTAT_HICCUP (n : Nat) : Field := ⟨Reg.addr (.RAIL_PSTAT n), 14, 1⟩
/-- RAIL_PSTAT [15], RO (R318): R309. -/
def RAIL_PSTAT_OT_WARN_ACT (n : Nat) : Field := ⟨Reg.addr (.RAIL_PSTAT n), 15, 1⟩
/-- RAIL_PSTAT [19:16], RO (R318): consecutive hiccups, saturating at 15. -/
def RAIL_PSTAT_HICCUPS (n : Nat) : Field := ⟨Reg.addr (.RAIL_PSTAT n), 16, 4⟩
/-- RAIL_PSTAT [27:20], RO (R318): last TSNS conversion, °C plus 40. -/
def RAIL_PSTAT_TEMP (n : Nat) : Field := ⟨Reg.addr (.RAIL_PSTAT n), 20, 8⟩
/-- RAIL_PSTAT [28], RO (R318): R309. -/
def RAIL_PSTAT_TSNS_OPEN (n : Nat) : Field := ⟨Reg.addr (.RAIL_PSTAT n), 28, 1⟩
/-- RAIL_PSTAT [29], RO (R318): 1: TSNS at or above 1.800 V. -/
def RAIL_PSTAT_STAGE_FAULT (n : Nat) : Field := ⟨Reg.addr (.RAIL_PSTAT n), 29, 1⟩
/-- PH_CTRL [2:0], RW (R269): rail 0–5; 7 unassigned; 6 refused; default R239. -/
def PH_CTRL_RAIL (n : Nat) : Field := ⟨Reg.addr (.PH_CTRL n), 0, 3⟩
/-- PH_TRIM [7:0], RW (R269): 0.1 %, two's complement; default 0. -/
def PH_TRIM_MANUAL (n : Nat) : Field := ⟨Reg.addr (.PH_TRIM n), 0, 8⟩
/-- PH_TRIM [15:8], RO (R269): trim in use, 0.1 %, two's complement. -/
def PH_TRIM_TRIM (n : Nat) : Field := ⟨Reg.addr (.PH_TRIM n), 8, 8⟩
/-- PH_TRIM [16], RO (R269): R265. -/
def PH_TRIM_PINNED (n : Nat) : Field := ⟨Reg.addr (.PH_TRIM n), 16, 1⟩
/-- PH_ISNS [9:0], RO (R269): last ISNS code. -/
def PH_ISNS_CODE (n : Nat) : Field := ⟨Reg.addr (.PH_ISNS n), 0, 10⟩
/-- PH_ISNS [25:10], RO (R269): last sample, 10 mA, two's complement. -/
def PH_ISNS_I (n : Nat) : Field := ⟨Reg.addr (.PH_ISNS n), 10, 16⟩
/-- PH_CAL [9:0], RO (R269): 1/16 code, two's complement. -/
def PH_CAL_OFFSET (n : Nat) : Field := ⟨Reg.addr (.PH_CAL n), 0, 10⟩
/-- PH_CAL [10], RO (R269): R261. -/
def PH_CAL_OFS_BAD (n : Nat) : Field := ⟨Reg.addr (.PH_CAL n), 10, 1⟩
/-- PH_CAL [11], SC (R269): 1: request R262; cleared when done. -/
def PH_CAL_CAL (n : Nat) : Field := ⟨Reg.addr (.PH_CAL n), 11, 1⟩
/-- PH_CAL [12], RO (R269): 1: request waiting for CLAIMS 0. -/
def PH_CAL_CAL_PEND (n : Nat) : Field := ⟨Reg.addr (.PH_CAL n), 12, 1⟩
/-- PH_CAL [13], RO (R269): 1: the last zero check of R262 failed. -/
def PH_CAL_ZERO_BAD (n : Nat) : Field := ⟨Reg.addr (.PH_CAL n), 13, 1⟩
/-- PH_STATUS [2:0], RO (R269): R240; 5 to 7 not used. -/
def PH_STATUS_STATE (n : Nat) : Field := ⟨Reg.addr (.PH_STATUS n), 0, 3⟩
/-- PH_STATUS [5:3], RO (R269): rank in rotation; 0 when not in rotation. -/
def PH_STATUS_RANK (n : Nat) : Field := ⟨Reg.addr (.PH_STATUS n), 3, 3⟩
/-- PH_STATUS [18:7], RO (R269): last on-time, ns. -/
def PH_STATUS_ONTIME (n : Nat) : Field := ⟨Reg.addr (.PH_STATUS n), 7, 12⟩
/-- PH_STATUS [19], RO (R269): last on-time at T_SW − MIN_OFF. -/
def PH_STATUS_MAXDUTY (n : Nat) : Field := ⟨Reg.addr (.PH_STATUS n), 19, 1⟩
/-- PH_STATUS [20], RO (R269): last on-time at 20 ns. -/
def PH_STATUS_MINON (n : Nat) : Field := ⟨Reg.addr (.PH_STATUS n), 20, 1⟩
/-- PH_PROT [0], RO (R318): R312. -/
def PH_PROT_OPEN (n : Nat) : Field := ⟨Reg.addr (.PH_PROT n), 0, 1⟩
/-- PH_PROT [1], RO (R318): R312. -/
def PH_PROT_SENSE_FAIL (n : Nat) : Field := ⟨Reg.addr (.PH_PROT n), 1, 1⟩
/-- PH_PROT [2], RO (R318): R305. -/
def PH_PROT_SHORT (n : Nat) : Field := ⟨Reg.addr (.PH_PROT n), 2, 1⟩
/-- PH_PROT [3], SC (R318): 1: restore under R316; a write refused there leaves the bit 0. -/
def PH_PROT_RESTORE (n : Nat) : Field := ⟨Reg.addr (.PH_PROT n), 3, 1⟩
/-- PH_PROT [4], RO (R318): 1: FOLLOWER waiting for R313. -/
def PH_PROT_SHED_PEND (n : Nat) : Field := ⟨Reg.addr (.PH_PROT n), 4, 1⟩
/-- PH_PROT [12:5], RO (R318): R300, saturating at 255. -/
def PH_PROT_SC_TRIPS (n : Nat) : Field := ⟨Reg.addr (.PH_PROT n), 5, 8⟩
/-- MON_CTRL [0], RW (R110): 1: monitor enabled. -/
def MON_CTRL_EN (n : Nat) : Field := ⟨Reg.addr (.MON_CTRL n), 0, 1⟩
/-- MON_CTRL [1], RW (R110): 0: WINDOW; 1: CONVERT. -/
def MON_CTRL_MODE (n : Nat) : Field := ⟨Reg.addr (.MON_CTRL n), 1, 1⟩
/-- MON_CTRL [3:2], RW (R110): converter ADC0–ADC3; CONVERT only. -/
def MON_CTRL_ADC (n : Nat) : Field := ⟨Reg.addr (.MON_CTRL n), 2, 2⟩
/-- MON_CTRL [7:4], RW (R110): resolution in bits, 6 to 12; CONVERT only. -/
def MON_CTRL_RES (n : Nat) : Field := ⟨Reg.addr (.MON_CTRL n), 4, 4⟩
/-- MON_CTRL [12:8], RW (R110): input code under R95. -/
def MON_CTRL_INPUT (n : Nat) : Field := ⟨Reg.addr (.MON_CTRL n), 8, 5⟩
/-- MON_CTRL [15:13], RW (R110): consecutive samples minus 1. -/
def MON_CTRL_CONFIRM (n : Nat) : Field := ⟨Reg.addr (.MON_CTRL n), 13, 3⟩
/-- MON_CTRL [18:16], RW (R110): [16] BELOW, [17] INSIDE, [18] ABOVE; 1: event on entry. -/
def MON_CTRL_EVMASK (n : Nat) : Field := ⟨Reg.addr (.MON_CTRL n), 16, 3⟩
/-- MON_THR [11:0], RW (R110): lower threshold, result codes. -/
def MON_THR_LO (n : Nat) : Field := ⟨Reg.addr (.MON_THR n), 0, 12⟩
/-- MON_THR [23:12], RW (R110): upper threshold, result codes. -/
def MON_THR_HI (n : Nat) : Field := ⟨Reg.addr (.MON_THR n), 12, 12⟩
/-- MON_THR [29:24], RW (R110): hysteresis, result codes, 0 to 63. -/
def MON_THR_HYS (n : Nat) : Field := ⟨Reg.addr (.MON_THR n), 24, 6⟩
/-- MON_TIME [3:0], RW (R110): k: period 2^k ticks at RUN_LVL; 0 to 14. -/
def MON_TIME_RUN_PER (n : Nat) : Field := ⟨Reg.addr (.MON_TIME n), 0, 4⟩
/-- MON_TIME [7:4], RW (R110): k at STBY_LVL; 0 to 14; 15: no samples. -/
def MON_TIME_STBY_PER (n : Nat) : Field := ⟨Reg.addr (.MON_TIME n), 4, 4⟩
/-- MON_TIME [17:8], RW (R110): window width, 16 ns units. -/
def MON_TIME_BLANK_W (n : Nat) : Field := ⟨Reg.addr (.MON_TIME n), 8, 10⟩
/-- MON_TIME [22:18], RW (R110): source under R106. -/
def MON_TIME_BLANK_SRC (n : Nat) : Field := ⟨Reg.addr (.MON_TIME n), 18, 5⟩
/-- MON_STATUS [1:0], RO (R110): 0 UNSETTLED, 1 BELOW, 2 INSIDE, 3 ABOVE. -/
def MON_STATUS_STATE (n : Nat) : Field := ⟨Reg.addr (.MON_STATUS n), 0, 2⟩
/-- MON_STATUS [2], RO (R110): 1: STATE is INSIDE. -/
def MON_STATUS_GOOD (n : Nat) : Field := ⟨Reg.addr (.MON_STATUS n), 2, 1⟩
/-- MON_STATUS [15:4], RO (R110): last result code; 0 in WINDOW mode. -/
def MON_STATUS_LAST (n : Nat) : Field := ⟨Reg.addr (.MON_STATUS n), 4, 12⟩
/-- MON_STATUS [23:16], RO (R110): missed samples, saturating; cleared when a sample is taken. -/
def MON_STATUS_MISS (n : Nat) : Field := ⟨Reg.addr (.MON_STATUS n), 16, 8⟩
/-- HARV_CTRL [1:0], RW (R135): 0 FIXED, 1 FRACTION (not KEY), 2 HOLD, 3 refused; default 0. -/
def HARV_CTRL_MODE (n : Nat) : Field := ⟨Reg.addr (.HARV_CTRL n), 0, 2⟩
/-- HARV_CTRL [8:2], RW (R135): fraction in %, 30 to 80; default 50. -/
def HARV_CTRL_FRAC (n : Nat) : Field := ⟨Reg.addr (.HARV_CTRL n), 2, 7⟩
/-- HARV_CTRL [11:9], RW (R135): k: period 2^k s, 0 to 6; default 3. -/
def HARV_CTRL_PERIOD (n : Nat) : Field := ⟨Reg.addr (.HARV_CTRL n), 9, 3⟩
/-- HARV_CTRL [15:12], RW (R135): k: dwell 2^k ticks, 0 to 10; default 10. -/
def HARV_CTRL_DWELL (n : Nat) : Field := ⟨Reg.addr (.HARV_CTRL n), 12, 4⟩
/-- HARV_CTRL [27:16], RW (R135): HOLD operating point, codes; default bottom of range. -/
def HARV_CTRL_HOLDV (n : Nat) : Field := ⟨Reg.addr (.HARV_CTRL n), 16, 12⟩
/-- HARV_LIM [11:0], RW (R135): FRACTION lower bound, codes; default bottom of range. -/
def HARV_LIM_VMIN (n : Nat) : Field := ⟨Reg.addr (.HARV_LIM n), 0, 12⟩
/-- HARV_LIM [23:12], RW (R135): FRACTION upper bound, codes; default top of range. -/
def HARV_LIM_VMAX (n : Nat) : Field := ⟨Reg.addr (.HARV_LIM n), 12, 12⟩
/-- HARV_STATUS [11:0], RO (R135): present operating point, codes. -/
def HARV_STATUS_OP (n : Nat) : Field := ⟨Reg.addr (.HARV_STATUS n), 0, 12⟩
/-- HARV_STATUS [23:12], RO (R135): last open-circuit sample, codes; 0 before the first. -/
def HARV_STATUS_VOC (n : Nat) : Field := ⟨Reg.addr (.HARV_STATUS n), 12, 12⟩
/-- HARV_STATUS [26:24], RO (R135): 0 IDLE, 1 COLD, 2 HARVEST, 3 OPEN, 4 CLAMP, 5 OFF. -/
def HARV_STATUS_STATE (n : Nat) : Field := ⟨Reg.addr (.HARV_STATUS n), 24, 3⟩
/-- HARV_STATUS [27], RO (R135): 1: pinned under R123. -/
def HARV_STATUS_PULLED (n : Nat) : Field := ⟨Reg.addr (.HARV_STATUS n), 27, 1⟩
/-- HARV_STATUS [28], RO (R135): 1: MPPSET result limited (R120). -/
def HARV_STATUS_FIXED_LIM (n : Nat) : Field := ⟨Reg.addr (.HARV_STATUS n), 28, 1⟩
/-- HARV_SET [11:0], RO (R135): operating point read from MPPSET_x, codes. -/
def HARV_SET_SET (n : Nat) : Field := ⟨Reg.addr (.HARV_SET n), 0, 12⟩
/-- HARV_KA [7:0], RW (R135): 80 to 120; default 96 (2.40 V). -/
def HARV_KA_RES_ON : Field := ⟨Reg.addr .HARV_KA, 0, 8⟩
/-- HARV_KA [15:8], RW (R135): up to 160; default 108 (2.70 V). -/
def HARV_KA_RES_OFF : Field := ⟨Reg.addr .HARV_KA, 8, 8⟩
/-- HARV_KA [23:16], RW (R135): 200 to 215; default 204 (5.10 V). -/
def HARV_KA_TRICKLE_OFF : Field := ⟨Reg.addr .HARV_KA, 16, 8⟩
/-- HARV_KA [31:24], RW (R135): up to 216; default 212 (5.30 V). -/
def HARV_KA_TRICKLE_ON : Field := ⟨Reg.addr .HARV_KA, 24, 8⟩
/-- HARV_START [7:0], RW (R135): 120 to 216; default 180 (4.50 V). -/
def HARV_START_CORE_START : Field := ⟨Reg.addr .HARV_START, 0, 8⟩
/-- HARV_START [9:8], RO (R135): 0 HARVEST, 1 RESERVOIR, 2 BACKUP, 3 reserved. -/
def HARV_START_SOURCE : Field := ⟨Reg.addr .HARV_START, 8, 2⟩
/-- HARV_START [10], RO (R135): 1: trickle running. -/
def HARV_START_TRICKLE : Field := ⟨Reg.addr .HARV_START, 10, 1⟩
/-- HARV_START [11], RO (R135): 1: relay pulse waiting under R131. -/
def HARV_START_RELAY_PEND : Field := ⟨Reg.addr .HARV_START, 11, 1⟩
/-- HARV_START [12], W1C (R135): 1: a cold-start shot has fired since the bit was last cleared. -/
def HARV_START_SHOT : Field := ⟨Reg.addr .HARV_START, 12, 1⟩
/-- HARV_START [13], W1C (R135): 1: KEY_WEAK has been recorded under R133 since the bit was last cleared. -/
def HARV_START_KEY_WEAK : Field := ⟨Reg.addr .HARV_START, 13, 1⟩
/-- HARV_START [14], W1C (R135): 1: a power-on reset has occurred since the bit was last cleared. -/
def HARV_START_COLD : Field := ⟨Reg.addr .HARV_START, 14, 1⟩
/-- HARV_START [15], W1C (R135): 1: RESET has been entered at CORE_LOW since the bit was last cleared. -/
def HARV_START_VKA_RESET : Field := ⟨Reg.addr .HARV_START, 15, 1⟩
/-- HARV_TRICKLE [31:0], RO (R135): energy trickled into the stack in mJ, wrapping; zeroed at power-on reset. -/
def HARV_TRICKLE_ENERGY : Field := ⟨Reg.addr .HARV_TRICKLE, 0, 32⟩
/-- RES_CFG [3:0], RW (R164): cell count, 2 to 8; default 6. -/
def RES_CFG_CELLS : Field := ⟨Reg.addr .RES_CFG, 0, 4⟩
/-- RES_CFG [13:4], RW (R164): 400 to 600; default 540 (2.700 V). -/
def RES_CFG_CELL_MAX : Field := ⟨Reg.addr .RES_CFG, 4, 10⟩
/-- RES_CFG [25:14], RW (R164): stack codes; default 1,296 (8.100 V). -/
def RES_CFG_FLOOR_V : Field := ⟨Reg.addr .RES_CFG, 14, 12⟩
/-- RES_BAL [9:0], RW (R164): 400 to 600; default 500 (2.500 V). -/
def RES_BAL_BAL_START : Field := ⟨Reg.addr .RES_BAL, 0, 10⟩
/-- RES_BAL [14:10], RW (R164): 1 to 20; default 4 (20 mV). -/
def RES_BAL_BAL_DELTA : Field := ⟨Reg.addr .RES_BAL, 10, 5⟩
/-- RES_BAL [15], RW (R164): 1: balancing enabled; default 1. -/
def RES_BAL_BAL_EN : Field := ⟨Reg.addr .RES_BAL, 15, 1⟩
/-- RES_BAL [23:16], RO (R164): bit k−1: BALk high. -/
def RES_BAL_BAL_ON : Field := ⟨Reg.addr .RES_BAL, 16, 8⟩
/-- RES_STATUS [11:0], RO (R164): stack voltage, stack codes. -/
def RES_STATUS_VSTACK : Field := ⟨Reg.addr .RES_STATUS, 0, 12⟩
/-- RES_STATUS [12], RO (R164): R140. -/
def RES_STATUS_FULL : Field := ⟨Reg.addr .RES_STATUS, 12, 1⟩
/-- RES_STATUS [13], RO (R164): R149. -/
def RES_STATUS_ATFLOOR : Field := ⟨Reg.addr .RES_STATUS, 13, 1⟩
/-- RES_STATUS [14], RO (R164): cell monitor ABOVE. -/
def RES_STATUS_CELL_HIGH : Field := ⟨Reg.addr .RES_STATUS, 14, 1⟩
/-- RES_STATUS [15], RO (R164): stack monitor ABOVE. -/
def RES_STATUS_STACK_HIGH : Field := ⟨Reg.addr .RES_STATUS, 15, 1⟩
/-- RES_STATUS [31:16], RO (R164): stack current in mA, two's complement, positive into the stack, saturating. -/
def RES_STATUS_ISTACK : Field := ⟨Reg.addr .RES_STATUS, 16, 16⟩
/-- BR_CTRL [0], RW (R164): 1: bridge enabled; default 1. -/
def BR_CTRL_EN : Field := ⟨Reg.addr .BR_CTRL, 0, 1⟩
/-- BR_CTRL [1], RW (R164): default 1. -/
def BR_CTRL_CHG_EN : Field := ⟨Reg.addr .BR_CTRL, 1, 1⟩
/-- BR_CTRL [2], RW (R164): default 1. -/
def BR_CTRL_SUP_EN : Field := ⟨Reg.addr .BR_CTRL, 2, 1⟩
/-- BR_CTRL [3], RW (R164): default 1. -/
def BR_CTRL_ABS_EN : Field := ⟨Reg.addr .BR_CTRL, 3, 1⟩
/-- BR_CTRL [10:4], RW (R164): W, 5 to 120; default 120. -/
def BR_CTRL_CHG_P : Field := ⟨Reg.addr .BR_CTRL, 4, 7⟩
/-- BR_CTRL [18:11], RW (R164): W, 10 to 240; default 240. -/
def BR_CTRL_SUP_P : Field := ⟨Reg.addr .BR_CTRL, 11, 8⟩
/-- BR_CTRL [26:19], RW (R164): W, 10 to 240; default 240. -/
def BR_CTRL_ABS_P : Field := ⟨Reg.addr .BR_CTRL, 19, 8⟩
/-- BR_SET [11:0], RW (R164): bus codes, 1,600 to 1,920; default 1,840 (23.000 V). -/
def BR_SET_SUP_V : Field := ⟨Reg.addr .BR_SET, 0, 12⟩
/-- BR_SET [23:12], RW (R164): bus codes, 1,960 to 2,240; default 2,024 (25.300 V). -/
def BR_SET_ABS_V : Field := ⟨Reg.addr .BR_SET, 12, 12⟩
/-- BR_LIM [7:0], RW (R164): per phase, 0.1 A, 20 to 200; default 160. -/
def BR_LIM_ILIM : Field := ⟨Reg.addr .BR_LIM, 0, 8⟩
/-- BR_LIM [15:8], RW (R164): stack current, 0.1 A, 5 to 150; default 150. -/
def BR_LIM_CHG_I : Field := ⟨Reg.addr .BR_LIM, 8, 8⟩
/-- BR_LIM [20:16], RW (R164): per-phase frequency, 25 kHz units, 4 to 20; default 10. -/
def BR_LIM_FREQ : Field := ⟨Reg.addr .BR_LIM, 16, 5⟩
/-- BR_STATUS [2:0], RO (R164): 0 OFF, 1 IDLE, 2 CHARGE, 3 ABSORB, 4 SUPPORT, 5 STOPPED. -/
def BR_STATUS_MODE : Field := ⟨Reg.addr .BR_STATUS, 0, 3⟩
/-- BR_STATUS [3], RO (R164): input after the 1 µs filter. -/
def BR_STATUS_MAINS_OK : Field := ⟨Reg.addr .BR_STATUS, 3, 1⟩
/-- BR_STATUS [4], RO (R164): 1: qualified true (R147). -/
def BR_STATUS_MAINS_Q : Field := ⟨Reg.addr .BR_STATUS, 4, 1⟩
/-- BR_STATUS [5], RO (R164): R145. -/
def BR_STATUS_LIMITED : Field := ⟨Reg.addr .BR_STATUS, 5, 1⟩
/-- BR_STATUS [6], RO (R164): 1: both phases running. -/
def BR_STATUS_TWO_PH : Field := ⟨Reg.addr .BR_STATUS, 6, 1⟩
/-- BR_STATUS [19:8], RO (R164): bus voltage, bus codes. -/
def BR_STATUS_VBUS : Field := ⟨Reg.addr .BR_STATUS, 8, 12⟩
/-- BR_STATUS [31:20], RO (R164): bus-side power in W, two's complement, positive from the bus. -/
def BR_STATUS_PBUS : Field := ⟨Reg.addr .BR_STATUS, 20, 12⟩
/-- RELAY_CTRL [7:0], RW (R164): ticks, 1 to 255; default 160. -/
def RELAY_CTRL_WIDTH : Field := ⟨Reg.addr .RELAY_CTRL, 0, 8⟩
/-- RELAY_CTRL [23:8], RW (R164): J; default 1,500. -/
def RELAY_CTRL_TOPUP_J : Field := ⟨Reg.addr .RELAY_CTRL, 8, 16⟩
/-- RELAY_CTRL [27:24], RW (R164): k − 10, where the wait is 2^k ticks: codes 0 to 7 for k 10 to 17; codes 8 to 15
refused; default 6 (k 16, 65,536 ticks). -/
def RELAY_CTRL_MAINS_WAIT : Field := ⟨Reg.addr .RELAY_CTRL, 24, 4⟩
/-- RELAY_CTRL [28], RW (R164): default 1. -/
def RELAY_CTRL_TOPUP_EN : Field := ⟨Reg.addr .RELAY_CTRL, 28, 1⟩
/-- RELAY_CTRL [29], SC (R164): 1: request RELAY_SET; cleared when done, abandoned or refused. -/
def RELAY_CTRL_SET : Field := ⟨Reg.addr .RELAY_CTRL, 29, 1⟩
/-- RELAY_CTRL [30], SC (R164): 1: request RELAY_CLR; as SET; SET and CLR together refused. -/
def RELAY_CTRL_CLR : Field := ⟨Reg.addr .RELAY_CTRL, 30, 1⟩
/-- RELAY_STATUS [1:0], RO (R164): 0 UNKNOWN, 1 OPEN, 2 CLOSED. -/
def RELAY_STATUS_STATE : Field := ⟨Reg.addr .RELAY_STATUS, 0, 2⟩
/-- RELAY_STATUS [2], RO (R164): 1: request waiting or pulse running. -/
def RELAY_STATUS_PEND : Field := ⟨Reg.addr .RELAY_STATUS, 2, 1⟩
/-- RELAY_STATUS [3], RO (R164): 1: present closure is a top-up closure. -/
def RELAY_STATUS_TOPUP : Field := ⟨Reg.addr .RELAY_STATUS, 3, 1⟩
/-- RELAY_STATUS [4], RO (R164): R157. -/
def RELAY_STATUS_WAIT_MAINS : Field := ⟨Reg.addr .RELAY_STATUS, 4, 1⟩
/-- RELAY_STATUS [5], W1C (R164): 1: a pulse was cut (R131). -/
def RELAY_STATUS_CUT : Field := ⟨Reg.addr .RELAY_STATUS, 5, 1⟩
/-- RELAY_STATUS [6], W1C (R164): 1: a pulse was abandoned (R131). -/
def RELAY_STATUS_UNARMED : Field := ⟨Reg.addr .RELAY_STATUS, 6, 1⟩
/-- RELAY_STATUS [7], W1C (R164): 1: an open request was refused (R154). -/
def RELAY_STATUS_REFUSED : Field := ⟨Reg.addr .RELAY_STATUS, 7, 1⟩
/-- RELAY_STATUS [31:16], RO (R164): full-width pulses since power-on reset, wrapping. -/
def RELAY_STATUS_COUNT : Field := ⟨Reg.addr .RELAY_STATUS, 16, 16⟩
/-- BACKUP_STATUS [11:0], RO (R164): cell voltage, 1.5 mV codes; updated every 65,536 ticks and at each change of
source. -/
def BACKUP_STATUS_VBACKUP : Field := ⟨Reg.addr .BACKUP_STATUS, 0, 12⟩
/-- BACKUP_STATUS [12], RO (R164): R161. -/
def BACKUP_STATUS_PRESENT : Field := ⟨Reg.addr .BACKUP_STATUS, 12, 1⟩
/-- BACKUP_STATUS [13], RO (R164): 1: source is BACKUP. -/
def BACKUP_STATUS_ACTIVE : Field := ⟨Reg.addr .BACKUP_STATUS, 13, 1⟩
/-- BACKUP_STATUS [14], RO (R164): R161. -/
def BACKUP_STATUS_LOW : Field := ⟨Reg.addr .BACKUP_STATUS, 14, 1⟩
/-- BACKUP_STATUS [15], RO (R164): R161. -/
def BACKUP_STATUS_EMPTY : Field := ⟨Reg.addr .BACKUP_STATUS, 15, 1⟩
/-- BACKUP_STATUS [31:16], RO (R164): energy drawn from the cell, 10 mJ units, saturating; zeroed at power-on reset.
-/
def BACKUP_STATUS_USED : Field := ⟨Reg.addr .BACKUP_STATUS, 16, 16⟩
/-- GAUGE_BUDGET [15:0], RW (R190): software page budget, 100 to 20,000; default 900. -/
def GAUGE_BUDGET_BUDGET : Field := ⟨Reg.addr .GAUGE_BUDGET, 0, 16⟩
/-- GAUGE_BUDGET [27:16], RW (R190): floor reserve, 0 to 4,095; default 250. -/
def GAUGE_BUDGET_FLOOR_RES : Field := ⟨Reg.addr .GAUGE_BUDGET, 16, 12⟩
/-- GAUGE_BUDGET [28], RW (R190): 1: BUDGET in force under R178; not loaded from the image. -/
def GAUGE_BUDGET_FORCE : Field := ⟨Reg.addr .GAUGE_BUDGET, 28, 1⟩
/-- GAUGE_CFG [4:0], RW (R190): page-finish time in s, 1 to 30; default 6. -/
def GAUGE_CFG_PAGE_T : Field := ⟨Reg.addr .GAUGE_CFG, 0, 5⟩
/-- GAUGE_CFG [11:5], RW (R190): bridge support efficiency in %, 70 to 100; default 94. -/
def GAUGE_CFG_ETA : Field := ⟨Reg.addr .GAUGE_CFG, 5, 7⟩
/-- GAUGE_CFG [19:12], RW (R190): right-away hysteresis, 0 to 255; default 10. -/
def GAUGE_CFG_RA_HYS : Field := ⟨Reg.addr .GAUGE_CFG, 12, 8⟩
/-- GAUGE_CFG [23:20], RW (R190): bit n−1: HEADn counted under R181; default every head present; bits of absent heads
read 0. -/
def GAUGE_CFG_RA_HEADS : Field := ⟨Reg.addr .GAUGE_CFG, 20, 4⟩
/-- GAUGE_CFG [27:24], RW (R190): entries averaged, 1 to 15; default 8. -/
def GAUGE_CFG_LEARN_N : Field := ⟨Reg.addr .GAUGE_CFG, 24, 4⟩
/-- GAUGE_CFG [28], RW (R190): 1: bus-load shunt fitted; default 1. -/
def GAUGE_CFG_LOAD_SNS : Field := ⟨Reg.addr .GAUGE_CFG, 28, 1⟩
/-- GAUGE_CAP [15:0], RW (R190): 10 mF units, 100 to 65,535; default 3,670 (36.70 F). -/
def GAUGE_CAP_CAP_NOM : Field := ⟨Reg.addr .GAUGE_CAP, 0, 16⟩
/-- GAUGE_CAP [31:16], RO (R190): 10 mF units; 0 until accepted. -/
def GAUGE_CAP_CAP_MEAS : Field := ⟨Reg.addr .GAUGE_CAP, 16, 16⟩
/-- GAUGE_ESR [11:0], RW (R190): 0.1 mΩ units, 0 to 4,095; default 150 (15.0 mΩ). -/
def GAUGE_ESR_ESR_SET : Field := ⟨Reg.addr .GAUGE_ESR, 0, 12⟩
/-- GAUGE_ESR [23:12], RO (R190): 0.1 mΩ units; 0 until measured. -/
def GAUGE_ESR_ESR_MEAS : Field := ⟨Reg.addr .GAUGE_ESR, 12, 12⟩
/-- GAUGE_ESR [30:24], RO (R190): %; 0 until measured. -/
def GAUGE_ESR_ETA_MEAS : Field := ⟨Reg.addr .GAUGE_ESR, 24, 7⟩
/-- GAUGE_AVAIL [15:0], RO (R190): R171; saturating at 65,535. -/
def GAUGE_AVAIL_E_AVAIL : Field := ⟨Reg.addr .GAUGE_AVAIL, 0, 16⟩
/-- GAUGE_AVAIL [31:16], RO (R190): R170, rounded up. -/
def GAUGE_AVAIL_E_ESR : Field := ⟨Reg.addr .GAUGE_AVAIL, 16, 16⟩
/-- GAUGE_RA [2:0], RO (R190): 0 to 4. -/
def GAUGE_RA_CLAIMS : Field := ⟨Reg.addr .GAUGE_RA, 0, 3⟩
/-- GAUGE_RA [3], RO (R190): pin level. -/
def GAUGE_RA_RIGHTAWAY : Field := ⟨Reg.addr .GAUGE_RA, 3, 1⟩
/-- GAUGE_RA [5:4], RO (R190): budget in force: 0 BUDGET, 1 LEARNED, 2 FORCED whenever FORCE is 1, whatever B_LEARNED
holds; 3 reserved. -/
def GAUGE_RA_BSRC : Field := ⟨Reg.addr .GAUGE_RA, 4, 2⟩
/-- GAUGE_RA [6], RO (R190): R179. -/
def GAUGE_RA_PEND_LOWER : Field := ⟨Reg.addr .GAUGE_RA, 6, 1⟩
/-- GAUGE_RA [13:8], RO (R190): [8] FAILED, [9] VCORE, [10] BRIDGE, [11] HEAD, [12] MAXCLAIMS, [13] NODATA. -/
def GAUGE_RA_HOLD : Field := ⟨Reg.addr .GAUGE_RA, 8, 6⟩
/-- GAUGE_RA [31:16], RO (R190): R176; saturating. -/
def GAUGE_RA_NEED : Field := ⟨Reg.addr .GAUGE_RA, 16, 16⟩
/-- GAUGE_PAGE [15:0], RO (R190): budget in force. -/
def GAUGE_PAGE_B_INFORCE : Field := ⟨Reg.addr .GAUGE_PAGE, 0, 16⟩
/-- GAUGE_PAGE [31:16], RO (R190): R177; 0 until valid. -/
def GAUGE_PAGE_B_LEARNED : Field := ⟨Reg.addr .GAUGE_PAGE, 16, 16⟩
/-- GAUGE_POWER [15:0], RO (R190): 0.1 W, two's complement, positive into the stack. -/
def GAUGE_POWER_PSTACK : Field := ⟨Reg.addr .GAUGE_POWER, 0, 16⟩
/-- GAUGE_POWER [31:16], RO (R190): bus-load power, 0.1 W; 0 with LOAD_SNS 0. -/
def GAUGE_POWER_PLOAD : Field := ⟨Reg.addr .GAUGE_POWER, 16, 16⟩
/-- GAUGE_TIME [15:0], RO (R190): s, saturating at 65,534; 0xFFFF: NONE. -/
def GAUGE_TIME_RUNTIME : Field := ⟨Reg.addr .GAUGE_TIME, 0, 16⟩
/-- GAUGE_TIME [31:16], RO (R190): s, saturating at 65,534; 0xFFFF: NONE. -/
def GAUGE_TIME_WAIT : Field := ⟨Reg.addr .GAUGE_TIME, 16, 16⟩
/-- GAUGE_COUNT [15:0], RO (R190): releases counted, wrapping. -/
def GAUGE_COUNT_RELEASES : Field := ⟨Reg.addr .GAUGE_COUNT, 0, 16⟩
/-- GAUGE_COUNT [23:16], RO (R190): R183; saturating. -/
def GAUGE_COUNT_UNPERMITTED : Field := ⟨Reg.addr .GAUGE_COUNT, 16, 8⟩
/-- GAUGE_COUNT [31:24], RO (R190): R183; saturating. -/
def GAUGE_COUNT_OVERFLOW : Field := ⟨Reg.addr .GAUGE_COUNT, 24, 8⟩
/-- BIST_CTRL [3:0], RW (R438): partition for START and ABORT, 0 to 9. -/
def BIST_CTRL_SEL : Field := ⟨Reg.addr .BIST_CTRL, 0, 4⟩
/-- BIST_CTRL [4], SC (R438): 1: start SEL under R431; cleared when queued or refused. -/
def BIST_CTRL_START : Field := ⟨Reg.addr .BIST_CTRL, 4, 1⟩
/-- BIST_CTRL [5], SC (R438): 1: cut short under R433. -/
def BIST_CTRL_ABORT : Field := ⟨Reg.addr .BIST_CTRL, 5, 1⟩
/-- BIST_CTRL [6], RW (R438): 1: power-up run; read from the image at RESET (R427); default 1. -/
def BIST_CTRL_PWRUP : Field := ⟨Reg.addr .BIST_CTRL, 6, 1⟩
/-- BIST_COND [15:0], RO (R438): last test-oscillator count over 4 ticks. -/
def BIST_COND_OSC_COUNT : Field := ⟨Reg.addr .BIST_COND, 0, 16⟩
/-- BIST_COND [16], RO (R438): 1: R425 met at the last check. -/
def BIST_COND_COND_OK : Field := ⟨Reg.addr .BIST_COND, 16, 1⟩
/-- BIST_COND [17], RO (R438): 1: crystal qualified. -/
def BIST_COND_XTAL : Field := ⟨Reg.addr .BIST_COND, 17, 1⟩
/-- BIST_COND [18], RO (R438): 1: VCORE 0.85 to 0.95 V. -/
def BIST_COND_VCORE_OK : Field := ⟨Reg.addr .BIST_COND, 18, 1⟩
/-- BIST_COND [31:19], RO (R438): ticks waited in R427, saturating at 8,191. -/
def BIST_COND_PWAIT : Field := ⟨Reg.addr .BIST_COND, 19, 13⟩
/-- BIST_SUM [9:0], RO (R438): bit n: BPn held FAILED. -/
def BIST_SUM_FAILED : Field := ⟨Reg.addr .BIST_SUM, 0, 10⟩
/-- BIST_SUM [19:10], RO (R438): bit n: last result of BPn is PASS. -/
def BIST_SUM_PASSED : Field := ⟨Reg.addr .BIST_SUM, 10, 10⟩
/-- BIST_SUM [23:20], RO (R438): partition queued or under test. -/
def BIST_SUM_RUN_BP : Field := ⟨Reg.addr .BIST_SUM, 20, 4⟩
/-- BIST_SUM [24], RO (R438): 1: a test queued or running. -/
def BIST_SUM_RUNNING : Field := ⟨Reg.addr .BIST_SUM, 24, 1⟩
/-- BIST_RES [2:0], RO (R438): 0 NOT_RUN, 1 PASS, 2 FAIL, 3 INCOMPLETE, 4 RUNNING, 5 REFUSED; 6, 7 not used. -/
def BIST_RES_RESULT (n : Nat) : Field := ⟨Reg.addr (.BIST_RES n), 0, 3⟩
/-- BIST_RES [3], RO (R438): 1: result from the power-up run. -/
def BIST_RES_POWERUP (n : Nat) : Field := ⟨Reg.addr (.BIST_RES n), 3, 1⟩
/-- BIST_RES [5:4], RO (R438): INCOMPLETE: 0 CONDITION, 1 CLAIM, 2 ABORT, 3 BUFFERSTOP. -/
def BIST_RES_REASON (n : Nat) : Field := ⟨Reg.addr (.BIST_RES n), 4, 2⟩
/-- BIST_RES [17:6], RO (R438): patterns applied. -/
def BIST_RES_PATTERNS (n : Nat) : Field := ⟨Reg.addr (.BIST_RES n), 6, 12⟩
/-- BIST_SIG [31:0], RO (R438): signature at terminal count; 0 if not reached. -/
def BIST_SIG_SIG (n : Nat) : Field := ⟨Reg.addr (.BIST_SIG n), 0, 32⟩
/-- BIST_EXP [31:0], RO (R438): expected signature for the silicon revision. -/
def BIST_EXP_EXPECT (n : Nat) : Field := ⟨Reg.addr (.BIST_EXP n), 0, 32⟩
/-- NV_CTRL [0], SC (R462): 1: SAVE CONFIG; cleared when done or refused. -/
def NV_CTRL_SAVE : Field := ⟨Reg.addr .NV_CTRL, 0, 1⟩
/-- NV_CTRL [1], RW (R462): R458; default 1. -/
def NV_CTRL_SCRUB_EN : Field := ⟨Reg.addr .NV_CTRL, 1, 1⟩
/-- NV_CTRL [9:2], RW (R462): s, 1 to 255; default 32. -/
def NV_CTRL_WEAR_T : Field := ⟨Reg.addr .NV_CTRL, 2, 8⟩
/-- NV_STAT [0], RO (R462): 1: slot write in progress. -/
def NV_STAT_BUSY : Field := ⟨Reg.addr .NV_STAT, 0, 1⟩
/-- NV_STAT [1], RO (R462): bank 0 valid. -/
def NV_STAT_VALID0 : Field := ⟨Reg.addr .NV_STAT, 1, 1⟩
/-- NV_STAT [2], RO (R462): bank 1 valid. -/
def NV_STAT_VALID1 : Field := ⟨Reg.addr .NV_STAT, 2, 1⟩
/-- NV_STAT [3], RO (R462): bank in use. -/
def NV_STAT_BANK : Field := ⟨Reg.addr .NV_STAT, 3, 1⟩
/-- NV_STAT [5:4], RO (R462): 0 DEFAULT, 1 NEWEST, 2 OLDER, 3 reserved. -/
def NV_STAT_CFG_SRC : Field := ⟨Reg.addr .NV_STAT, 4, 2⟩
/-- NV_STAT [6], RO (R462): R457 found at the last RESET. -/
def NV_STAT_TORN_TT : Field := ⟨Reg.addr .NV_STAT, 6, 1⟩
/-- NV_STAT [7], RO (R462): 1: save queued or running. -/
def NV_STAT_SAVE_PEND : Field := ⟨Reg.addr .NV_STAT, 7, 1⟩
/-- NV_STAT [15:8], RO (R462): R453, saturating. -/
def NV_STAT_CFG_SKIP : Field := ⟨Reg.addr .NV_STAT, 8, 8⟩
/-- NV_GEN [31:0], RO (R462): GEN of the bank in use; 0: none. -/
def NV_GEN_GEN : Field := ⟨Reg.addr .NV_GEN, 0, 32⟩
/-- NV_LOG [15:0], RO (R462): R446. -/
def NV_LOG_NEWEST : Field := ⟨Reg.addr .NV_LOG, 0, 16⟩
/-- NV_LOG [24:16], RO (R462): intact records, 0 to 256. -/
def NV_LOG_RECORDS : Field := ⟨Reg.addr .NV_LOG, 16, 9⟩
/-- NV_LOG2 [8:0], RO (R462): slots neither intact nor erased. -/
def NV_LOG2_TORN : Field := ⟨Reg.addr .NV_LOG2, 0, 9⟩
/-- NV_LOG2 [17:9], RO (R462): erased slots. -/
def NV_LOG2_ERASED : Field := ⟨Reg.addr .NV_LOG2, 9, 9⟩
/-- NV_LOG2 [26:18], RO (R462): R449. -/
def NV_LOG2_TOKENS : Field := ⟨Reg.addr .NV_LOG2, 18, 9⟩
/-- NV_LAPS [31:0], RO (R462): R448. -/
def NV_LAPS_LAPS : Field := ⟨Reg.addr .NV_LAPS, 0, 32⟩
/-- NV_SCRUB [7:0], RO (R462): SCRUB_FIX count, saturating. -/
def NV_SCRUB_FIXED : Field := ⟨Reg.addr .NV_SCRUB, 0, 8⟩
/-- NV_SCRUB [15:8], RO (R462): SCRUB_LOSS count, saturating. -/
def NV_SCRUB_LOST : Field := ⟨Reg.addr .NV_SCRUB, 8, 8⟩
/-- NV_SCRUB [31:16], RO (R462): full passes since reset, wrapping. -/
def NV_SCRUB_PASSES : Field := ⟨Reg.addr .NV_SCRUB, 16, 16⟩
/-- NV_LSEL [15:0], RW (R462): record read by NV_LDATA0–3. -/
def NV_LSEL_SEQ : Field := ⟨Reg.addr .NV_LSEL, 0, 16⟩
/-- NV_LSTAT [0], RO (R462): 1: slot SEQ mod 256 holds record SEQ intact. -/
def NV_LSTAT_VALID : Field := ⟨Reg.addr .NV_LSTAT, 0, 1⟩
/-- NV_LDATA [31:0], RO (R462): record bytes 4i to 4i + 3, byte 4i in [31:24]; 0 when VALID is 0. -/
def NV_LDATA_DATA (n : Nat) : Field := ⟨Reg.addr (.NV_LDATA n), 0, 32⟩
/-- LINE_CTRL [0], RW (R350): 1: line timing enabled; default 0. -/
def LINE_CTRL_EN (n : Nat) : Field := ⟨Reg.addr (.LINE_CTRL n), 0, 1⟩
/-- LINE_CTRL [7:1], RW (R350): counts per line, 8 to 64; default 16. -/
def LINE_CTRL_CPL (n : Nat) : Field := ⟨Reg.addr (.LINE_CTRL n), 1, 7⟩
/-- LINE_CTRL [9:8], RW (R350): 0: 1, 1: 2, 2: 4 groups, 3 refused; default 2. -/
def LINE_CTRL_NGRP (n : Nat) : Field := ⟨Reg.addr (.LINE_CTRL n), 8, 2⟩
/-- LINE_CTRL [10], RW (R350): 1: forward sense inverted; default 0. -/
def LINE_CTRL_DIR (n : Nat) : Field := ⟨Reg.addr (.LINE_CTRL n), 10, 1⟩
/-- LINE_CTRL [14:11], RW (R350): counts, 0 to 15; default 3. -/
def LINE_CTRL_BACKLASH (n : Nat) : Field := ⟨Reg.addr (.LINE_CTRL n), 11, 4⟩
/-- LINE_CTRL [15], RW (R350): default 1. -/
def LINE_CTRL_AUTO_TRAIN (n : Nat) : Field := ⟨Reg.addr (.LINE_CTRL n), 15, 1⟩
/-- LINE_CTRL [19:16], RW (R350): 1 to 15; default 8. -/
def LINE_CTRL_RETRY_MAX (n : Nat) : Field := ⟨Reg.addr (.LINE_CTRL n), 16, 4⟩
/-- LINE_REG [15:0], RW (R350): 1/256 line, two's complement; default 0. -/
def LINE_REG_REG (n : Nat) : Field := ⟨Reg.addr (.LINE_REG n), 0, 16⟩
/-- LINE_GROUP [7:0], RW (R350): 1/256 line; default 64. -/
def LINE_GROUP_GOFF1 (n : Nat) : Field := ⟨Reg.addr (.LINE_GROUP n), 0, 8⟩
/-- LINE_GROUP [15:8], RW (R350): default 128. -/
def LINE_GROUP_GOFF2 (n : Nat) : Field := ⟨Reg.addr (.LINE_GROUP n), 8, 8⟩
/-- LINE_GROUP [23:16], RW (R350): default 192. -/
def LINE_GROUP_GOFF3 (n : Nat) : Field := ⟨Reg.addr (.LINE_GROUP n), 16, 8⟩
/-- LINE_LINK [0], SC (R350): 1: start an attempt; cleared when it ends. -/
def LINE_LINK_TRAIN (n : Nat) : Field := ⟨Reg.addr (.LINE_LINK n), 0, 1⟩
/-- LINE_LSTAT [2:0], RO (R350): R327. -/
def LINE_LSTAT_STATE (n : Nat) : Field := ⟨Reg.addr (.LINE_LSTAT n), 0, 3⟩
/-- LINE_LSTAT [3], RO (R350): 1: head reports lane 0 aligned. -/
def LINE_LSTAT_LOCK0 (n : Nat) : Field := ⟨Reg.addr (.LINE_LSTAT n), 3, 1⟩
/-- LINE_LSTAT [4], RO (R350): 1: head reports lane 1 aligned. -/
def LINE_LSTAT_LOCK1 (n : Nat) : Field := ⟨Reg.addr (.LINE_LSTAT n), 4, 1⟩
/-- LINE_LSTAT [5], RO (R350): 1: upstream lock. -/
def LINE_LSTAT_LOCKUP (n : Nat) : Field := ⟨Reg.addr (.LINE_LSTAT n), 5, 1⟩
/-- LINE_LSTAT [11:8], RO (R350): R330, saturating. -/
def LINE_LSTAT_RETRIES (n : Nat) : Field := ⟨Reg.addr (.LINE_LSTAT n), 8, 4⟩
/-- LINE_LSTAT [19:12], RO (R350): upstream frames discarded, saturating. -/
def LINE_LSTAT_CRC_UP (n : Nat) : Field := ⟨Reg.addr (.LINE_LSTAT n), 12, 8⟩
/-- LINE_LSTAT [27:20], RO (R350): REPORTs with FRAME_BAD or ECHO_MISMATCH, saturating. -/
def LINE_LSTAT_FRAME_BAD (n : Nat) : Field := ⟨Reg.addr (.LINE_LSTAT n), 20, 8⟩
/-- LINE_POS [31:0], RO (R350): counts, two's complement. -/
def LINE_POS_POS (n : Nat) : Field := ⟨Reg.addr (.LINE_POS n), 0, 32⟩
/-- LINE_HWM [31:0], RO (R350): counts, two's complement. -/
def LINE_HWM_HWM (n : Nat) : Field := ⟨Reg.addr (.LINE_HWM n), 0, 32⟩
/-- LINE_ZPOS [31:0], RO (R350): POS at the last index. -/
def LINE_ZPOS_ZPOS (n : Nat) : Field := ⟨Reg.addr (.LINE_ZPOS n), 0, 32⟩
/-- LINE_LINE [31:0], RO (R350): last line placed, wrapping. -/
def LINE_LINE_LINE (n : Nat) : Field := ⟨Reg.addr (.LINE_LINE n), 0, 32⟩
/-- LINE_TIME [15:0], RO (R350): L_pred, 4 ns units, saturating. -/
def LINE_TIME_LPRED (n : Nat) : Field := ⟨Reg.addr (.LINE_TIME n), 0, 16⟩
/-- LINE_TIME [27:16], RO (R350): R341, 4 ns units. -/
def LINE_TIME_WMAX (n : Nat) : Field := ⟨Reg.addr (.LINE_TIME n), 16, 12⟩
/-- LINE_STAT [0], RO (R350): 1: targets being placed. -/
def LINE_STAT_RUN (n : Nat) : Field := ⟨Reg.addr (.LINE_STAT n), 0, 1⟩
/-- LINE_STAT [1], RO (R350): R346. -/
def LINE_STAT_READY (n : Nat) : Field := ⟨Reg.addr (.LINE_STAT n), 1, 1⟩
/-- LINE_STAT [2], RO (R350): 1: excursion in progress. -/
def LINE_STAT_WAIT_HWM (n : Nat) : Field := ⟨Reg.addr (.LINE_STAT n), 2, 1⟩
/-- LINE_STAT [3], RO (R350): R333. -/
def LINE_STAT_ENC_FAULT (n : Nat) : Field := ⟨Reg.addr (.LINE_STAT n), 3, 1⟩
/-- LINE_STAT [8:4], RO (R350): [4] EN, [5] LINK, [6] ROD, [7] ENC, [8] DOSE. -/
def LINE_STAT_NR (n : Nat) : Field := ⟨Reg.addr (.LINE_STAT n), 4, 5⟩
/-- LINE_STAT [23:16], RO (R350): R333, saturating. -/
def LINE_STAT_ILLEGAL (n : Nat) : Field := ⟨Reg.addr (.LINE_STAT n), 16, 8⟩
/-- LINE_STAT [31:24], RO (R350): R337, saturating. -/
def LINE_STAT_REVERSE (n : Nat) : Field := ⟨Reg.addr (.LINE_STAT n), 24, 8⟩
/-- LINE_CNT [7:0], RO (R350): R339, saturating. -/
def LINE_CNT_DROPPED (n : Nat) : Field := ⟨Reg.addr (.LINE_CNT n), 0, 8⟩
/-- LINE_CNT [15:8], RO (R350): R345, saturating. -/
def LINE_CNT_INHIBITED (n : Nat) : Field := ⟨Reg.addr (.LINE_CNT n), 8, 8⟩
/-- LINE_CNT [23:16], RO (R350): R342, saturating. -/
def LINE_CNT_REPORT_MISS (n : Nat) : Field := ⟨Reg.addr (.LINE_CNT n), 16, 8⟩
/-- LINE_CNT [31:24], RO (R350): R337, saturating. -/
def LINE_CNT_BACKLASH_CNT (n : Nat) : Field := ⟨Reg.addr (.LINE_CNT n), 24, 8⟩
/-- HEAD_CTRL [0], RW (R388): R378. -/
def HEAD_CTRL_INHIBIT (n : Nat) : Field := ⟨Reg.addr (.HEAD_CTRL n), 0, 1⟩
/-- HEAD_CTRL [1], SC (R388): 1: resume under R377; cleared at the resume. -/
def HEAD_CTRL_RESUME (n : Nat) : Field := ⟨Reg.addr (.HEAD_CTRL n), 1, 1⟩
/-- HEAD_CTRL [12:2], RW (R388): 0.1 %, 500 to 1,500; default 1,000. -/
def HEAD_CTRL_GAIN (n : Nat) : Field := ⟨Reg.addr (.HEAD_CTRL n), 2, 11⟩
/-- HEAD_CTRL [20:13], RW (R388): 4 ns, 1 to 250; default 25. -/
def HEAD_CTRL_W_MIN (n : Nat) : Field := ⟨Reg.addr (.HEAD_CTRL n), 13, 8⟩
/-- HEAD_CTRL [27:21], RW (R388): 4 ns, 10 to 100; default 30. -/
def HEAD_CTRL_PRIME_W (n : Nat) : Field := ⟨Reg.addr (.HEAD_CTRL n), 21, 7⟩
/-- HEAD_RANK [15:0], RW (R388): bit r: rank r accepted; default 0xFFFF. -/
def HEAD_RANK_RANK_MASK (n : Nat) : Field := ⟨Reg.addr (.HEAD_RANK n), 0, 16⟩
/-- HEAD_TCOR [10:0], RW (R388): 0.1 %, 500 to 1,000; default 800. -/
def HEAD_TCOR_TCOR_MIN (n : Nat) : Field := ⟨Reg.addr (.HEAD_TCOR n), 0, 11⟩
/-- HEAD_TCOR [21:11], RW (R388): 0.1 %, 1,000 to 2,000; default 1,300. -/
def HEAD_TCOR_TCOR_MAX (n : Nat) : Field := ⟨Reg.addr (.HEAD_TCOR n), 11, 11⟩
/-- HEAD_TEMP [7:0], RW (R388): °C, 20 to 120; default 55. -/
def HEAD_TEMP_T_WARN (n : Nat) : Field := ⟨Reg.addr (.HEAD_TEMP n), 0, 8⟩
/-- HEAD_TEMP [15:8], RW (R388): °C, 20 to 120; default 65. -/
def HEAD_TEMP_T_LIMIT (n : Nat) : Field := ⟨Reg.addr (.HEAD_TEMP n), 8, 8⟩
/-- HEAD_TEMP [23:16], RW (R388): °C, 20 to 120; default 75. -/
def HEAD_TEMP_T_SHUT (n : Nat) : Field := ⟨Reg.addr (.HEAD_TEMP n), 16, 8⟩
/-- HEAD_TEMP [27:24], RW (R388): °C, 1 to 15; default 3. -/
def HEAD_TEMP_T_HYS (n : Nat) : Field := ⟨Reg.addr (.HEAD_TEMP n), 24, 4⟩
/-- HEAD_FB [15:0], RW (R388): lines, 1 to 65,535; default 16,384. -/
def HEAD_FB_FB_LIMIT (n : Nat) : Field := ⟨Reg.addr (.HEAD_FB n), 0, 16⟩
/-- HEAD_FB [23:16], RW (R388): 2 mV, 5 to 255; default 75. -/
def HEAD_FB_VDIFF (n : Nat) : Field := ⟨Reg.addr (.HEAD_FB n), 16, 8⟩
/-- HEAD_LG [0], SC (R388): 1: request a run; cleared when started, queued or refused. -/
def HEAD_LG_START (n : Nat) : Field := ⟨Reg.addr (.HEAD_LG n), 0, 1⟩
/-- HEAD_LG [1], SC (R388): 1: abort a queued or running run. -/
def HEAD_LG_ABORT (n : Nat) : Field := ⟨Reg.addr (.HEAD_LG n), 1, 1⟩
/-- HEAD_LG [6:2], RW (R388): %, 0 to 25; default 25. -/
def HEAD_LG_HIDE_MAX (n : Nat) : Field := ⟨Reg.addr (.HEAD_LG n), 2, 5⟩
/-- HEAD_LG [13:7], RW (R388): %, 30 to 95; default 70. -/
def HEAD_LG_WEAK_PCT (n : Nat) : Field := ⟨Reg.addr (.HEAD_LG n), 7, 7⟩
/-- HEAD_LG [19:14], RW (R388): %, 5 to 50; default 20. -/
def HEAD_LG_DEAD_PCT (n : Nat) : Field := ⟨Reg.addr (.HEAD_LG n), 14, 6⟩
/-- HEAD_LG [26:20], RW (R388): 0 to 64; default 16. -/
def HEAD_LG_DEAD_MAX (n : Nat) : Field := ⟨Reg.addr (.HEAD_LG n), 20, 7⟩
/-- HEAD_LGT [11:0], RW (R388): 4 ns, 25 to 2,000; default 500. -/
def HEAD_LGT_TW (n : Nat) : Field := ⟨Reg.addr (.HEAD_LGT n), 0, 12⟩
/-- HEAD_LGT [19:12], RW (R388): 4 µs, 16 to 255; default 64. -/
def HEAD_LGT_TPER (n : Nat) : Field := ⟨Reg.addr (.HEAD_LGT n), 12, 8⟩
/-- HEAD_CAL [0], SC (R388): 1: request CAL HEADn; cleared when done. -/
def HEAD_CAL_CAL (n : Nat) : Field := ⟨Reg.addr (.HEAD_CAL n), 0, 1⟩
/-- HEAD_CAL [1], RO (R388): 1: request waiting for CLAIMS 0. -/
def HEAD_CAL_CAL_PEND (n : Nat) : Field := ⟨Reg.addr (.HEAD_CAL n), 1, 1⟩
/-- HEAD_ID0 [31:0], RO (R388): identity bytes 4i to 4i + 3, byte 4i in [31:24]. -/
def HEAD_ID0_IDENT (n : Nat) : Field := ⟨Reg.addr (.HEAD_ID0 n), 0, 32⟩
/-- HEAD_ID1 [31:0], RO (R388): identity bytes 4i to 4i + 3, byte 4i in [31:24]. -/
def HEAD_ID1_IDENT (n : Nat) : Field := ⟨Reg.addr (.HEAD_ID1 n), 0, 32⟩
/-- HEAD_ID2 [31:0], RO (R388): identity bytes 4i to 4i + 3, byte 4i in [31:24]. -/
def HEAD_ID2_IDENT (n : Nat) : Field := ⟨Reg.addr (.HEAD_ID2 n), 0, 32⟩
/-- HEAD_ID3 [31:0], RO (R388): identity bytes 4i to 4i + 3, byte 4i in [31:24]. -/
def HEAD_ID3_IDENT (n : Nat) : Field := ⟨Reg.addr (.HEAD_ID3 n), 0, 32⟩
/-- HEAD_PAR0 [15:0], RO (R388): ns. -/
def HEAD_PAR0_W0_NOM (n : Nat) : Field := ⟨Reg.addr (.HEAD_PAR0 n), 0, 16⟩
/-- HEAD_PAR0 [31:16], RO (R388): mV. -/
def HEAD_PAR0_V_REF (n : Nat) : Field := ⟨Reg.addr (.HEAD_PAR0 n), 16, 16⟩
/-- HEAD_PAR1 [15:0], RO (R388): ppm/°C, two's complement. -/
def HEAD_PAR1_KT (n : Nat) : Field := ⟨Reg.addr (.HEAD_PAR1 n), 0, 16⟩
/-- HEAD_PAR1 [31:16], RO (R388): 1/4,096, two's complement. -/
def HEAD_PAR1_KV (n : Nat) : Field := ⟨Reg.addr (.HEAD_PAR1 n), 16, 16⟩
/-- HEAD_PAR2 [9:0], RO (R388): TSEG code. -/
def HEAD_PAR2_T_REF (n : Nat) : Field := ⟨Reg.addr (.HEAD_PAR2 n), 0, 10⟩
/-- HEAD_PAR2 [19:10], RO (R388): 10 µA. -/
def HEAD_PAR2_IEM (n : Nat) : Field := ⟨Reg.addr (.HEAD_PAR2 n), 10, 10⟩
/-- HEAD_STATUS [2:0], RO (R388): 0 NORMAL, 1 WARN, 2 LIMIT, 3 SHUT; 4 to 7 not used. -/
def HEAD_STATUS_TSTATE (n : Nat) : Field := ⟨Reg.addr (.HEAD_STATUS n), 0, 3⟩
/-- HEAD_STATUS [3], RO (R388): R378. -/
def HEAD_STATUS_FIT (n : Nat) : Field := ⟨Reg.addr (.HEAD_STATUS n), 3, 1⟩
/-- HEAD_STATUS [11:4], RO (R388): [4] NOHEAD, [5] REFUSED, [6] VERIFY, [7] TEMP, [8] FALLBACK, [9] LIGHTGATE, [10]
TRIM, [11] INHIBIT. -/
def HEAD_STATUS_UNFIT (n : Nat) : Field := ⟨Reg.addr (.HEAD_STATUS n), 4, 8⟩
/-- HEAD_STATUS [12], RO (R388): 1: last line sent was a fall-back line. -/
def HEAD_STATUS_FALLBACK (n : Nat) : Field := ⟨Reg.addr (.HEAD_STATUS n), 12, 1⟩
/-- HEAD_STATUS [13], RO (R388): R376. -/
def HEAD_STATUS_STOPPED (n : Nat) : Field := ⟨Reg.addr (.HEAD_STATUS n), 13, 1⟩
/-- HEAD_STATUS [14], RO (R388): R366. -/
def HEAD_STATUS_PULLED (n : Nat) : Field := ⟨Reg.addr (.HEAD_STATUS n), 14, 1⟩
/-- HEAD_STATUS [15], W1C (R388): R376. -/
def HEAD_STATUS_SPOILED (n : Nat) : Field := ⟨Reg.addr (.HEAD_STATUS n), 15, 1⟩
/-- HEAD_STATUS [25:16], RO (R388): T_head, TSEG code; 0x3FF: none yet. -/
def HEAD_STATUS_THEAD (n : Nat) : Field := ⟨Reg.addr (.HEAD_STATUS n), 16, 10⟩
/-- HEAD_VOFS [7:0], RO (R388): 2 mV, two's complement. -/
def HEAD_VOFS_VOFS (n : Nat) : Field := ⟨Reg.addr (.HEAD_VOFS n), 0, 8⟩
/-- HEAD_VOFS [8], RO (R388): R374. -/
def HEAD_VOFS_VHEAD_BAD (n : Nat) : Field := ⟨Reg.addr (.HEAD_VOFS n), 8, 1⟩
/-- HEAD_CNT [15:0], RO (R388): R373. -/
def HEAD_CNT_FB_RUN (n : Nat) : Field := ⟨Reg.addr (.HEAD_CNT n), 0, 16⟩
/-- HEAD_CNT [23:16], RO (R388): R362, saturating. -/
def HEAD_CNT_TRIM_FIX (n : Nat) : Field := ⟨Reg.addr (.HEAD_CNT n), 16, 8⟩
/-- HEAD_CNT [31:24], RO (R388): R361, saturating. -/
def HEAD_CNT_ECC_CORR (n : Nat) : Field := ⟨Reg.addr (.HEAD_CNT n), 24, 8⟩
/-- HEAD_CNT2 [7:0], RO (R388): R361, saturating. -/
def HEAD_CNT2_ECC_UNCORR (n : Nat) : Field := ⟨Reg.addr (.HEAD_CNT2 n), 0, 8⟩
/-- HEAD_CNT2 [15:8], RO (R388): R359, R383, saturating. -/
def HEAD_CNT2_TRIM_LIM (n : Nat) : Field := ⟨Reg.addr (.HEAD_CNT2 n), 8, 8⟩
/-- HEAD_LGSTAT [2:0], RO (R388): 0 IDLE, 1 QUEUED, 2 RUNNING, 3 DONE, 4 ABORTED; 5 to 7 not used. -/
def HEAD_LGSTAT_STATE (n : Nat) : Field := ⟨Reg.addr (.HEAD_LGSTAT n), 0, 3⟩
/-- HEAD_LGSTAT [3], RO (R388): HPARKn level. -/
def HEAD_LGSTAT_PARKED (n : Nat) : Field := ⟨Reg.addr (.HEAD_LGSTAT n), 3, 1⟩
/-- HEAD_LGSTAT [18:4], RO (R388): test line in progress or last run. -/
def HEAD_LGSTAT_EMITTER (n : Nat) : Field := ⟨Reg.addr (.HEAD_LGSTAT n), 4, 15⟩
/-- HEAD_LGSTAT [25:19], RO (R388): entries in the dead list. -/
def HEAD_LGSTAT_FAILS (n : Nat) : Field := ⟨Reg.addr (.HEAD_LGSTAT n), 19, 7⟩
/-- HEAD_LGSTAT [26], RO (R388): R384. -/
def HEAD_LGSTAT_ADJACENT (n : Nat) : Field := ⟨Reg.addr (.HEAD_LGSTAT n), 26, 1⟩
/-- HEAD_DLSEL [5:0], RW (R388): dead-list entry read by HEADn_DLDATA. -/
def HEAD_DLSEL_INDEX (n : Nat) : Field := ⟨Reg.addr (.HEAD_DLSEL n), 0, 6⟩
/-- HEAD_DLDATA [14:0], RO (R388): emitter of the entry. -/
def HEAD_DLDATA_EMITTER (n : Nat) : Field := ⟨Reg.addr (.HEAD_DLDATA n), 0, 15⟩
/-- HEAD_DLDATA [15], RO (R388): 0 WEAK, 1 DEAD. -/
def HEAD_DLDATA_KIND (n : Nat) : Field := ⟨Reg.addr (.HEAD_DLDATA n), 15, 1⟩
/-- HEAD_DLDATA [23:16], RO (R388): r_e in 1/256. -/
def HEAD_DLDATA_RESP (n : Nat) : Field := ⟨Reg.addr (.HEAD_DLDATA n), 16, 8⟩
/-- HEAD_DLDATA [24], RO (R388): 1: entry in use. -/
def HEAD_DLDATA_VALID (n : Nat) : Field := ⟨Reg.addr (.HEAD_DLDATA n), 24, 1⟩
/-- HEAD_MSEL [14:0], RW (R388): mirror entry read by HEADn_MDATA. -/
def HEAD_MSEL_ENTRY (n : Nat) : Field := ⟨Reg.addr (.HEAD_MSEL n), 0, 15⟩
/-- HEAD_MDATA [5:0], RO (R388): R360. -/
def HEAD_MDATA_BASE (n : Nat) : Field := ⟨Reg.addr (.HEAD_MDATA n), 0, 6⟩
/-- HEAD_MDATA [6], RO (R388): R360. -/
def HEAD_MDATA_FAIL (n : Nat) : Field := ⟨Reg.addr (.HEAD_MDATA n), 6, 1⟩
/-- HEAD_MDATA [7], RO (R388): R360. -/
def HEAD_MDATA_RAISED (n : Nat) : Field := ⟨Reg.addr (.HEAD_MDATA n), 7, 1⟩
/-- HEAD_MDATA [13:8], RO (R388): trim in use; each read advances ENTRY by 1, modulo 31,744. -/
def HEAD_MDATA_INUSE (n : Nat) : Field := ⟨Reg.addr (.HEAD_MDATA n), 8, 6⟩

end Sys2Proof.Machine.F
end

