-- ==== Sys2Proof/Machine/Ops.lean ====
section
/-! DEFINITION. The named operations over the state: registers and fields, the numbered units, free values, causes and
PRESENT, the log queue, and the output of the ports. -/

namespace Sys2Proof.Machine

/-! ### Registers -/

/-- The stored word of the register at `a`. -/
def State.word (s : State) (a : Nat) : Word := Tab.get (resetWord s.part) s.regs a

/-- The register at `a` stored as `w`. -/
def State.setWord (s : State) (a : Nat) (w : Word) : State := { s with regs := Tab.put (resetWord s.part) s.regs a w }

/-- The value of a field. -/
def State.get (s : State) (f : Field) : Nat := bitsOf (s.word f.addr) f.lo f.width

/-- The field stored as `v`, modulo its width. -/
def State.set (s : State) (f : Field) (v : Nat) : State := s.setWord f.addr (withBits (s.word f.addr) f.lo f.width v)

/-- A field as a condition: not 0. -/
def State.flag (s : State) (f : Field) : Bool := s.get f != 0

/-- A one-bit field stored. -/
def State.setFlag (s : State) (f : Field) (b : Bool) : State := s.set f (if b then 1 else 0)

/-- A two's complement field. -/
def State.sget (s : State) (f : Field) : Int := signedOf f.width (s.get f)

/-- A two's complement field stored. -/
def State.sset (s : State) (f : Field) (v : Int) : State := s.set f (codeOf f.width v)

/-- Bit `k` of a field. -/
def State.bit (s : State) (f : Field) (k : Nat) : Bool := bitAt (s.get f) k

/-- Bit `k` of a field stored. -/
def State.setBit (s : State) (f : Field) (k : Nat) (b : Bool) : State :=
  s.set f (if b then Nat.lor (s.get f) (2 ^ k) else maskMinus (s.get f) (2 ^ k))

/-- A counter field one higher, held at its highest value. -/
def State.bump (s : State) (f : Field) : State := s.set f (satNat (2 ^ f.width - 1) (s.get f + 1))

/-- A counter field one higher, wrapping. -/
def State.wrap (s : State) (f : Field) : State := s.set f (s.get f + 1)

/-! ### Numbered units -/

/-- A monitor's lasting state. -/
def State.mon (s : State) (n : Nat) : MonX := Tab.get (fun _ => {}) s.mons n

/-- A monitor's lasting state changed. -/
def State.modMon (s : State) (n : Nat) (f : MonX → MonX) : State :=
  { s with mons := Tab.put (fun _ => {}) s.mons n (f (s.mon n)) }

/-- A shared converter. -/
def State.adc (s : State) (n : Nat) : AdcX := Tab.get (fun _ => {}) s.adcs n

/-- A shared converter changed. -/
def State.modAdc (s : State) (n : Nat) (f : AdcX → AdcX) : State :=
  { s with adcs := Tab.put (fun _ => {}) s.adcs n (f (s.adc n)) }

/-- A harvest input's lasting state. -/
def State.harv (s : State) (i : Nat) : HarvX := Tab.get (fun _ => {}) s.harvs i

/-- A harvest input's lasting state changed. -/
def State.modHarv (s : State) (i : Nat) (f : HarvX → HarvX) : State :=
  { s with harvs := Tab.put (fun _ => {}) s.harvs i (f (s.harv i)) }

/-- A rail's lasting state. -/
def State.rail (s : State) (r : Nat) : RailX := Tab.get (fun _ => {}) s.rails r

/-- A rail's lasting state changed. -/
def State.modRail (s : State) (r : Nat) (f : RailX → RailX) : State :=
  { s with rails := Tab.put (fun _ => {}) s.rails r (f (s.rail r)) }

/-- A phase's lasting state. -/
def State.ph (s : State) (n : Nat) : PhX := Tab.get (fun _ => {}) s.phs n

/-- A phase's lasting state changed. -/
def State.modPh (s : State) (n : Nat) (f : PhX → PhX) : State :=
  { s with phs := Tab.put (fun _ => {}) s.phs n (f (s.ph n)) }

/-- A head's lasting state. -/
def State.head (s : State) (h : Nat) : HeadX := Tab.get (fun _ => {}) s.heads h

/-- A head's lasting state changed. -/
def State.modHead (s : State) (h : Nat) (f : HeadX → HeadX) : State :=
  { s with heads := Tab.put (fun _ => {}) s.heads h (f (s.head h)) }

/-- A port. -/
def State.port (s : State) : PortId → PortX
  | .host => s.host
  | .service => s.service
  | .spi => s.spi

/-- A port changed. -/
def State.modPort (s : State) (p : PortId) (f : PortX → PortX) : State :=
  match p with
  | .host => { s with host := f s.host }
  | .service => { s with service := f s.service }
  | .spi => { s with spi := f s.spi }

/-! ### Free values -/

/-- A free word, and the state that has drawn it (assumption 3). -/
def State.draw (s : State) : Word × State := (Config.freeWord s.free, { s with free := s.free + 1 })

/-- A free value below `n`. -/
def State.drawBelow (s : State) (n : Nat) : Nat × State := ((Config.freeWord s.free).toNat % n, { s with free := s.free + 1 })

/-! ### Names -/

/-- Rail names in rail order (R237). -/
def railNames : List String := ["H1", "H2", "H3", "H4", "C", "A"]

/-- The name of rail `r`. -/
def railName (r : Nat) : String := railNames.getD r "?"

/-- A decimal number. -/
def dec (n : Nat) : String := Nat.repr n

/-- A phase name. -/
def phName (n : Nat) : String := "PH" ++ dec n

/-- A head name, from head number 0 on. -/
def headName (h : Nat) : String := "HEAD" ++ dec (h + 1)

/-- Harvest input names. -/
def harvName (i : Nat) : String := ["AC1", "AC2", "TEG", "KEY"].getD i "?"

/-- A port name. -/
def portName : PortId → String
  | .host => "HOST"
  | .service => "SERVICE"
  | .spi => "SPI"

/-- Name of an event source (R393). -/
def srcName (e : Nat) : String :=
  if e < 6 then "RAIL_" ++ railName e
  else if e < 12 then "PHASES_" ++ railName (e - 6)
  else if 16 ≤ e ∧ e < 40 then "MON" ++ dec (e - 16)
  else if 48 ≤ e ∧ e < 52 then "LINE" ++ dec (e - 47)
  else if 52 ≤ e ∧ e < 56 then "DOSE" ++ dec (e - 51)
  else match e with
  | 12 => "SYNC" | 40 => "HARVEST" | 41 => "KEEPALIVE" | 42 => "STACK" | 43 => "BRIDGE" | 44 => "RELAY"
  | 45 => "BACKUP" | 46 => "GAUGE" | 47 => "RIGHTAWAY" | 56 => "BIST" | 57 => "NV" | 58 => "PORT" | 59 => "SIGNAL"
  | 60 => "TIMETABLE" | 61 => "SYSTEM" | 62 => "JUNCTION" | 63 => "CORE" | _ => "RESERVED"

/-- A class as its code (R401). -/
def Cls.code : Cls → Nat
  | .notice => 0
  | .caution => 1
  | .danger => 2
  | .bufferStop => 3

/-- The class of a code. -/
def clsOf (n : Nat) : Cls :=
  match n with
  | 0 => .notice | 1 => .caution | 2 => .danger | _ => .bufferStop

/-- A class as the device writes it (R405, R418). -/
def clsName (n : Nat) : String := ["NOTICE", "CAUTION", "DANGER", "BUFFERSTOP"].getD n "?"

/-- Four hexadecimal digits, most significant first. -/
def hexDigits : Nat → Nat → List Char
  | 0, _ => []
  | k + 1, n => hexDigits k (n / 16) ++ [(['0', '1', '2', '3', '4', '5', '6', '7', '8', '9', 'A', 'B', 'C', 'D', 'E',
      'F'].getD (n % 16) '0')]

/-- `k` hexadecimal digits of `n`. -/
def hexText (k n : Nat) : String := String.ofList (hexDigits k n)

/-- A 32-bit value as 00_scope writes it, as 0x4873_4401. -/
def hexWord (w : Word) : String := "0x" ++ hexText 4 (w.toNat / 65536) ++ "_" ++ hexText 4 (w.toNat % 65536)

/-! ### Causes (R395) -/

/-- One cause of a source. -/
structure CauseInfo where
  /-- Name. -/
  name : String
  /-- Class. -/
  cls : Cls := .notice
  /-- How it passes the collector. -/
  kind : CauseKind := .normal
  /-- Its PRESENT clears at once. -/
  once : Bool := true
deriving DecidableEq, Repr

/-- The causes of each source in the order that numbers them from 1 (R395), from the tables of R91, R134, R163, R189,
R235, R268, R292, R317, R349, R387, R415, R437 and R461, and from R108 for a monitor. -/
def causesOf (e : Nat) : List CauseInfo :=
  if e < 6 then
    [⟨"TARGET_REACHED", .notice, .normal, true⟩, ⟨"SUPERSEDED", .notice, .logOnly, true⟩,
     ⟨"NL_BURST", .caution, .normal, false⟩, ⟨"ANT_FALLBACK", .notice, .normal, false⟩,
     ⟨"HICCUP", .caution, .normal, false⟩, ⟨"LATCHED_OFF", .danger, .normal, false⟩,
     ⟨"OVERLOAD", .caution, .normal, false⟩, ⟨"OVERLOAD_OFF", .danger, .normal, false⟩,
     ⟨"SHORT", .danger, .normal, false⟩, ⟨"OVERVOLT", .danger, .normal, false⟩,
     ⟨"OT_WARN", .caution, .normal, false⟩, ⟨"OT_SHUT", .danger, .normal, false⟩,
     ⟨"STAGE_FAULT", .danger, .normal, false⟩, ⟨"TSNS_OPEN", .caution, .normal, false⟩,
     ⟨"NOPHASE", .danger, .normal, false⟩]
  else if e < 12 then
    [⟨"LOCKED", .notice, .normal, true⟩, ⟨"LOCK_LOST", .notice, .normal, false⟩,
     ⟨"LIGHT_SHED", .notice, .normal, true⟩, ⟨"LIGHT_ADD", .notice, .normal, true⟩,
     ⟨"DUTY_LIMIT", .caution, .normal, false⟩, ⟨"PHASE_OPEN", .caution, .normal, false⟩,
     ⟨"SENSE_FAIL", .caution, .normal, false⟩, ⟨"PHASE_SHORT", .caution, .normal, false⟩,
     ⟨"PHASE_SHED", .notice, .normal, true⟩]
  else if 16 ≤ e ∧ e < 40 then
    [⟨"BELOW", .notice, .normal, true⟩, ⟨"INSIDE", .notice, .normal, true⟩, ⟨"ABOVE", .notice, .normal, true⟩,
     ⟨"BLANKED", .notice, .normal, true⟩]
  else if 48 ≤ e ∧ e < 52 then
    [⟨"LINK_UP", .notice, .normal, true⟩, ⟨"LINK_LOST", .caution, .normal, false⟩,
     ⟨"TRAIN_FAIL", .caution, .normal, false⟩, ⟨"ENC_REVERSE", .caution, .normal, false⟩,
     ⟨"ENC_FAULT", .caution, .normal, false⟩, ⟨"OVERSPEED", .caution, .normal, false⟩,
     ⟨"LINE_MISSED", .caution, .normal, true⟩]
  else if 52 ≤ e ∧ e < 56 then
    [⟨"ATTACHED", .notice, .normal, true⟩, ⟨"ATTACH_REFUSED", .caution, .normal, false⟩,
     ⟨"T_WARN", .notice, .normal, false⟩, ⟨"T_LIMIT", .caution, .normal, false⟩, ⟨"T_SHUT", .caution, .normal, false⟩,
     ⟨"FALLBACK", .notice, .normal, false⟩, ⟨"FALLBACK_LONG", .caution, .normal, false⟩,
     ⟨"VHEAD_BAD", .caution, .normal, false⟩, ⟨"ECC_UNCORR", .caution, .normal, false⟩,
     ⟨"TRIM_FIX", .notice, .normal, true⟩, ⟨"TRIM_STUCK", .caution, .normal, false⟩,
     ⟨"LG_DONE", .notice, .normal, true⟩, ⟨"LG_UNFIT", .caution, .normal, false⟩,
     ⟨"LG_ABORT", .notice, .normal, true⟩]
  else match e with
  | 12 => [⟨"QUALIFIED", .notice, .normal, true⟩, ⟨"LOST", .caution, .normal, false⟩, ⟨"RANGE", .notice, .normal, false⟩]
  | 40 => [⟨"KEY_PRESS", .notice, .normal, true⟩, ⟨"KEY_RELEASE", .notice, .normal, true⟩,
      ⟨"CLAMP", .caution, .normal, false⟩, ⟨"FIXED_LIMIT", .notice, .normal, false⟩,
      ⟨"COLD_SHOT", .notice, .normal, true⟩, ⟨"KEY_WEAK", .notice, .normal, true⟩]
  | 41 => [⟨"SOURCE", .notice, .normal, true⟩, ⟨"RELAY_CUT", .caution, .normal, true⟩,
      ⟨"RELAY_UNARMED", .caution, .normal, true⟩, ⟨"VKA_RESET", .caution, .normal, true⟩]
  | 42 => [⟨"FULL", .notice, .normal, false⟩, ⟨"FLOOR", .danger, .normal, false⟩, ⟨"IMBALANCE", .caution, .normal, false⟩,
      ⟨"CHARGE_BLOCKED", .caution, .normal, false⟩]
  | 43 => [⟨"MODE", .notice, .normal, true⟩, ⟨"OVERLOAD", .caution, .normal, false⟩, ⟨"SHORT", .danger, .normal, false⟩,
      ⟨"ABSORB_FULL", .caution, .normal, false⟩]
  | 44 => [⟨"SET", .notice, .normal, true⟩, ⟨"CLR", .notice, .normal, true⟩, ⟨"TOPUP", .notice, .normal, true⟩,
      ⟨"MAINS_ABSENT", .caution, .normal, false⟩, ⟨"REFUSED", .notice, .normal, true⟩]
  | 45 => [⟨"LOW", .caution, .normal, false⟩, ⟨"EMPTY", .caution, .normal, false⟩, ⟨"MISSING", .notice, .normal, false⟩]
  | 46 => [⟨"LEARN_REJECT", .notice, .normal, true⟩, ⟨"CAP_LOW", .caution, .normal, false⟩,
      ⟨"BUDGET_LEARNED", .notice, .normal, false⟩, ⟨"FORCE", .caution, .normal, false⟩,
      ⟨"RESERVE_SHORT", .caution, .normal, false⟩]
  | 47 => [⟨"HOLD", .notice, .normal, false⟩, ⟨"UNPERMITTED", .caution, .normal, true⟩,
      ⟨"OVERFLOW", .caution, .normal, true⟩, ⟨"DONE_EXTRA", .notice, .normal, true⟩]
  | 56 => [⟨"PASS", .notice, .normal, true⟩, ⟨"FAIL", .caution, .normal, false⟩, ⟨"INCOMPLETE", .notice, .normal, true⟩,
      ⟨"REFUSED", .notice, .normal, true⟩, ⟨"CONDWAIT", .notice, .normal, true⟩]
  | 57 => [⟨"CFG_DEFAULT", .caution, .normal, true⟩, ⟨"CFG_OLDER", .caution, .normal, true⟩,
      ⟨"CFG_SKIP", .notice, .normal, true⟩, ⟨"TORN_LOG", .notice, .normal, true⟩,
      ⟨"TORN_COMMIT", .caution, .normal, true⟩, ⟨"SAVED", .notice, .normal, true⟩,
      ⟨"COMMITTED", .notice, .normal, true⟩, ⟨"WRITE_FAIL", .caution, .normal, true⟩,
      ⟨"SCRUB_FIX", .notice, .normal, true⟩, ⟨"SCRUB_LOSS", .caution, .normal, true⟩, ⟨"WEAR", .caution, .normal, true⟩]
  | 58 => [⟨"SPI_OUT", .notice, .signalOnly, false⟩, ⟨"OVERRUN", .notice, .normal, true⟩,
      ⟨"BREAK", .notice, .normal, true⟩, ⟨"LOST", .notice, .logOnly, true⟩]
  | 59 => [⟨"FALL", .caution, .normal, false⟩, ⟨"STUCK_LOW", .caution, .normal, false⟩,
      ⟨"RELEASED", .notice, .normal, true⟩]
  | 60 => [⟨"START", .notice, .normal, true⟩, ⟨"HALT", .notice, .normal, true⟩, ⟨"ABANDONED", .notice, .normal, true⟩,
      ⟨"PEND_REPLACED", .notice, .normal, true⟩, ⟨"IGNORED", .notice, .normal, true⟩,
      ⟨"INVALID", .caution, .normal, false⟩, ⟨"START_FAILED", .caution, .normal, true⟩,
      ⟨"CHECK_FAIL", .notice, .normal, true⟩, ⟨"WAIT_TIMEOUT", .notice, .normal, true⟩,
      ⟨"SHED", .caution, .normal, false⟩, ⟨"ORDER", .notice, .normal, true⟩, ⟨"EARLY_FALL", .notice, .normal, true⟩,
      ⟨"STUCK_HIGH", .caution, .normal, false⟩, ⟨"SUPERSEDED", .notice, .normal, true⟩]
  | 61 => [⟨"RESET", .notice, .normal, true⟩, ⟨"COMPAT", .notice, .normal, true⟩, ⟨"KEY_HOLD", .caution, .normal, false⟩]
  | 62 => [⟨"LOG_DROP", .notice, .unlogged, true⟩, ⟨"NOTT4", .caution, .normal, false⟩]
  | 63 => [⟨"XTAL_LOST", .caution, .normal, false⟩, ⟨"VCORE_LOW", .caution, .normal, false⟩,
      ⟨"ROD_TRACKING", .notice, .normal, false⟩, ⟨"FREIGHT_LATE", .notice, .normal, false⟩]
  | _ => []

/-- The place of a name in a list of causes, counted from `k`. -/
def causeIn (name : String) : Nat → List CauseInfo → Option (Nat × CauseInfo)
  | _, [] => none
  | k, c :: cs => if c.name = name then some (k, c) else causeIn name (k + 1) cs

/-- Number and description of the cause of source `e` called `name`. -/
def causeOf (e : Nat) (name : String) : Option (Nat × CauseInfo) := causeIn name 1 (causesOf e)

/-- The name of cause `no` of source `e`. -/
def causeName (e no : Nat) : String :=
  match no with
  | 0 => "NONE"
  | k + 1 => (((causesOf e)[k]?).map CauseInfo.name).getD "NONE"

/-- PRESENT set for one cause and object (R395). -/
def State.setPresent (s : State) (e no key : Nat) : State :=
  if (e, no, key) ∈ s.flt.present then s else { s with flt := { s.flt with present := s.flt.present ++ [(e, no, key)] } }

/-- PRESENT cleared for one cause, whatever its object. -/
def State.clearCause (s : State) (e no : Nat) : State :=
  { s with flt := { s.flt with present := s.flt.present.filter fun x => !(x.1 = e && x.2.1 = no) } }

/-- PRESENT cleared for the cause called `name`, whatever its object. -/
def State.clear (s : State) (e : Nat) (name : String) : State :=
  match causeOf e name with
  | some (no, _) => s.clearCause e no
  | none => s

/-- PRESENT cleared for the cause called `name` and one object. -/
def State.clearKey (s : State) (e : Nat) (name : String) (key : Nat) : State :=
  match causeOf e name with
  | some (no, _) =>
    { s with flt := { s.flt with present := s.flt.present.filter fun x => !(x = (e, no, key)) } }
  | none => s

/-- The effective class of a cause (R402). -/
def State.effClass (s : State) (c : Cause) : Nat :=
  let pc := s.get (F.ROUTE_PCAUSE c.src)
  let hit := if pc = 0 then !(16 ≤ c.src && c.src < 40 && c.no == 2) else pc == c.no
  if hit then max c.cls.code (s.get (F.ROUTE_PROMOTE c.src)) else c.cls.code

/-- A cause reaches the collector: in RUN and in BUFFER-STOP it goes to the arbiter; before RUN it is held (R399), but
for one of effective class BUFFER-STOP, which is granted in any state (R404). A source absent from the part is never
raised (R394). -/
def State.present (s : State) (c : Cause) (hold : Bool) : State :=
  if sourceAbsent s.part c.src then s
  else
    let s := if hold then s.setPresent c.src c.no c.key else s
    if s.dev = .run ∨ s.dev = .bufferStop ∨ s.effClass c = 3 then
      { s with flt := { s.flt with causes := s.flt.causes ++ [{ c with epoch := s.flt.grants + 1 }] } }
    else { s with flt := { s.flt with held := s.flt.held ++ [c] } }

/-- The cause `name` of source `e` raised with class `cls`, PRESENT held or not, and the text of its fields. -/
def State.raiseAs (s : State) (e : Nat) (name : String) (cls : Cls) (hold : Bool) (fields : String := "")
    (num : Option Nat := some 0) (key : Nat := 0) : State :=
  match causeOf e name with
  | some (no, i) =>
    s.present { src := e, no := no, key := key, cls := cls, kind := i.kind, num := num,
                text := "CAUSE=" ++ name ++ (if fields = "" then "" else " " ++ fields) } hold
  | none => s

/-- The cause `name` of source `e` raised as its home table has it. -/
def State.raise (s : State) (e : Nat) (name : String) (fields : String := "") (num : Option Nat := some 0)
    (key : Nat := 0) : State :=
  match causeOf e name with
  | some (_, i) => s.raiseAs e name i.cls (!i.once) fields num key
  | none => s

/-- PRESENT set for the cause called `name`, whose notice comes later. -/
def State.markPresent (s : State) (e : Nat) (name : String) : State :=
  match causeOf e name with
  | some (no, _) =>
    if sourceAbsent s.part e then s else s.setPresent e no 0
  | none => s

/-- A monitor's cause: the text has no CAUSE= but for BLANKED (R108). -/
def State.raiseMon (s : State) (n no : Nat) (text : String) (num : Option Nat) (hold : Bool) : State :=
  s.present { src := 16 + n, no := no, cls := .notice, num := num, text := text } hold

/-! ### The partitions (R424, R434) -/

/-- Partition `bp` reports FAILED. -/
def State.failed (s : State) (bp : Nat) : Bool := s.bit F.BIST_SUM_FAILED bp

/-- Partition `bp` is under an on-demand test: its patterns run (R435). -/
def State.underTest (s : State) (bp : Nat) : Bool :=
  match s.bist.run with
  | some r => r.running && r.bp == bp && s.dev == .run
  | none => false

/-- Partition `bp` works: neither FAILED nor under test. -/
def State.works (s : State) (bp : Nat) : Bool := !s.failed bp && !s.underTest bp

/-- Partition of a rail (R424). -/
def railBp (r : Nat) : Nat := if r < 4 then 3 else 4

/-- The copy of the switching reference and of the VINS converter in partition `bp`, BP3 or BP4 (R266). -/
def State.ref (s : State) (bp : Nat) : SyncX := if bp = 3 then s.sync3 else s.sync

/-- A change of that copy. -/
def State.modRef (s : State) (bp : Nat) (f : SyncX → SyncX) : State :=
  if bp = 3 then { s with sync3 := f s.sync3 } else { s with sync := f s.sync }

/-- The copy that drives SYNC_OUT and speaks for the reference: that of BP4, or of BP3 while BP4 is FAILED or under test
(R266, R432). -/
def State.refBp (s : State) : Nat := if s.works 4 then 4 else 3

/-- Partition of a head, from head number 0 on (R424). -/
def headBp (h : Nat) : Nat := if h < 2 then 7 else 8

/-- Partition of a phase: that of its rail, BP4 while unassigned (R466). -/
def State.phBp (s : State) (n : Nat) : Nat :=
  let r := s.get (F.PH_CTRL_RAIL n)
  if r < 4 then 3 else 4

/-- The partition of the register at an address (R466). -/
def State.regBp (s : State) (a : Nat) : Nat :=
  if a = 0x0024 ∨ a = 0x0028 then 4
  else if a < 0x0100 then 0
  else if a < 0x0200 then 1
  else if a < 0x0300 then 0
  else if a = 0x0318 then 3
  else if a = 0x031C then 4
  else if 0x0340 ≤ a ∧ a < 0x0350 then 3
  else if 0x0350 ≤ a ∧ a < 0x0358 then 4
  else if a < 0x0800 then 2
  else if a < 0x0900 then 3
  else if a < 0x0A00 then 4
  else if a < 0x0C00 then s.phBp ((a - 0x0A00) / 0x20)
  else if a < 0x0E00 then 5
  else if a < 0x0F00 then 0
  else if a < 0x1000 then 4
  else if a < 0x1100 then 6
  else if a < 0x1200 then 0
  else if a < 0x1800 then 9
  else if a < 0x1880 then 7
  else if a < 0x2000 then 8
  else if a < 0x2200 then 7
  else 8

/-! ### The log queue (R416) -/

/-- The newest record of class NOTICE taken out of a queue, none where it holds none. -/
def dropNewestNotice : List LogRec → Option (List LogRec)
  | [] => none
  | r :: rs =>
    match dropNewestNotice rs with
    | some rs' => some (r :: rs')
    | none => if r.cls = 0 then some rs else none

/-- One record dropped and counted; the first drop after an empty queue raises LOG_DROP. -/
def State.logDropped (s : State) : State :=
  let s := s.bump F.FAULT_STAT_LOG_DROP
  if s.flt.dropTold then s
  else
    let n := s.get F.FAULT_STAT_LOG_DROP
    { s with flt := { s.flt with dropTold := true } }.raise 62 "LOG_DROP" ("COUNT=" ++ dec n) (some n)

/-- A log record queued or dropped by class (R416); while BP9 reports FAILED it is dropped (R460). -/
def State.pushLog (s : State) (r : LogRec) : State :=
  if s.failed 9 then s.logDropped
  else if s.flt.logQ.length < 32 then
    { s with flt := { s.flt with logQ := s.flt.logQ ++ [r], dropTold := s.flt.dropTold && !s.flt.logQ.isEmpty } }
  else if r.cls = 0 then s.logDropped
  else
    match dropNewestNotice s.flt.logQ with
    | some q => { s with flt := { s.flt with logQ := q ++ [r] } }.logDropped
    | none => s.logDropped

/-! ### Ports (R41, R45 to R50) -/

/-- A port can send: RUN, VIO present, BP1 in order (R11, R41, R482). -/
def State.canSend (s : State) : Bool := s.dev == .run && s.aon.vioOk && !s.failed 1

/-- An item put at the end of a port's output sequence. -/
def State.emit (s : State) (p : PortId) (i : OutItem) : State := s.modPort p fun x => { x with out := x.out ++ [i] }

/-- Notifications a port has queued for sending (R48). -/
def PortX.notices (x : PortX) : Nat := (x.out.filter fun i => i.kind == .notice).length

/-- The port is STRICT at present: under COMPAT none is (R64). -/
def State.strict (s : State) (p : PortId) : Bool := (s.port p).set.strict && !s.compat

/-- The port is TYPED at present, with echo and editing (R49); the SPI port never is (R55, R64). -/
def State.typed (s : State) (p : PortId) : Bool := p != .spi && !s.strict p

/-- Characters written back on a TYPED port, joined to echo already waiting at the end of its output. -/
def State.echo (s : State) (p : PortId) (t : String) : State :=
  if !s.typed p || !s.canSend then s
  else s.modPort p fun x =>
    match x.out.getLast? with
    | some i => if i.kind = .echo then { x with out := x.out.dropLast ++ [{ i with text := i.text ++ t }] }
        else { x with out := x.out ++ [{ kind := .echo, text := t }] }
    | none => { x with out := [{ kind := .echo, text := t }] }

/-- CR LF. -/
def crlf : String := String.ofList [Char.ofNat 13, Char.ofNat 10]

/-- Bytes as text. -/
def textOf (bs : List Byte) : String := String.ofList (bs.map fun b => Char.ofNat b.toNat)

/-- A notification of any kind placed between the lines of a port (R47): on a TYPED port with a line begun it is preceded
by CR LF and followed by the partial line again. -/
def State.between (s : State) (p : PortId) (i : OutItem) : State :=
  let x := s.port p
  if s.typed p && !x.rx.isEmpty then ((s.echo p crlf).emit p i).echo p (textOf x.rx) else s.emit p i

/-- `!LOST count` put before the next notification, once there is space (R48). -/
def State.flushLost (s : State) (p : PortId) : State :=
  let x := s.port p
  if x.dropped = 0 ∨ 32 ≤ x.notices ∨ !s.canSend then s
  else
    ((s.between p { kind := .lost, text := "!LOST " ++ dec x.dropped }).modPort p fun x => { x with dropped := 0 }).raise 58
      "LOST" ("PORT=" ++ portName p ++ " COUNT=" ++ dec x.dropped) (some x.dropped)

/-- One `!EV` or `!PULL` for one port (R48): dropped and counted where the queue is full or VIO is absent. -/
def State.notify (s : State) (p : PortId) (text : String) : State :=
  let s := s.flushLost p
  if 32 ≤ (s.port p).notices ∨ !s.canSend then s.modPort p fun x => { x with dropped := x.dropped + 1 }
  else s.between p { kind := .notice, text := text }

/-- The source is selected by the port's subscription (R46). -/
def Subs.takes (b : Subs) (e cls : Nat) : Bool := bitAt b.mask e || (b.clsEn && b.cls ≤ cls)

/-- `!EV` of a grant sent to every port subscribed (R405). -/
def State.notifyAll (s : State) (e cls : Nat) (text : String) : State :=
  [PortId.host, .service, .spi].foldl (fun s p => if (s.port p).subs.takes e cls then s.notify p text else s) s

/-- `!PULL loop object bound` sent to every port subscribed to PULL (R45, R46), while BP1 works (R414). -/
def State.pull (s : State) (text : String) : State :=
  if s.dev = .run ∧ !s.failed 1 then
    [PortId.host, .service, .spi].foldl (fun s p => if (s.port p).subs.pull then s.notify p ("!PULL " ++ text) else s) s
  else s

/-- How a command answered QUEUED ends: OK, or NO with its code, name and detail. -/
inductive Fin_ where
  | ok
  | no (text : String)
deriving DecidableEq, Repr

/-- `!DONE` of a command answered QUEUED (R43), a notification too (R45, R47), lost while the port cannot send (R41). Under
COMPAT it carries no tag (R64). -/
def State.done (s : State) (o : Owed) (r : Fin_) : State :=
  if !s.canSend then s
  else
    s.between o.port
      { kind := .done,
        text := "!DONE " ++ o.what ++ (match r with | .ok => " OK" | .no t => " " ++ t) ++
          (match o.tag with | some t => if s.compat then "" else " @" ++ dec t | none => "") }

/-- `!DONE` where a line is owed one. -/
def State.doneOpt (s : State) (o : Option Owed) (r : Fin_) : State :=
  match o with
  | some o => s.done o r
  | none => s

/-- Text of a refusal (R44), in the form of the edition in force (R64). -/
def noText (compat : Bool) (code : Nat) (name detail : String) : String :=
  if compat then "ERR " ++ dec code
  else "NO " ++ dec code ++ " " ++ name ++ (if detail = "" then "" else " " ++ detail)

/-- The refusal a `!DONE` carries (R43). -/
def State.finNo (s : State) (code : Nat) (name detail : String) : Fin_ := .no (noText s.compat code name detail)

/-! ### Time -/

/-- The tick counter carried to a deadline it has not reached: the event that ends a timer comes when the timer's ticks
have passed (assumption 9). -/
def State.reach (s : State) (t : Nat) : State := { s with ticks := max s.ticks t }

/-- The low 32 bits of the tick counter (R398). -/
def State.stamp (s : State) : Nat := s.ticks % 2 ^ 32

end Sys2Proof.Machine
end

