-- ==== Sys2Proof/Machine/Operands.lean ====
section
/-! DEFINITION. The operand forms of Felten lines: characters, numbers, units and arguments in (R34 to R37), quantities
out (R37, R64), objects, and the answers a line can get (R40, R44). -/

namespace Sys2Proof.Machine

/-! ### Characters -/

/-- A lower-case letter made upper case (R33). -/
def upperChar (c : Char) : Char := if 97 ≤ c.toNat ∧ c.toNat ≤ 122 then Char.ofNat (c.toNat - 32) else c

/-- A decimal digit. -/
def isDig (c : Char) : Bool := 48 ≤ c.toNat && c.toNat ≤ 57

/-- The value of a hexadecimal digit in upper case. -/
def hexVal (c : Char) : Option Nat :=
  if isDig c then some (c.toNat - 48) else if 65 ≤ c.toNat ∧ c.toNat ≤ 70 then some (c.toNat - 55) else none

/-- The decimal digits at the front, as their value and count, and what follows. -/
def takeDigits : Nat → Nat → List Char → Nat × Nat × List Char
  | v, n, [] => (v, n, [])
  | v, n, c :: cs => if isDig c then takeDigits (v * 10 + (c.toNat - 48)) (n + 1) cs else (v, n, c :: cs)

/-- The hexadecimal digits at the front, underscores between digits passed over (R36). -/
def takeHex : Nat → Nat → List Char → Nat × Nat × List Char
  | v, n, [] => (v, n, [])
  | v, n, c :: cs =>
    match hexVal c with
    | some d => takeHex (v * 16 + d) (n + 1) cs
    | none =>
      if c = '_' ∧ 0 < n then
        match cs with
        | d :: _ => if (hexVal d).isSome then takeHex v n cs else (v, n, c :: cs)
        | [] => (v, n, c :: cs)
      else (v, n, c :: cs)

/-- A token cut at its first `=`. -/
def cutEq : List Char → Option (List Char × List Char)
  | [] => none
  | c :: cs => if c = '=' then some ([], cs) else (cutEq cs).map fun x => (c :: x.1, x.2)

/-- A token cut at every comma. -/
def cutCommas : List Char → List (List Char)
  | [] => [[]]
  | c :: cs =>
    if c = ',' then [] :: cutCommas cs
    else match cutCommas cs with
      | [] => [[c]]
      | x :: xs => (c :: x) :: xs

/-- The items of a comma list. -/
def listItems (t : String) : List String := (cutCommas t.toList).map String.ofList

/-- The words joined by a separator. -/
def joinWith (sep : String) : List String → String
  | [] => ""
  | [a] => a
  | a :: as => a ++ sep ++ joinWith sep as

/-- A comma list, or NONE where it is empty. -/
def listOut (xs : List String) : String := if xs.isEmpty then "NONE" else joinWith "," xs

/-- `NAME=VALUE` words joined by spaces. -/
def fieldsOut (xs : List (String × String)) : String := joinWith " " (xs.map fun x => x.1 ++ "=" ++ x.2)

/-! ### Numbers in (R36) -/

/-- A number token: its value `num / den`, and the characters that follow it. -/
structure NumTok where
  /-- Numerator. -/
  num : Int
  /-- Denominator, a power of ten. -/
  den : Nat
  /-- Suffix. -/
  suffix : String
  /-- It has a fraction. -/
  frac : Bool
  /-- It is hexadecimal with more than 8 digits. -/
  long : Bool := false
deriving DecidableEq, Repr

/-- Decimal digits with an optional fraction. -/
def parseDec (neg : Bool) (cs : List Char) : Option NumTok :=
  let (v, n, rest) := takeDigits 0 0 cs
  if n = 0 then none
  else
    let sgn : Nat → Int := fun x => if neg then -(x : Int) else x
    match rest with
    | '.' :: r =>
      let (f, k, rest2) := takeDigits v 0 r
      if k = 0 then some ⟨sgn v, 1, String.ofList rest, false, false⟩
      else some ⟨sgn f, 10 ^ k, String.ofList rest2, true, false⟩
    | _ => some ⟨sgn v, 1, String.ofList rest, false, false⟩

/-- The number a value begins with, none where it begins with none. -/
def parseNum (t : String) : Option NumTok :=
  match t.toList with
  | '-' :: cs => parseDec true cs
  | '+' :: cs => parseDec false cs
  | '0' :: 'X' :: cs =>
    let (v, n, rest) := takeHex 0 0 cs
    if n = 0 then some ⟨0, 1, String.ofList ('X' :: cs), false, false⟩
    else some ⟨v, 1, String.ofList rest, false, 8 < n⟩
  | cs => parseDec false cs

/-- A plain natural number with nothing after it. -/
def parseNat (t : String) : Option Nat :=
  match parseNum t with
  | some n => if n.suffix = "" ∧ n.den = 1 ∧ 0 ≤ n.num ∧ n.long = false then some n.num.toNat else none
  | none => none

/-- The number after a fixed prefix, as in PH12. -/
def numAfter (pre t : String) : Option Nat :=
  let p := pre.toList
  let cs := t.toList
  if p.length < cs.length ∧ cs.take p.length = p ∧ (cs.drop p.length).all isDig then
    some (takeDigits 0 0 (cs.drop p.length)).1
  else none

/-! ### Quantities (R37) -/

/-- The quantities of R37. -/
inductive Qty where
  | volt | amp | watt | joule | time | freq | temp | ohm | ratio | slew | cap | plain
deriving DecidableEq, Repr

/-- The accepted suffixes, in upper case, with their size in the smallest unit: mV, nA, mW, mJ, ns, Hz, °C, µΩ, 0.1 %,
0.1 mV/µs, mF. -/
def Qty.suffixes : Qty → List (String × Nat × Nat)
  | .volt => [("MV", 1, 1), ("V", 1000, 1)]
  | .amp => [("NA", 1, 1), ("UA", 1000, 1), ("MA", 1000000, 1), ("A", 1000000000, 1)]
  | .watt => [("MW", 1, 1), ("W", 1000, 1)]
  | .joule => [("MJ", 1, 1), ("J", 1000, 1)]
  | .time => [("NS", 1, 1), ("US", 1000, 1), ("MS", 1000000, 1), ("S", 1000000000, 1), ("TK", 1953125, 64)]
  | .freq => [("HZ", 1, 1), ("KHZ", 1000, 1), ("MHZ", 1000000, 1)]
  | .temp => [("C", 1, 1)]
  | .ohm => [("UOHM", 1, 1), ("MOHM", 1000, 1)]
  | .ratio => [("%", 10, 1)]
  | .slew => [("MV/US", 10, 1), ("V/MS", 10, 1)]
  | .cap => [("MF", 1, 1), ("F", 1000, 1)]
  | .plain => []

/-- The size of the default unit in the smallest unit; for a time it is the field's own unit, `u`. -/
def Qty.default (q : Qty) (u : Nat × Nat) : Nat × Nat :=
  match q with
  | .volt => (1000, 1) | .amp => (1000000000, 1) | .watt => (1000, 1) | .joule => (1000, 1) | .time => u
  | .freq => (1000, 1) | .temp => (1, 1) | .ohm => (1000, 1) | .ratio => (10, 1) | .slew => (10, 1) | .cap => (1000, 1)
  | .plain => (1, 1)

/-- The size of the unit of a number under COMPAT (R64). R64 names none for a slew rate and a capacitance: they keep the
default unit of R37 (assumption 24). -/
def Qty.compatUnit (q : Qty) (u : Nat × Nat) : Nat × Nat :=
  match q with
  | .volt => (1, 1) | .amp => (1000000, 1) | .watt => (1, 1) | .joule => (1000, 1)
  | .time => if u = (1953125, 64) then u else (1, 1)
  | .freq => (1, 1) | .temp => (1, 1) | .ohm => (1, 1) | .ratio => (1, 1) | .slew => (10, 1) | .cap => (1000, 1)
  | .plain => (1, 1)

/-- One tick in ns, as a ratio. -/
def tickNs : Nat × Nat := (1953125, 64)

/-! ### Arguments -/

/-- What an argument takes. -/
inductive Kind where
  /-- A quantity stored as a code: `unit` the field's own time unit in ns, one code worth `stepN / stepD` of the smallest
  unit, `ofs` the value of code 0 in codes, and the range of value in codes. -/
  | q (qty : Qty) (unit : Nat × Nat) (stepN stepD : Nat) (lo hi : Int)
  /-- A quantity stored as the exponent of the nearest power of two of `stepN / stepD` of the smallest unit. -/
  | pow2 (qty : Qty) (unit : Nat × Nat) (stepN stepD : Nat) (lo hi : Nat)
  /-- A plain number. -/
  | num (lo hi : Int)
  /-- ON, OFF, 1 or 0. -/
  | switch
  /-- One of a list of names; its value is the place in the list. -/
  | enum (names : List String)
  /-- Text that the verb judges for itself. -/
  | raw
  /-- A word standing alone. -/
  | key
deriving Repr

/-- A value found. -/
inductive Val where
  | int (v : Int)
  | text (t : String)
deriving DecidableEq, Repr

/-- Arguments found, by name. -/
abbrev Args := List (String × Val)

/-- The number given for an argument. -/
def Args.int (a : Args) (n : String) : Option Int :=
  match a with
  | [] => none
  | (m, v) :: t => if m = n then (match v with | .int x => some x | .text _ => none) else Args.int t n

/-- The same as a natural. -/
def Args.nat (a : Args) (n : String) : Option Nat := (a.int n).map Int.toNat

/-- The text given for an argument. -/
def Args.txt (a : Args) (n : String) : Option String :=
  match a with
  | [] => none
  | (m, v) :: t => if m = n then (match v with | .text x => some x | .int _ => none) else Args.txt t n

/-- The argument was given. -/
def Args.has (a : Args) (n : String) : Bool := a.any fun x => x.1 == n

/-- An answer to a line (R40). -/
inductive Ans where
  /-- OK; the text after the verb. -/
  | ok (text : String)
  /-- OK to PORT: settings that take effect when the reply has been sent (R50). -/
  | port (text : String) (q : PortId) (c : PortChange)
  /-- NO. -/
  | no (code : Nat) (name detail : String)
  /-- ABSENT. -/
  | absent
  /-- QUEUED. -/
  | queued
  /-- QUEUED, and `!DONE` with OK at once after it (R43). -/
  | queuedDone (owed : Owed)
  /-- WAIT RETRY, in tenths of a millisecond. -/
  | wait (retry : Nat)
deriving DecidableEq, Repr

/-- NO 16. -/
def Ans.arg (d : String) : Ans := .no 16 "ARG" d
/-- NO 17. -/
def Ans.range (d : String) : Ans := .no 17 "RANGE" d
/-- NO 18. -/
def Ans.unit (d : String) : Ans := .no 18 "UNIT" d
/-- NO 15. -/
def Ans.object (d : String) : Ans := .no 15 "OBJECT" d
/-- NO 20. -/
def Ans.state (d : String) : Ans := .no 20 "STATE" d
/-- NO 21. -/
def Ans.failed (bp : Nat) : Ans := .no 21 "FAILED" ("BP" ++ dec bp)
/-- NO 22. -/
def Ans.refused (d : String) : Ans := .no 22 "REFUSED" d

/-- The exponent of the power of two nearest to `num / den`, ties upward (R14): `lo` and `hi` bound it. -/
def nearestPow (num den lo : Nat) : Nat → Option Nat
  | 0 => if 3 * 2 ^ lo * den ≤ 4 * num then some lo else none
  | k + 1 => if 3 * 2 ^ (lo + k) * den ≤ 2 * num then some (lo + k + 1) else nearestPow num den lo k

/-- What one value is worth under its kind: the number, or the code of the refusal. -/
def valueOf (compat : Bool) (k : Kind) (t : String) : Except Nat Val :=
  let number (q : Qty) (u : Nat × Nat) (judge : Int → Nat → Except Nat Val) : Except Nat Val :=
    match parseNum t with
    | none => .error 17
    | some n =>
      if n.long then .error 17
      else if compat ∧ n.frac then .error 10
      else if compat ∧ n.suffix ≠ "" then .error 18
      else
        let size : Option (Nat × Nat) :=
          if compat then some (q.compatUnit u)
          else if n.suffix = "" then some (q.default u)
          else (q.suffixes.find? fun x => x.1 == n.suffix).map fun x => x.2
        match size with
        | none => .error 18
        | some (sn, sd) => judge (n.num * sn) (n.den * sd)
  let code (stepN stepD : Nat) (lo hi : Int) (num : Int) (den : Nat) : Except Nat Val :=
    let v := roundDiv (num * stepD) (den * stepN)
    if lo ≤ v ∧ v ≤ hi then .ok (.int v) else .error 17
  match k with
  | .q q u stepN stepD lo hi => number q u (code stepN stepD lo hi)
  | .pow2 q u stepN stepD lo hi => number q u fun num den =>
      if num ≤ 0 then .error 17
      else match nearestPow (num.toNat * stepD) (den * stepN) lo (hi + 1 - lo) with
        | some k => if k ≤ hi then .ok (.int k) else .error 17
        | none => .error 17
  | .num lo hi => number .plain (1, 1) (code 1 1 lo hi)
  | .switch =>
    if t = "ON" ∨ t = "1" then .ok (.int 1) else if t = "OFF" ∨ t = "0" then .ok (.int 0) else .error 17
  | .enum names => match names.findIdx? (· == t) with
    | some i => .ok (.int i)
    | none => .error 17
  | .raw => .ok (.text t)
  | .key => .error 16

/-- One argument token under a list of argument kinds: its name and value, or the refusal. -/
def argOf (compat : Bool) (spec : List (String × Kind)) (tok : String) : Except (Nat × String) (String × Val) :=
  match cutEq tok.toList with
  | some (n, v) =>
    let name := String.ofList n
    match (spec.find? fun x => x.1 == name).map Prod.snd with
    | none => .error (16, name)
    | some k => match valueOf compat k (String.ofList v) with
      | .ok x => .ok (name, x)
      | .error c => .error (c, name)
  | none =>
    match (spec.find? fun x => x.1 == tok).map Prod.snd with
    | some .key => .ok (tok, .int 1)
    | _ => .error (16, tok)

/-- The first refusal of one code in a list of judged tokens. -/
def firstOf (c : Nat) (xs : List (Except (Nat × String) (String × Val))) : Option String :=
  xs.findSome? fun x => match x with | .error (k, d) => if k = c then some d else none | .ok _ => none

/-- Whether an argument name stands twice. -/
def twice : List String → Option String
  | [] => none
  | a :: as => if as.contains a then some a else twice as

/-- The name an argument token gives, of a pair or of a word standing alone. -/
def argName (tok : String) : String :=
  match cutEq tok.toList with
  | some (n, _) => String.ofList n
  | none => tok

/-- The arguments of a line judged in the order of R35, row 7: count and names (16), units (18), ranges (17); under COMPAT
a fraction (10) before them. `count` names the argument that is missing or surplus among the names given, if any. -/
def parseArgs (compat : Bool) (spec : List (String × Kind)) (toks : List String)
    (count : (String → Bool) → Option String := fun _ => none) : Except Ans Args :=
  let xs := toks.map (argOf compat spec)
  let got : Args := xs.filterMap fun x => match x with | .ok v => some v | .error _ => none
  let names := toks.map argName
  match firstOf 10 xs, firstOf 16 xs, twice names, count names.contains, firstOf 18 xs, firstOf 17 xs with
  | some _, _, _, _, _, _ => .error (.no 10 "SYNTAX" "")
  | none, some d, _, _, _, _ => .error (.arg d)
  | none, none, some d, _, _, _ => .error (.arg d)
  | none, none, none, some d, _, _ => .error (.arg d)
  | none, none, none, none, some d, _ => .error (.unit d)
  | none, none, none, none, none, some d => .error (.range d)
  | none, none, none, none, none, none => .ok got

/-- Two arguments that exclude each other: the second is surplus. -/
def notBoth (a b : String) (has : String → Bool) : Option String := if has a && has b then some b else none

/-- Arguments that a line must give: the first that it lacks. -/
def needs (names : List String) (has : String → Bool) : Option String := names.find? fun n => !has n

/-- The place of a refusal in row 7 of R35. -/
def Ans.rank : Ans → Nat
  | .no 10 _ _ => 0
  | .no 16 _ _ => 1
  | .no 18 _ _ => 2
  | .no 17 _ _ => 3
  | _ => 4

/-- Two parts of a line judged together: the refusal that row 7 of R35 places first. -/
def together {α β : Type} (x : Except Ans α) (y : Except Ans β) : Except Ans (α × β) :=
  match x, y with
  | .ok a, .ok b => .ok (a, b)
  | .error e, .ok _ => .error e
  | .ok _, .error e => .error e
  | .error e, .error f => .error (if e.rank ≤ f.rank then e else f)

/-- A value that stands without a name, judged under a kind. -/
def bareValue (compat : Bool) (k : Kind) (t : String) : Except Ans Int :=
  match valueOf compat k t with
  | .ok (.int v) => .ok v
  | .ok (.text _) => .error (.arg t)
  | .error 10 => .error (.no 10 "SYNTAX" "")
  | .error 18 => .error (.unit t)
  | .error _ => .error (.range t)

/-- Values that stand without a name, judged one by one: units before ranges (R35). -/
def bareValues (compat : Bool) (k : Kind) (toks : List String) : Except Ans (List Int) :=
  let units := toks.filter fun t => match bareValue compat k t with | .error (.no 18 _ _) => true | _ => false
  match units with
  | t :: _ => .error (.unit t)
  | [] => toks.mapM (bareValue compat k)

/-- A line that takes no arguments (R35, row 7). -/
def noArgs (toks : List String) : Except Ans Unit :=
  match toks with
  | [] => .ok ()
  | t :: _ => .error (.arg t)

/-! ### Quantities out (R37, R64) -/

/-- `num / den` with `k` decimals, rounded to the nearest with ties away from zero (assumption 25). -/
def decimals (k : Nat) (num : Int) (den : Nat) : String :=
  let v := roundDiv (num * 10 ^ k) den
  let a := v.natAbs
  let sign := if v < 0 then "-" else ""
  if k = 0 then sign ++ dec a
  else
    let f := (Nat.toDigits 10 (a % 10 ^ k))
    sign ++ dec (a / 10 ^ k) ++ "." ++ String.ofList (List.replicate (k - f.length) '0' ++ f)

/-- An integer out. -/
def intOut (num : Int) (den : Nat) : String := decimals 0 num den

/-- A voltage `num / den` mV. -/
def vOut (c : Bool) (num : Int) (den : Nat := 1) : String := if c then intOut num den else decimals 3 num (den * 1000) ++ "V"
/-- A current `num / den` mA. -/
def aOut (c : Bool) (num : Int) (den : Nat := 1) : String := if c then intOut num den else decimals 3 num (den * 1000) ++ "A"
/-- A power `num / den` mW. -/
def wOut (c : Bool) (num : Int) (den : Nat := 1) : String := if c then intOut num den else decimals 1 num (den * 1000) ++ "W"
/-- An energy in whole joules. -/
def jOut (c : Bool) (j : Int) : String := if c then intOut j 1 else intOut j 1 ++ "J"
/-- A frequency `num / den` Hz. -/
def fOut (c : Bool) (num : Int) (den : Nat := 1) : String := if c then intOut num den else decimals 3 num (den * 1000) ++ "kHz"
/-- A temperature `num / den` °C. -/
def tOut (c : Bool) (num : Int) (den : Nat := 1) : String := if c then intOut num den else decimals 1 num den ++ "C"
/-- A resistance `num / den` µΩ. -/
def ohmOut (c : Bool) (num : Int) (den : Nat := 1) : String :=
  if c then intOut num den else decimals 2 num (den * 1000) ++ "mOhm"
/-- A ratio `num / den` %. -/
def pctOut (c : Bool) (num : Int) (den : Nat := 1) : String :=
  if c then intOut (num * 10) den else decimals 1 num den ++ "%"
/-- A slew rate `num / den` mV/µs. -/
def slewOut (c : Bool) (num : Int) (den : Nat := 1) : String := if c then intOut num den else decimals 1 num den ++ "mV/us"
/-- A capacitance `num / den` F. -/
def capOut (c : Bool) (num : Int) (den : Nat := 1) : String := if c then intOut num den else decimals 2 num den ++ "F"
/-- A time kept in ticks. -/
def tkOut (c : Bool) (n : Nat) : String := if c then dec n else dec n ++ "tk"
/-- A time `num / den` in an SI unit of `ns` ns each, written with `k` decimals; in ns under COMPAT. -/
def siOut (c : Bool) (k : Nat) (unit : String) (ns : Nat) (num : Int) (den : Nat := 1) : String :=
  if c then intOut (num * ns) den else decimals k num den ++ unit
/-- A switch. -/
def onOut (b : Bool) : String := if b then "ON" else "OFF"
/-- A bit. -/
def bitOut (b : Bool) : String := if b then "1" else "0"

/-! ### Objects (R4, R34, R35 rows 5 and 6) -/

/-- The first token after the verb. -/
def objTok (l : Line) : Option String := l.toks.head?

/-- The tokens after the object. -/
def restToks (l : Line) : List String := l.toks.tail

/-- The object of a line under a reader of names that says which unit it is and whether it is present. -/
def objOf (read : String → Option Nat) (here : Nat → Bool) (l : Line) : Except Ans Nat :=
  match objTok l with
  | none => .error (.object "")
  | some t => match read t with
    | none => .error (.object t)
    | some n => if here n then .ok n else .error .absent

/-- A rail's number by its name. -/
def readRail (t : String) : Option Nat := railNames.findIdx? (· == t)

/-- A numbered unit below a limit. -/
def readUnit (pre : String) (limit : Nat) (t : String) : Option Nat :=
  match numAfter pre t with
  | some n => if n < limit ∧ t = pre ++ dec n then some n else none
  | none => none

/-- A rail as object. -/
def objRail (p : Part) (l : Line) : Except Ans Nat := objOf readRail p.hasRail l

/-- A phase as object. -/
def objPhase (p : Part) (l : Line) : Except Ans Nat := objOf (readUnit "PH" 16) (fun n => n < p.phases) l

/-- A monitor as object. -/
def objMon (p : Part) (l : Line) : Except Ans Nat := objOf (readUnit "MON" 24) (fun n => n < p.mons) l

/-- A head as object, from head number 0 on. -/
def readHead (t : String) : Option Nat :=
  match readUnit "HEAD" 5 t with
  | some (k + 1) => some k
  | _ => none

/-- A head as object. -/
def objHead (p : Part) (l : Line) : Except Ans Nat := objOf readHead (fun h => h < p.heads) l

/-- A timetable as object. -/
def objTt (l : Line) : Except Ans Nat := objOf (readUnit "TT" 8) (fun _ => true) l

/-- An event source as object. -/
def objEv (p : Part) (l : Line) : Except Ans Nat := objOf (readUnit "EV" 64) (fun e => !sourceAbsent p e) l

/-- A partition as object. -/
def objBp (l : Line) : Except Ans Nat := objOf (readUnit "BP" 10) (fun _ => true) l

/-- A harvest input as object. -/
def objHarv (p : Part) (l : Line) : Except Ans Nat :=
  objOf (fun t => ["AC1", "AC2", "TEG", "KEY"].findIdx? (· == t)) p.hasHarv l

/-- Row 8 of R35: the partition that serves the line has not failed. -/
def State.serves (s : State) (bp : Nat) : Except Ans Unit := if s.failed bp then .error (.failed bp) else .ok ()

/-! ### Common argument kinds -/

/-- A voltage stored in steps of `stepN / stepD` mV. -/
def kVolt (stepN stepD : Nat) (lo hi : Int) : Kind := .q .volt (1, 1) stepN stepD lo hi
/-- A current stored in steps of `mA` mA. -/
def kAmp (mA : Nat) (lo hi : Int) : Kind := .q .amp (1, 1) (mA * 1000000) 1 lo hi
/-- A power stored in steps of `mW` mW. -/
def kWatt (mW : Nat) (lo hi : Int) : Kind := .q .watt (1, 1) mW 1 lo hi
/-- An energy stored in whole joules. -/
def kJoule (lo hi : Int) : Kind := .q .joule (1, 1) 1000 1 lo hi
/-- A time kept in ticks. -/
def kTick (lo hi : Int) : Kind := .q .time tickNs 1953125 64 lo hi
/-- A time kept in steps of `ns` ns, its own unit `unit` ns. -/
def kTime (unit ns : Nat) (lo hi : Int) : Kind := .q .time (unit, 1) ns 1 lo hi
/-- A frequency stored in steps of `hz` Hz. -/
def kFreq (hz : Nat) (lo hi : Int) : Kind := .q .freq (1, 1) hz 1 lo hi
/-- A temperature in whole degrees. -/
def kTemp (lo hi : Int) : Kind := .q .temp (1, 1) 1 1 lo hi
/-- A resistance stored in steps of `uOhm` µΩ. -/
def kOhm (uOhm : Nat) (lo hi : Int) : Kind := .q .ohm (1, 1) uOhm 1 lo hi
/-- A ratio stored in steps of `tenths` × 0.1 %. -/
def kPct (tenths : Nat) (lo hi : Int) : Kind := .q .ratio (1, 1) tenths 1 lo hi
/-- A slew rate stored in steps of 0.1 mV/µs. -/
def kSlew (lo hi : Int) : Kind := .q .slew (1, 1) 1 1 lo hi
/-- A capacitance stored in steps of 10 mF. -/
def kCap (lo hi : Int) : Kind := .q .cap (1, 1) 10 1 lo hi

/-- A given argument stored in a field, the field unchanged where it is not given. -/
def State.setArg (s : State) (f : Field) (v : Option Nat) : State :=
  match v with
  | some v => s.set f v
  | none => s

/-- A given signed argument stored in a field. -/
def State.setArgI (s : State) (f : Field) (v : Option Int) : State :=
  match v with
  | some v => s.sset f v
  | none => s

end Sys2Proof.Machine
end

