-- ==== Sys2Proof/Machine/Flags.lean ====
section
/-! DEFINITION. The status the device forms from its state: monitor states, PRESENT and LATCHED of the event sources
(R395), the EVT pins (R406), FLT_N (R408, R409) and the signal line (R411, R417). -/

namespace Sys2Proof.Machine

/-! ### Monitors -/

/-- A monitor's state as its status register codes it (R110). -/
def MonState.code : MonState → Nat
  | .unsettled => 0
  | .below => 1
  | .inside => 2
  | .above => 3

/-- The state of a code. -/
def monStateOf : Nat → MonState
  | 1 => .below
  | 2 => .inside
  | 3 => .above
  | _ => .unsettled

/-- The state of monitor `n`. -/
def State.monState (s : State) (n : Nat) : MonState := monStateOf (s.get (F.MON_STATUS_STATE n))

/-- STATE and GOOD of monitor `n` stored. -/
def State.setMonState (s : State) (n : Nat) (m : MonState) : State :=
  (s.set (F.MON_STATUS_STATE n) m.code).setFlag (F.MON_STATUS_GOOD n) (m == .inside)

/-- A monitor state's name (R112). -/
def monStateName : MonState → String
  | .unsettled => "UNSETTLED"
  | .below => "BELOW"
  | .inside => "INSIDE"
  | .above => "ABOVE"

/-! ### PRESENT and LATCHED (R395, R396, R400) -/

/-- A cause of a source is PRESENT: a monitor's by the state it reads, SPI_OUT by the output that waits, any other as it
was raised and cleared. -/
def State.causePresent (s : State) (e no : Nat) : Bool :=
  if 16 ≤ e ∧ e < 40 then
    (no == 1 && s.monState (e - 16) == .below) || (no == 3 && s.monState (e - 16) == .above) ||
      (no == 4 && s.monState (e - 16) == .unsettled && s.flt.present.any fun x => x.1 == e && x.2.1 == 4)
  else if e = 58 ∧ no = 1 then !s.spi.out.isEmpty
  else s.flt.present.any fun x => x.1 == e && x.2.1 == no

/-- A source is PRESENT while any of its causes is (R395). -/
def State.srcPresent (s : State) (e : Nat) : Bool :=
  !sourceAbsent s.part e && (List.range (causesOf e).length).any fun k => s.causePresent e (k + 1)

/-- The PRESENT bits of sources `lo` to `lo + 31`. -/
def State.presentMask (s : State) (lo : Nat) : Nat :=
  maskOf ((List.range 32).filter fun k => s.srcPresent (lo + k))

/-- The LATCHED field that holds source `e`, and its bit. -/
def latchOf (e : Nat) : Field × Nat :=
  if e < 32 then (F.FAULT_LAT_LO_LATCHED, e) else (F.FAULT_LAT_HI_LATCHED, e - 32)

/-- LATCHED of source `e`. -/
def State.latched (s : State) (e : Nat) : Bool := s.bit (latchOf e).1 (latchOf e).2

/-- LATCHED of source `e` stored. -/
def State.setLatched (s : State) (e : Nat) (b : Bool) : State := s.setBit (latchOf e).1 (latchOf e).2 b

/-- The record of source `e` (R398). -/
def State.srcRec (s : State) (e : Nat) : SrcRec := Tab.get (fun _ => {}) s.flt.srcs e

/-- The record of source `e` changed. -/
def State.modSrc (s : State) (e : Nat) (f : SrcRec → SrcRec) : State :=
  { s with flt := { s.flt with srcs := Tab.put (fun _ => {}) s.flt.srcs e (f (s.srcRec e)) } }

/-- A source cleared (R400): with PRESENT 0 its record is emptied and its latch released; with PRESENT 1 LATCHED stays
and COUNT becomes 1. A source that is not latched keeps its empty record. -/
def State.clearSource (s : State) (e : Nat) : State :=
  if s.latched e then
    if s.srcPresent e then s.modSrc e fun r => { r with count := 1 }
    else (s.modSrc e fun r => { r with count := 0, first := 0, last := 0, lclass := 0 }).setLatched e false
  else s

/-! ### Effective class and FLT_N (R402, R408, R409) -/

/-- The effective class of cause `no` of source `e` as its home table classes it. -/
def State.classOf (s : State) (e no : Nat) : Nat :=
  let c := match (causesOf e)[no - 1]? with | some i => i.cls.code | none => 0
  let pc := s.get (F.ROUTE_PCAUSE e)
  let hit := if pc = 0 then !(16 ≤ e && e < 40 && no == 2) else pc == no
  if hit then max c (s.get (F.ROUTE_PROMOTE e)) else c

/-- A source that holds FLT_N low under LEVEL: one PRESENT with FLT 1, or with a PRESENT cause of CAUTION or higher (R408). A
signal-only cause holds it never: it is granted no more than it is counted, and drives routed EVT pins and WAIT conditions only
(R396; DEDUCED, assumption 59). -/
def State.levelHolds (s : State) (e : Nat) : Bool :=
  ((causesOf e).zipIdx 1).any fun c =>
    c.1.kind != .signalOnly && s.causePresent e c.2 && (s.flag (F.ROUTE_FLT e) || decide (1 ≤ s.classOf e c.2))

/-- FLT_N low (R408, R409). -/
def State.fltLow (s : State) : Bool :=
  s.dev != .run || s.flag F.FLT_CTRL_ASSERT || s.flt.fltMin ||
    (match s.get F.FLT_CTRL_MODE with
      | 1 => s.flt.fltHeld
      | 2 => (List.range 64).any fun e => !sourceAbsent s.part e && s.levelHolds e
      | _ => false)

/-! ### EVT pins (R406, R414, R432) -/

/-- Mode of pin `m`. -/
def State.evtMode (s : State) (m : Nat) : Nat := s.get ⟨Reg.addr .EVT_CTRL, 4 * m, 2⟩

/-- Pin `m` active: outside RUN, and while BP1 is FAILED or under test, it is inactive. -/
def State.evtActive (s : State) (m : Nat) : Bool :=
  s.dev == .run && s.works 1 &&
    (match s.evtMode m with
      | 0 => (List.range 64).any fun e => s.bit (F.ROUTE_EVT e) m && s.srcPresent e
      | 1 => (List.range 64).any fun e => s.bit (F.ROUTE_EVT e) m && s.latched e
      | 2 => bitAt s.flt.evtPulse m
      | _ => false)

/-- The four pins as a mask. -/
def State.evtMask (s : State) : Nat := maskOf ((List.range 4).filter s.evtActive)

/-! ### The signal line (R229, R411) -/

/-- The device pulls SIGNAL_N. -/
def State.sigPull (s : State) : Bool := s.get F.SIG_STAT_BY != 0

/-- SIGNAL_N at the ball: high where no device pulls. -/
def State.sigLevel (s : State) : Bool := s.flt.sigHigh && !s.sigPull

/-! ### Rail states (R277) -/

/-- STATE of RAILn_CTRL: OFF. -/
def rsOff : Nat := 0
/-- WAITING. -/
def rsWaiting : Nat := 1
/-- ON_DELAY. -/
def rsOnDelay : Nat := 2
/-- RAMP_UP. -/
def rsRampUp : Nat := 3
/-- ON. -/
def rsOn : Nat := 4
/-- MOVING. -/
def rsMoving : Nat := 5
/-- OFF_DELAY. -/
def rsOffDelay : Nat := 6
/-- RAMP_DOWN. -/
def rsRampDown : Nat := 7
/-- FALLING. -/
def rsFalling : Nat := 8

/-- The names by which a reply reports the rail states, by value (R295). -/
def rsName (n : Nat) : String :=
  ["OFF", "WAITING", "ONDELAY", "RAMPUP", "ON", "MOVING", "OFFDELAY", "RAMPDOWN", "FALLING"].getD n "?"

/-- STATE of rail `r`. -/
def State.rs (s : State) (r : Nat) : Nat := s.get (F.RAIL_CTRL_STATE r)

/-- STATE of rail `r` stored. -/
def State.setRs (s : State) (r v : Nat) : State := s.set (F.RAIL_CTRL_STATE r) v

end Sys2Proof.Machine
end

