-- ==== Sys2Proof/Machine/Outcome.lean ====
section
/-! DEFINITION. What every command ends with: the trackers that follow from the state alone (the hold of R66, the Freight
periods of R88, the calibrations in use of R78), and the device states in which a command acts. -/

namespace Sys2Proof.Machine

/-- `v` lies from `lo` to `hi`. -/
def within (lo hi v : Nat) : Bool := lo ≤ v && v ≤ hi

/-! ### The hold before standby (R66) -/

/-- Sheets claimed (R181). -/
def State.claims (s : State) : Nat := s.get F.GAUGE_RA_CLAIMS

/-- The standby conditions of R66. -/
def State.standbyOk (s : State) : Bool :=
  !s.flag F.SYS_VCORE_HOLD_RUN && ([0, 1, 2, 3, 4].all fun r => s.rs r == rsOff) && s.claims == 0 && s.tt.run.isNone &&
    !s.flag F.BIST_SUM_RUNNING && (List.range s.part.heads).all fun h => s.get (F.LINE_LSTAT_STATE h) != 3

/-- Since when the conditions have held at RUN_LVL. -/
def State.holdStandby (s : State) : Option Nat :=
  if s.dev = .run ∧ s.core.stby = false ∧ s.standbyOk = true then some (s.core.stbyAt.getD s.ticks) else none

/-! ### Consumers of the rod (R78) -/

/-- The consumers of the calibration with a timed edge outstanding: PH0 to PH15, the bridge at 16, HEAD1 to HEAD4 from 17,
their light-gate pulses from 21 (R78). -/
def State.rodBusy (s : State) : List Nat :=
  ((List.range 16).filter fun n => (s.ph n).on) ++ (if within 2 4 (s.get F.BR_STATUS_MODE) then [16] else []) ++
    ((List.range 4).filter fun h => (s.head h).cur.isSome || !(s.head h).fixed.isEmpty).map (17 + ·) ++
    ((List.range 4).filter fun h => match (s.head h).lg with | some l => l.running | none => false).map (21 + ·)

/-- The generations in use: a consumer with no edge outstanding has adopted the newest (R78). -/
def State.rodGens (s : State) : Tab (Option Nat) := let busy := s.rodBusy; s.core.gens.filter fun x => busy.contains x.1

/-- The age of the oldest generation in use (R81). -/
def State.rodAge (s : State) : Nat :=
  s.rodGens.foldl (fun a x => match x.2 with | some g => max a ((s.get F.SYS_TIMEBASE_ROD_GEN + 256 - g) % 256) | none => a) 0

/-- ROD_OLDEST (R81). -/
def State.rodOldest (s : State) : Nat := (s.get F.SYS_TIMEBASE_ROD_GEN + 256 - s.rodAge) % 256

/-! ### Freight periods (R87, R88) -/

/-- Nominal period of a job in ticks; none for the two that have no period (R87). -/
def jobPeriod (j : Nat) : Option Nat :=
  match j with
  | 0 => some 65536 | 1 => some 131072 | 2 => some 262144 | 3 => some 64 | 4 => some 524 | 5 => some 32768
  | 7 => some 2831155200 | 9 => some 256 | _ => none

/-- The heads or phases that have a period of their own of a job; 0 where the job has one for the device (R87). -/
def jobUnits (p : Part) (j : Nat) : List Nat :=
  if j = 1 ∨ j = 2 ∨ j = 5 then List.range p.heads else if j = 4 then List.range p.phases else [0]

/-- The store's controller has work in hand (R87: NV_WEAR). -/
def State.storeWork (s : State) : Bool :=
  s.store.job.isSome || s.store.save.isSome || s.tt.commit.isSome || !s.store.refresh.isEmpty || !s.flt.logQ.isEmpty

/-- A job's condition for one of its heads or phases (R87). The gaps between lines come while a link is UP, and a phase's
off-times come always, since a tri-stated phase is in one (R260). "Rod running" is taken as ACQUIRING, LOCKED or TRACKING: in
HOLDOVER no window is measured (R79), so that CAL_DELAY waits (DEDUCED, assumption 51). -/
def State.jobCond (s : State) (j i : Nat) : Bool :=
  s.dev == .run &&
    match j with
    | 1 => (s.head i).attached
    | 2 | 5 => s.get (F.LINE_LSTAT_STATE i) == 3
    | 3 => within 1 3 (s.get F.SYS_TIMEBASE_ROD_STATE)
    | 6 => s.storeWork
    | 7 => s.flag F.NV_CTRL_SCRUB_EN
    | 8 => s.get F.BR_STATUS_MODE == 2
    | _ => true

/-- The partition that serves a job for one of its heads or phases (R87, R424). -/
def State.jobBp (s : State) (j i : Nat) : Nat :=
  match j with
  | 1 | 2 | 5 => headBp i
  | 4 => s.phBp i
  | 6 | 7 => 9
  | 8 => 6
  | _ => 0

/-- A Freight job of one head or phase. -/
def State.job (s : State) (j i : Nat) : JobX := Tab.get (fun _ => {}) s.core.jobs (32 * j + i)

/-- What a command's end leaves of a period: it stands still while the partition is under test (R436), ends with the condition
or a failure, and begins with the condition (R88). -/
def State.jobNow (s : State) (j i : Nat) : JobX :=
  let x := s.job j i
  let bp := s.jobBp j i
  if s.underTest bp then { x with paused := some (x.paused.getD s.ticks) }
  else
    let x := match x.paused with | some p => { x with paused := none, since := x.since.map (· + (s.ticks - p)) } | none => x
    if s.jobCond j i && !s.failed bp then { x with since := some (x.since.getD s.ticks) } else { x with since := none, late := false }

/-- Every period as a command's end leaves it. -/
def State.jobsNow (s : State) : Tab JobX :=
  (List.range 10).foldl (fun t j =>
    (jobUnits s.part j).foldl (fun t i => Tab.put (fun _ => {}) t (32 * j + i) (s.jobNow j i)) t) s.core.jobs

/-! ### A timetable step to be granted (R208) -/

/-- Word `k` of the RAM copy of the timetable area, erased where not written (R456). -/
def State.ttWord (s : State) (k : Nat) : Word := Tab.get (fun _ => 0xFFFFFFFF#32) s.tt.ram k

/-- The word of step `k` of TTn. -/
def State.ttStepWord (s : State) (n k : Nat) : Word := s.ttWord (s.get (F.TT_DIR_START n) + 1 + k)

/-- The opcode of a step (R199). -/
def stepOp (w : Word) : Nat := bitsOf w 28 4

/-- A step that writes a setting, an ENABLE, a DISABLE or a MARGIN, is ready: it is granted ahead of every line not yet
granted, unless it waits for its partition's test (R208). -/
def State.stepWaits (s : State) : Bool :=
  match s.tt.run with
  | some r =>
    let w := s.ttStepWord r.tt r.step
    let t := bitsOf w 24 4
    r.wait == .ready && !s.failed 2 && [0, 1, 5].contains (stepOp w) &&
      !((s.part.hasRail t && s.underTest (railBp t)) || (t == 6 && s.underTest 4))
  | none => false

/-! ### The end of a command -/

/-- NL_BURST of rail `r` stands while the last 1,024 ticks hold 16 responses (R287, R292). -/
def State.bursts (s : State) (r : Nat) : Bool := decide (16 ≤ ((s.rail r).respAt.filter fun t => s.ticks < t + 1024).length)

/-- The PRESENT causes that still stand: NL_BURST, EV0 to EV5 cause 3, ends with the time that has passed. -/
def State.presentNow (s : State) : List (Nat × Nat × Nat) :=
  s.flt.present.filter fun x => !(decide (x.1 < 6) && x.2.1 == 3) || s.bursts x.1

/-- The trackers at the end of a command; no register and no unit changes. -/
def State.settle (s : State) : State :=
  { s with core := { s.core with stbyAt := s.holdStandby, gens := s.rodGens, jobs := s.jobsNow },
           flt := { s.flt with present := s.presentNow } }

/-- A line waits for the Junction's next grant, which BP1 gives, or a timetable step that comes ahead of it (R83, R208, R414,
R432). -/
def State.lineWaits (s : State) : Bool :=
  decide (s.dev = .run) && (s.stepWaits || (s.works 1 && !(s.released.isEmpty && s.queue.isEmpty)))

/-! ### What each meaning may change

The part, the silicon revision and the queue of waiting commands are no command's to change. -/

/-- `t` settled, with the part, the revision and the queue of `s`. -/
def State.commit (s t : State) : State := { t with part := s.part, rev := s.rev, pending := s.pending }.settle

/-- What a meaning answers. -/
abbrev Out := Host.Outcome State Fault Refusal

/-- The command acts in every device state. -/
def always (s : State) (f : State → State) : Out := .next (s.commit (f s))

/-- `t` with the device state of `s` kept at BUFFER-STOP, which only a power cycle leaves (R8). -/
def State.stay (s t : State) : State := if s.dev = .bufferStop then { t with dev := .bufferStop } else t

/-- The command acts in every device state and is no power cycle: it leaves BUFFER-STOP as it finds it (R8). -/
def anyDev (s : State) (f : State → State) : Out := .next (s.commit (s.stay (f s)))

/-- The command acts outside BUFFER-STOP only. -/
def live (s : State) (f : State → State) : Out := .next (s.commit (if s.dev = .bufferStop then s else f s))

/-- The command acts in RUN only. -/
def inRun (s : State) (f : State → State) : Out := .next (s.commit (if s.dev = .run then f s else s))

/-- The command is Freight work (R83): in RUN it is granted where no line waits for a grant, or once seven lines have been
granted since the last Freight grant; else it is not granted and has no effect (assumption 68). -/
def freight (s : State) (f : State → State) : Out :=
  inRun s fun s =>
    if !s.lineWaits ∨ 7 ≤ s.core.passRun then f { s with core := { s.core with passRun := 0 } } else s

end Sys2Proof.Machine
end

