-- ==== Sys2Proof/Machine/RegCheck.lean ====
section
/-! DEFINITION. What a register word must satisfy: the ranges and combinations of the register tables, and the changes
that the device refuses in its present state. A write that breaks one leaves the register unchanged (R70, R110, R135,
R164, R190, R236, R269, R293, R318, R350, R388, R417, R438, R462). -/

namespace Sys2Proof.Machine

/-! ### Dependencies of rails (R213) -/

/-- The DEPENDS field of rail `r`. -/
def depField (r : Nat) : Field :=
  if r < 4 then ⟨Reg.addr .TT_DEP_LO, 8 * r, 6⟩ else ⟨Reg.addr .TT_DEP_HI, 8 * (r - 4), 6⟩

/-- The rails that rail `r` names in its DEPENDS mask. -/
def State.deps (s : State) (r : Nat) : List Nat := (bitsSet (s.get (depField r)) 6).filter s.part.hasRail

/-- The rails reached from those of a mask in at most `n` further steps. -/
def State.depsIn (s : State) : Nat → Nat → Nat
  | 0, m => m
  | n + 1, m => State.depsIn s n (Nat.lor m (maskOf ((bitsSet m 6).map s.deps).flatten))

/-- Every rail that `r` depends on, directly or through others, as a mask. -/
def State.depsAll (s : State) (r : Nat) : Nat := s.depsIn 6 (maskOf (s.deps r))

/-- Every rail that depends on `r`, directly or through others. -/
def State.dependents (s : State) (r : Nat) : List Nat := s.part.railList.filter fun q => bitAt (s.depsAll q) r

/-- No rail depends on itself. -/
def State.noCycle (s : State) : Bool := s.part.railList.all fun r => !bitAt (s.depsAll r) r

/-! ### Voltages and frequencies -/

/-- V_SETM of rail `r` in mV (R274). -/
def State.vSetm (s : State) (r : Nat) : Int :=
  roundDiv (s.get (F.RAIL_TARGET_TARGET r) * (1000 + s.sget (F.RAIL_TARGET_MARGIN r))) 1000

/-- V_SETM lies within R275. -/
def State.vSetmOk (s : State) (r : Nat) : Bool := decide (400 ≤ s.vSetm r ∧ s.vSetm r ≤ 5600)

/-- FULL_V in mV (R138). -/
def State.fullV (s : State) : Nat := s.get F.RES_CFG_CELLS * s.get F.RES_CFG_CELL_MAX * 5

/-- FLOOR_V against R138, in steps of 6.25 mV. -/
def State.floorOk (s : State) : Bool :=
  let f := s.get F.RES_CFG_FLOOR_V * 625
  decide (200000 ≤ f ∧ f + 200000 ≤ s.fullV * 100)

/-- The phases assigned to rail `r`. -/
def State.assigned (s : State) (r : Nat) : List Nat :=
  (List.range s.part.phases).filter fun n => s.get (F.PH_CTRL_RAIL n) == r

/-- A reference of `hz` gives rail `r` a cycle from 250 to 1,500 kHz, or the rail has no phase (R248). -/
def State.railFreqOk (s : State) (hz r : Nat) : Bool :=
  (s.assigned r).isEmpty || (let d := 2 ^ s.get (F.RAIL_SW_DIV r); decide (250000 * d ≤ hz ∧ hz ≤ 1500000 * d))

/-- A reference of `hz` suits every rail (R248). -/
def State.freqOk (s : State) (hz : Nat) : Bool := s.part.railList.all (s.railFreqOk hz)

/-- FREF in Hz, as the copy of partition `bp` has it (R247): FINT, or the frequency of SYNC_IN as last measured. -/
def State.fref (s : State) (bp : Nat) : Nat :=
  if (s.ref bp).src = 0 then s.get F.SYS_SYNC_FINT * 1000 else (s.ref bp).hold

/-- R248 for FINT and for the reference that each rail uses (R266). -/
def State.refOk (s : State) : Bool :=
  s.freqOk (s.get F.SYS_SYNC_FINT * 1000) && s.part.railList.all fun r => s.railFreqOk (s.fref (railBp r)) r

/-! ### Units a field may name -/

/-- A monitor input code: reserved codes and absent units (R95). -/
def Part.hasInput (p : Part) (i : Nat) : Bool :=
  if i < 6 then p.hasRail i else if i = 12 then p.hasHarv 1 else i < 24

/-- A blanking source (R106). -/
def Part.hasBlank (p : Part) (b : Nat) : Bool :=
  if b = 0 then true else if b ≤ 16 then b - 1 < p.phases else if b ≤ 20 then b - 17 < p.heads else b == 21

/-- Bits of absent units, which read 0 and ignore a 1 written (R473). -/
def Reg.ignored (p : Part) : Reg → Nat
  | .TT_DEP_LO => maskOf (((List.range 4).map fun r => (List.range 6).filterMap fun q =>
      if p.hasRail r && p.hasRail q then none else some (8 * r + q)).flatten)
  | .TT_DEP_HI => maskOf (((List.range 2).map fun r => (List.range 6).filterMap fun q =>
      if p.hasRail q then none else some (8 * r + q)).flatten)
  | .GAUGE_CFG => maskOf ((List.range 4).filterMap fun h => if h < p.heads then none else some (20 + h))
  | _ => 0

/-! ### Ranges -/

/-- Top and bottom of a harvest input's operating range, in codes (R113). -/
def harvRange (i : Nat) : Nat × Nat := [(80, 3200), (100, 4000), (12, 2000), (160, 3840)].getD i (0, 0)

/-- LO, HI and HYS of a monitor (R99). -/
def State.thrOk (s : State) (n : Nat) : Bool :=
  let lo := s.get (F.MON_THR_LO n)
  let hi := s.get (F.MON_THR_HI n)
  decide (lo < hi ∧ 2 * s.get (F.MON_THR_HYS n) ≤ hi - lo)

/-- The group offsets in use (R340). -/
def State.groupsOk (s : State) (h : Nat) : Bool :=
  let a := s.get (F.LINE_GROUP_GOFF1 h)
  let b := s.get (F.LINE_GROUP_GOFF2 h)
  let c := s.get (F.LINE_GROUP_GOFF3 h)
  match s.get (F.LINE_CTRL_NGRP h) with
  | 0 => true
  | 1 => within 12 244 a
  | _ => decide (12 ≤ a ∧ a + 12 ≤ b ∧ b + 12 ≤ c ∧ c ≤ 244)

/-- The word that register `r` holds in `s` satisfies its ranges and combinations. -/
def State.regOk (s : State) (r : Reg) : Bool :=
  match r with
  | .SYS_VCORE => within 80 100 (s.get F.SYS_VCORE_RUN_LVL) && within 45 80 (s.get F.SYS_VCORE_STBY_LVL)
  | .SYS_SYNC => within 250 3000 (s.get F.SYS_SYNC_FINT) && s.refOk
  | .ROUTE e => (bitsSet (s.get (F.ROUTE_AFFECT e)) 6).all s.part.hasRail
  | .FLT_CTRL => s.get F.FLT_CTRL_MODE != 3 && within 10 10000 (s.get F.FLT_CTRL_MIN)
  | .EVT_CTRL => (List.range 4).all fun m => s.evtMode m != 3
  | .SIG_CTRL => within 6 15 (s.get F.SIG_CTRL_STUCK_K)
  | .TT_CTRL => within 1 255 (s.get F.TT_CTRL_SIG_PULSE)
  | .TT_DEP_LO | .TT_DEP_HI => s.noCycle
  | .TT_PG n => within 10 250 (s.get (F.TT_PG_PG_LO n)) && within 10 250 (s.get (F.TT_PG_PG_HI n))
  | .RAIL_TARGET n =>
    within 400 5600 (s.get (F.RAIL_TARGET_TARGET n)) && within 0 400 (s.get (F.RAIL_TARGET_LOADLINE n)) &&
      decide (-100 ≤ s.sget (F.RAIL_TARGET_MARGIN n) ∧ s.sget (F.RAIL_TARGET_MARGIN n) ≤ 100) && s.vSetmOk n
  | .RAIL_RAMP n =>
    s.get (F.RAIL_RAMP_ON_SLEW n) != 0 && s.get (F.RAIL_RAMP_OFF_SLEW n) != 0 && s.get (F.RAIL_RAMP_MOVE_SLEW n) != 0
  | .RAIL_NL n => within 1 63 (s.get (F.RAIL_NL_NL_THR n)) && within 40 2000 (s.get (F.RAIL_NL_NL_MAXON n))
  | .RAIL_ANT n => s.get (F.RAIL_ANT_LPH n) != 0 && (!s.flag (F.RAIL_ANT_ANT_EN n) || n < s.part.heads)
  | .RAIL_SW n =>
    within 4 63 (s.get (F.RAIL_SW_RIPPLE n)) && within 40 200 (s.get (F.RAIL_SW_MIN_OFF n)) &&
      within 200 1000 (s.get (F.RAIL_SW_ISGAIN n)) && s.refOk
  | .RAIL_BAL n =>
    s.get (F.RAIL_BAL_MODE n) != 3 && within 0 120 (s.get (F.RAIL_BAL_LIM n)) && s.get (F.RAIL_BAL_DB n) != 0
  | .RAIL_LIGHT n =>
    s.get (F.RAIL_LIGHT_SHED_I n) != 0 && s.get (F.RAIL_LIGHT_ADD_I n) != 0 &&
      decide (s.get (F.RAIL_LIGHT_SHED_I n) * 5 ≤ s.get (F.RAIL_LIGHT_ADD_I n) * 4)
  | .RAIL_LIMIT n =>
    within 10 4000 (s.get (F.RAIL_LIMIT_LIMIT n)) && s.get (F.RAIL_LIMIT_HICCUP_N n) != 0 &&
      s.get (F.RAIL_LIMIT_HICCUP_T n) != 0
  | .RAIL_PROT n =>
    within 1 2000 (s.get (F.RAIL_PROT_OVL_T n)) && within 2 20 (s.get (F.RAIL_PROT_OV_PCT n)) &&
      within 40 140 (s.get (F.RAIL_PROT_OT_WARN n)) && within 60 145 (s.get (F.RAIL_PROT_OT_SHUT n)) &&
      decide (s.get (F.RAIL_PROT_OT_WARN n) + 5 ≤ s.get (F.RAIL_PROT_OT_SHUT n))
  | .PH_CTRL n =>
    let q := s.get (F.PH_CTRL_RAIL n)
    (q == 7 || s.part.hasRail q) && decide ((s.assigned q).length ≤ 8 ∨ q = 7) && s.refOk
  | .PH_TRIM n =>
    let q := s.get (F.PH_CTRL_RAIL n)
    decide (6 ≤ q ∨ (s.sget (F.PH_TRIM_MANUAL n)).natAbs ≤ s.get (F.RAIL_BAL_LIM q))
  | .MON_CTRL n =>
    let i := s.get (F.MON_CTRL_INPUT n)
    s.part.hasInput i && within 6 12 (s.get (F.MON_CTRL_RES n)) && (i != 8 || s.flag (F.MON_CTRL_MODE n))
  | .MON_THR n => s.thrOk n
  | .MON_TIME n => within 0 14 (s.get (F.MON_TIME_RUN_PER n)) && s.part.hasBlank (s.get (F.MON_TIME_BLANK_SRC n))
  | .HARV_CTRL i =>
    let m := s.get (F.HARV_CTRL_MODE i)
    m != 3 && !(i == 3 && m == 1) && within 30 80 (s.get (F.HARV_CTRL_FRAC i)) &&
      within 0 6 (s.get (F.HARV_CTRL_PERIOD i)) && within 0 10 (s.get (F.HARV_CTRL_DWELL i)) &&
      within (harvRange i).1 (harvRange i).2 (s.get (F.HARV_CTRL_HOLDV i))
  | .HARV_LIM i =>
    within (harvRange i).1 (harvRange i).2 (s.get (F.HARV_LIM_VMIN i)) &&
      within (harvRange i).1 (harvRange i).2 (s.get (F.HARV_LIM_VMAX i))
  | .HARV_KA =>
    let on := s.get F.HARV_KA_RES_ON
    let off := s.get F.HARV_KA_RES_OFF
    let toff := s.get F.HARV_KA_TRICKLE_OFF
    let ton := s.get F.HARV_KA_TRICKLE_ON
    within 80 120 on && decide (off ≤ 160) && within 200 215 toff && decide (ton ≤ 216) &&
      decide (on + 8 ≤ off ∧ off < toff ∧ toff < ton)
  | .HARV_START => within 120 216 (s.get F.HARV_START_CORE_START)
  | .RES_CFG =>
    within 2 8 (s.get F.RES_CFG_CELLS) && within 400 600 (s.get F.RES_CFG_CELL_MAX) && decide (s.fullV ≤ 20000) && s.floorOk
  | .RES_BAL => within 400 600 (s.get F.RES_BAL_BAL_START) && within 1 20 (s.get F.RES_BAL_BAL_DELTA)
  | .BR_CTRL =>
    within 5 120 (s.get F.BR_CTRL_CHG_P) && within 10 240 (s.get F.BR_CTRL_SUP_P) && within 10 240 (s.get F.BR_CTRL_ABS_P)
  | .BR_SET => within 1600 1920 (s.get F.BR_SET_SUP_V) && within 1960 2240 (s.get F.BR_SET_ABS_V)
  | .BR_LIM =>
    within 20 200 (s.get F.BR_LIM_ILIM) && within 5 150 (s.get F.BR_LIM_CHG_I) && within 4 20 (s.get F.BR_LIM_FREQ)
  | .RELAY_CTRL => s.get F.RELAY_CTRL_WIDTH != 0 && within 0 7 (s.get F.RELAY_CTRL_MAINS_WAIT)
  | .GAUGE_BUDGET => within 100 20000 (s.get F.GAUGE_BUDGET_BUDGET)
  | .GAUGE_CFG =>
    within 1 30 (s.get F.GAUGE_CFG_PAGE_T) && within 70 100 (s.get F.GAUGE_CFG_ETA) && s.get F.GAUGE_CFG_LEARN_N != 0
  | .GAUGE_CAP => within 100 65535 (s.get F.GAUGE_CAP_CAP_NOM)
  | .LINE_CTRL h =>
    within 8 64 (s.get (F.LINE_CTRL_CPL h)) && s.get (F.LINE_CTRL_NGRP h) != 3 &&
      s.get (F.LINE_CTRL_RETRY_MAX h) != 0 && s.groupsOk h
  | .LINE_GROUP h => s.groupsOk h
  | .HEAD_CTRL h =>
    within 500 1500 (s.get (F.HEAD_CTRL_GAIN h)) && within 1 250 (s.get (F.HEAD_CTRL_W_MIN h)) &&
      within 10 100 (s.get (F.HEAD_CTRL_PRIME_W h))
  | .HEAD_TCOR h => within 500 1000 (s.get (F.HEAD_TCOR_TCOR_MIN h)) && within 1000 2000 (s.get (F.HEAD_TCOR_TCOR_MAX h))
  | .HEAD_TEMP h =>
    let a := s.get (F.HEAD_TEMP_T_WARN h)
    let b := s.get (F.HEAD_TEMP_T_LIMIT h)
    let c := s.get (F.HEAD_TEMP_T_SHUT h)
    within 20 120 a && within 20 120 b && within 20 120 c && s.get (F.HEAD_TEMP_T_HYS h) != 0 && decide (a < b ∧ b < c)
  | .HEAD_FB h => s.get (F.HEAD_FB_FB_LIMIT h) != 0 && within 5 255 (s.get (F.HEAD_FB_VDIFF h))
  | .HEAD_LG h =>
    within 0 25 (s.get (F.HEAD_LG_HIDE_MAX h)) && within 30 95 (s.get (F.HEAD_LG_WEAK_PCT h)) &&
      within 5 50 (s.get (F.HEAD_LG_DEAD_PCT h)) && within 0 64 (s.get (F.HEAD_LG_DEAD_MAX h)) &&
      decide (s.get (F.HEAD_LG_DEAD_PCT h) < s.get (F.HEAD_LG_WEAK_PCT h))
  | .HEAD_LGT h => within 25 2000 (s.get (F.HEAD_LGT_TW h)) && within 16 255 (s.get (F.HEAD_LGT_TPER h))
  | .BIST_CTRL => within 0 9 (s.get F.BIST_CTRL_SEL)
  | .NV_CTRL => s.get F.NV_CTRL_WEAR_T != 0
  | _ => true

/-! ### Changes refused in the present state -/

/-- Rail `r` is on: it switches, from RAMP_UP to RAMP_DOWN (R277; assumption 11). -/
def State.railOn (s : State) (r : Nat) : Bool := within rsRampUp rsRampDown (s.rs r)

/-- Rail `r` is enabled. -/
def State.enabled (s : State) (r : Nat) : Bool := s.flag (F.RAIL_CTRL_EN r)

/-- EN=OFF or SUPPORT=OFF of the bridge is refused (R166): in SUPPORT, with a sheet claimed, or with rail A on and the
relay not CLOSED. -/
def State.bridgeKeeps (s : State) : Bool :=
  s.get F.BR_STATUS_MODE == 4 || 0 < s.get F.GAUGE_RA_CLAIMS || (s.railOn 5 && s.get F.RELAY_STATUS_STATE != 2)

/-- The field differs between two states. -/
def changed (s t : State) (f : Field) : Bool := s.get f != t.get f

/-- The change of register `r` from `s` to `t` is one that the device accepts in its present state. -/
def State.changeOk (s t : State) (r : Reg) : Bool :=
  match r with
  | .RES_CFG => !(changed s t F.RES_CFG_CELLS && within 2 4 (s.get F.BR_STATUS_MODE))
  | .BR_CTRL =>
    !(s.bridgeKeeps && ((s.flag F.BR_CTRL_EN && !t.flag F.BR_CTRL_EN) || (s.flag F.BR_CTRL_SUP_EN && !t.flag F.BR_CTRL_SUP_EN)))
  | .PH_CTRL n =>
    !changed s t (F.PH_CTRL_RAIL n) ||
      !(s.enabled (s.get (F.PH_CTRL_RAIL n)) || s.enabled (t.get (F.PH_CTRL_RAIL n)))
  | .RAIL_SW n => !s.enabled n || !(changed s t (F.RAIL_SW_DIV n) || changed s t (F.RAIL_SW_ISGAIN n))
  | .LINE_CTRL h =>
    !s.flag (F.LINE_CTRL_EN h) ||
      !(changed s t (F.LINE_CTRL_CPL h) || changed s t (F.LINE_CTRL_NGRP h) || changed s t (F.LINE_CTRL_DIR h))
  | .LINE_GROUP h => !s.flag (F.LINE_CTRL_EN h) || s.word (Reg.addr (.LINE_GROUP h)) == t.word (Reg.addr (.LINE_GROUP h))
  | .LINE_REG h =>
    !s.flag (F.LINE_CTRL_EN h) || decide ((t.sget (F.LINE_REG_REG h) - s.sget (F.LINE_REG_REG h)).natAbs ≤ 32)
  | _ => true

/-- The RW bits of register `r` taken from `w`, the others kept; bits of absent units stay 0 (R15, R16, R473). -/
def State.withWord (s : State) (r : Reg) (w : Word) : State :=
  let a := r.addr
  let m := maskMinus r.rw (r.ignored s.part)
  let keep := maskMinus (s.word a).toNat r.rw
  s.setWord a (BitVec.ofNat 32 (keep + Nat.land w.toNat m))

/-- The RW bits of a register written, none where the word breaks a rule. -/
def State.tryWord (s : State) (r : Reg) (w : Word) : Option State :=
  let t := s.withWord r w
  if t.regOk r && s.changeOk t r then some t else none

end Sys2Proof.Machine
end

