-- ==== Sys2Proof/Machine/TtOps.lean ====
section
/-! DEFINITION. The executor of timetables as the rest of the device sees it (08_timetables): the timetable area, the
running timetable, the pending slot, starts (R205, R206, R210), abandonment (R207) and the pulls of SIGNAL_N (R229). -/

namespace Sys2Proof.Machine

/-! ### CRC-16 (R197) -/

/-- One shift with polynomial 0x1021. -/
def crc16Shift (c : Nat) : Nat := if 32768 ≤ c then Nat.xor (c * 2 % 65536) 0x1021 else c * 2

/-- `n` shifts. -/
def crc16Shifts : Nat → Nat → Nat
  | 0, c => c
  | n + 1, c => crc16Shifts n (crc16Shift c)

/-- CRC-16 of bytes, from `c` on. -/
def crc16From (c : Nat) (bs : List Byte) : Nat := bs.foldl (fun c b => crc16Shifts 8 (Nat.xor c (b.toNat * 256))) c

/-- CRC-16 of bytes, with the initial value of R197. -/
def crc16 (bs : List Byte) : Nat := crc16From 0xFFFF bs

/-! ### The area (R196, R236) -/

/-- TTn is loaded and valid (R198). -/
def State.ttValid (s : State) (n : Nat) : Bool := s.flag (F.TT_DIR_VALID n)

/-! ### The running timetable and the pending slot -/

/-- The running timetable, with its fields of TT_STATUS. -/
def State.setRun (s : State) (r : Option TtRun) : State :=
  let s := { s with tt := { s.tt with run := r } }
  match r with
  | some x => ((s.set F.TT_STATUS_EXEC_TT x.tt).setFlag F.TT_STATUS_EXEC true).set F.TT_STATUS_STEP x.step
  | none => ((s.set F.TT_STATUS_EXEC_TT 0).setFlag F.TT_STATUS_EXEC false).set F.TT_STATUS_STEP 0

/-- The pending slot, with its fields of TT_STATUS. -/
def State.setPend (s : State) (r : Option TtPend) : State :=
  let s := { s with tt := { s.tt with pend := r } }
  match r with
  | some x => (s.set F.TT_STATUS_PEND_TT x.tt).setFlag F.TT_STATUS_PEND true
  | none => (s.set F.TT_STATUS_PEND_TT 0).setFlag F.TT_STATUS_PEND false

/-- What the running timetable waits for. -/
def State.ttWait (s : State) (w : TtWait) : State :=
  match s.tt.run with
  | some r => s.setRun (some { r with wait := w })
  | none => s

/-- The step in progress completes and the next may be taken. -/
def State.ttNext (s : State) : State :=
  match s.tt.run with
  | some r => s.setRun (some { r with step := r.step + 1, wait := .ready })
  | none => s

/-- TTn is the one that runs. -/
def State.ttRuns (s : State) (n : Nat) : Bool :=
  match s.tt.run with
  | some r => r.tt == n
  | none => false

/-! ### Events of the executor (R235) -/

/-- A number field, or NONE. -/
def numField (name : String) (n : Option Nat) : String := name ++ "=" ++ (match n with | some k => dec k | none => "NONE")

/-- An EV60 cause: TT first, then the fields that apply; `num` is the first numeric field where TT is NONE. -/
def State.raiseTt (s : State) (name : String) (tt : Option Nat) (fields : String := "") (num : Nat := 0) (key : Nat := 0) :
    State :=
  s.raise 60 name (numField "TT" tt ++ (if fields = "" then "" else " " ++ fields)) (some (tt.getD num)) key

/-- STEP of an event. -/
def stepField (k : Nat) : String := "STEP=" ++ dec k

/-- A list of rails in TGT order, or NONE. -/
def railList (rs : List Nat) : String := listOut (rs.map railName)

/-- EXIT in two hexadecimal digits. -/
def exitField (n : Nat) : String := "EXIT=0x" ++ hexText 2 n

/-! ### The signal line (R229) -/

/-- One reason to pull SIGNAL_N set or released: 0 TT4, 1 STEP, 2 STUCK_HIGH. -/
def State.sigBy (s : State) (k : Nat) (b : Bool) : State := s.setBit F.SIG_STAT_BY k b

/-! ### Ends and starts -/

/-- The relay requests of the timetable that ends go on as nobody's step (R207). -/
def State.relayOrphan (s : State) : State :=
  let drop (r : RelayReq) : RelayReq := if r.why = .step then { r with why := .past } else r
  { s with relay := { s.relay with wait := s.relay.wait.map drop, run := s.relay.run.map fun x => (drop x.1, x.2) } }

/-- The running timetable ends: its pulls are released (R209, R229). -/
def State.ttEnd (s : State) : State := (((s.sigBy 0 false).sigBy 1 false).setRun none).relayOrphan

/-- The running timetable is abandoned (R207). A fall procedure of it goes on in the background. -/
def State.ttAbandon (s : State) (who : String) : State :=
  match s.tt.run with
  | some r =>
    ((s.setBit F.TT_VALID_ABANDONED r.tt true).ttEnd).raiseTt "ABANDONED" (some r.tt) (stepField r.step ++ " BY=" ++ who)
  | none => s

/-- The pending slot emptied; a line that waits for its start is answered (R233). -/
def State.ttUnpend (s : State) (reason : String) : State :=
  match s.tt.pend with
  | some x => (s.setPend none).doneOpt x.owed (s.finNo 22 "REFUSED" reason)
  | none => s

/-- Every shed bit cleared (R216). -/
def State.clearShed (s : State) : State := (s.set F.TT_STATUS_SHED 0).clear 60 "SHED"

/-- SRC of a START event (R235). -/
def srcText : StartSrc → String
  | .boot => "BOOT"
  | .cmd => "CMD"
  | .reg => "REG"
  | .junction => "JUNCTION"
  | .fault => "FAULT"
  | .signal => "SIGNAL"

/-- The kind of the present closure, with the TOPUP bit. -/
def State.setClosure (s : State) (c : Closure) : State :=
  { s with relay := { s.relay with closure := c } }.setFlag F.RELAY_STATUS_TOPUP (decide (c = Closure.topup))

/-- A top-up closure becomes an ordinary one (R156). -/
def State.ordinary (s : State) : State := if s.relay.closure = .topup then s.setClosure .normal else s

/-- TTn starts from its first step: LAST_FAIL 0 (R209); TT0 and TT3 clear the shed bits (R216); a TT4 of the device's own
DANGER fault pulls SIGNAL_N until it ends (R229); a top-up closure becomes ordinary at TT3 (R156). -/
def State.ttBegin (s : State) (n : Nat) (src : StartSrc) : State :=
  let s := (s.setRun (some { tt := n, danger := src == .fault })).setFlag F.TT_STATUS_LAST_FAIL false
  let s := if n = 0 ∨ n = 3 then s.clearShed else s
  let s := if n = 3 then s.ordinary else s
  let s := if n = 4 ∧ src = .fault then s.sigBy 0 true else s
  s.raiseTt "START" (some n) ("SRC=" ++ srcText src)

/-- TT4 can start (R403). -/
def State.tt4Ok (s : State) : Bool := s.ttValid 4 && !s.failed 2

/-- A start request (R205, R206, R210): `owed` is the line that its start answers. -/
def State.ttRequest (s : State) (n : Nat) (src : StartSrc) (owed : Option Owed := none) : State :=
  if s.failed 2 then s.raiseTt "START_FAILED" (some n)
  else if s.ttRuns 4 then s.raiseTt "IGNORED" (some n)
  else if !s.ttValid n then s
  else if n = 4 then ((s.ttAbandon "TT4").ttUnpend "FAULT").ttBegin 4 src
  else match s.tt.run with
  | none => s.ttBegin n src
  | some _ =>
    let s := match s.tt.pend with
      | some x => (s.ttUnpend "REPLACED").raiseTt "PEND_REPLACED" (some x.tt)
      | none => s
    s.setPend (some { tt := n, src := src, owed := owed })

/-- Class and effect of a failed CHECK or a timed-out WAIT (R219), the shedding of ACT SHED apart: LAST_FAIL, the event
with RAIL and MASK where they apply, then the next step, the end, or the hold. An ABORT carries its EXIT (assumption 12). -/
def State.ttFail (s : State) (name : String) (act : Nat) (rail mask : String := "") : State :=
  match s.tt.run with
  | none => s
  | some r =>
    let cls := match act with | 0 => Cls.notice | 3 => .danger | _ => .caution
    let text := joinWith " " ([numField "TT" (some r.tt), stepField r.step, rail, if act = 2 then exitField 0xFF else "",
      mask].filter (· != ""))
    let s := (s.setFlag F.TT_STATUS_LAST_FAIL true).raiseAs 60 name cls false text (some r.tt)
    match act with
    | 2 => s.ttEnd
    | 3 => s.ttWait .held
    | _ => s.ttNext

end Sys2Proof.Machine
end

