-- ==== Sys2Proof/Machine/RailOps.lean ====
section
/-! DEFINITION. Rails as one unit drives another: phases and rotation (R240, R256), the reference and the currents (R257,
R274, R298), the rod they need (R77), turning on and off (R278 to R281), moves (R282 to R284), the fall procedure (R224 to
R226), shedding (R215, R216) and taking down (R307). -/

namespace Sys2Proof.Machine

/-! ### Blanking (R106) -/

/-- An edge of a blanking source opens the windows that it names. -/
def State.openBlank (s : State) (code : Nat) : State :=
  (List.range s.part.mons).foldl (fun s n =>
    if s.flag (F.MON_CTRL_EN n) ∧ s.get (F.MON_TIME_BLANK_SRC n) = code ∧ s.get (F.MON_TIME_BLANK_W n) ≠ 0
    then s.modMon n fun x => { x with blank := true } else s) s

/-! ### The rod (R77) -/

/-- A phase channel, the bridge or line timing requires the rod: a rail enabled or not OFF, the bridge in CHARGE, ABSORB
or SUPPORT, line timing enabled (assumption 13). -/
def State.rodNeeded (s : State) : Bool :=
  ((List.range 6).any fun r => s.enabled r || s.rs r != rsOff) || within 2 4 (s.get F.BR_STATUS_MODE) ||
    (List.range s.part.heads).any fun h => s.flag (F.LINE_CTRL_EN h)

/-- The rod started from STOPPED, or stopped. -/
def State.rodCheck (s : State) : State :=
  if s.rodNeeded then
    if s.get F.SYS_TIMEBASE_ROD_STATE = 0 then
      { s.set F.SYS_TIMEBASE_ROD_STATE 1 with core := { s.core with coarseN := 0, outRun := 0, winAt := some s.ticks } }
    else s
  else if s.get F.SYS_TIMEBASE_ROD_STATE = 0 then s
  else s.set F.SYS_TIMEBASE_ROD_STATE 0

/-! ### Settings in force until the rail's next trigger -/

/-- A field as the rail uses it: the old word up to the next trigger (R272, R276, R298). -/
def State.inUse (s : State) (r : Nat) (f : Field) : Nat :=
  bitsOf ((Tab.get (fun _ => none) (s.rail r).use f.addr).getD (s.word f.addr)) f.lo f.width

/-- A write of a rail's register from `s` to `t`: while the rail switches, the old word stays in force for the settings
that wait for a trigger (assumption 14). -/
def State.keepUse (s t : State) (r a : Nat) : State :=
  if s.railOn r ∧ s.word a ≠ t.word a then
    match Tab.get (fun _ => none) (t.rail r).use a with
    | some _ => t
    | none => t.modRail r fun x => { x with use := Tab.put (fun _ => none) x.use a (some (s.word a)) }
  else t

/-! ### Phases and rotation -/

/-- STATE of phase `n` (R240): 0 OFF, 1 ACTIVE, 2 IDLE, 3 FOLLOWER, 4 SHED. -/
def State.phState (s : State) (n : Nat) : Nat := s.get (F.PH_STATUS_STATE n)

/-- The phases of rail `r` in one of some states, in ascending number. -/
def State.phasesIn (s : State) (r : Nat) (states : List Nat) : List Nat :=
  (s.assigned r).filter fun n => states.contains (s.phState n)

/-- The rotation set of rail `r` (R240). -/
def State.rotation (s : State) (r : Nat) : List Nat := s.phasesIn r [1, 3]

/-- Ranks, NACT and LIGHT after a change of the rotation set (R245, R256). -/
def State.renumber (s : State) (r : Nat) : State :=
  let rot := s.rotation r
  let s := (s.assigned r).foldl (fun s n => s.set (F.PH_STATUS_RANK n) ((rot.findIdx? (· == n)).getD 0)) s
  (s.set (F.RAIL_LOCK_NACT r) rot.length).setFlag (F.RAIL_LOCK_LIGHT r) (!(s.phasesIn r [2]).isEmpty)

/-- The on-time of a phase in progress ends, the PWM left low or tri-stated: an edge of the phase (R106). -/
def State.cutOn (s : State) (n : Nat) (tri : Bool) : State :=
  let was := (s.ph n).on
  let s := s.modPh n fun x => { x with on := false, tri := tri, resp := false, cont := false, minOk := false }
  if was then s.openBlank (1 + n) else s

/-- A phase's PWM tri-stated, its on-time ended. -/
def State.triPhase (s : State) (n : Nat) : State := (s.cutOn n true).modPh n fun x => { x with sink := false }

/-- The phases of a rail being enabled become ACTIVE, but for those kept SHED (R240). -/
def State.startPhases (s : State) (r : Nat) : State :=
  ((s.assigned r).foldl (fun s n => if s.phState n = 4 then s else s.set (F.PH_STATUS_STATE n) 1) s).renumber r

/-- A phase judged SENSE_FAIL leaves its rail: SHED, with PHASE_SHED (R313). -/
def State.shedFollower (s : State) (n : Nat) (iforce : String) : State :=
  ((s.set (F.PH_STATUS_STATE n) 4).setFlag (F.PH_PROT_SHED_PEND n) false).raise (6 + s.get (F.PH_CTRL_RAIL n)) "PHASE_SHED"
    ("PHASE=" ++ phName n ++ " " ++ iforce) none

/-! ### Currents and references (R257, R274, R298) -/

/-- The rail current in 10 mA: ACTIVE phases, a FOLLOWER as their mean, IDLE and SHED as 0 (R257). -/
def State.iRail (s : State) (r : Nat) : Int :=
  let act := s.phasesIn r [1]
  let sum := (act.map fun n => s.sget (F.PH_ISNS_I n)).sum
  if act.isEmpty then 0 else roundDiv (sum * (s.rotation r).length) act.length

/-- V_REF in 0.1 µV (R274): V_CMD less the load line at the rail current, never below 0. -/
def State.vRefU (s : State) (r : Nat) : Nat :=
  ((s.get (F.RAIL_STATUS_VCMD r) : Int) * 10000 - (s.inUse r (F.RAIL_TARGET_LOADLINE r) : Int) * s.iRail r).toNat

/-- I_PH as a ratio in mA: the lower of LIMIT / N_ASG and two thirds of 523 mV / ISGAIN (R298). -/
def State.iPh (s : State) (r : Nat) : Nat × Nat :=
  let n := (s.assigned r).length
  let lim := s.inUse r (F.RAIL_LIMIT_LIMIT r) * 100
  let g := s.get (F.RAIL_SW_ISGAIN r)
  if n = 0 then (0, 1)
  else if g = 0 ∨ lim * (3 * g) ≤ 104600000 * n then (lim, n) else (104600000, 3 * g)

/-- I_FORCE in 0.1 A, saturating at 4,095 (R298, R318). -/
def State.iForce (s : State) (r : Nat) : Nat :=
  let (a, b) := s.iPh r
  satNat 4095 (roundNat (a * ((s.assigned r).length - (s.phasesIn r [4]).length)) (b * 100))

/-- I_FORCE with one phase fewer, as the events of a lost phase carry it (R314, R317). -/
def State.iForceLess (s : State) (r : Nat) : String :=
  let (a, b) := s.iPh r
  "IFORCE=" ++ aOut s.compat (satNat 4095 (roundNat (a * ((s.assigned r).length - (s.phasesIn r [4]).length - 1)) (b * 100)) * 100)

/-- OFF_V of rail `r` in whole millivolts (R280). -/
def State.offV (s : State) (r : Nat) : Nat := s.get (F.TT_PG_OFF_V r) * 3 / 2

/-! ### A move superseded (R222, R283) -/

/-- A move or ramp up that owes TARGET_REACHED is superseded: one log record, and a MARGIN step that waits for it
completes. -/
def State.supersede (s : State) (r : Nat) : State :=
  if !s.flag (F.RAIL_CTRL_TR_PEND r) then s
  else
    let s := (s.setFlag (F.RAIL_CTRL_TR_PEND r) false).raise r "SUPERSEDED"
    match s.tt.run with
    | some x =>
      if x.wait = .margin r then
        (s.raiseTt "SUPERSEDED" (some x.tt) (stepField x.step ++ " RAIL=" ++ railName r)).ttNext
      else s
    | none => s

/-- TARGET_REACHED (R284): the rail is ON, and a MARGIN step that waits for it completes. -/
def State.targetReached (s : State) (r : Nat) : State :=
  let v := s.get (F.RAIL_STATUS_VCMD r)
  let s := ((s.setFlag (F.RAIL_CTRL_TR_PEND r) false).setRs r rsOn).raise r "TARGET_REACHED" ("V=" ++ vOut s.compat v) none
  let s := s.modRail r fun x => { x with cleanFrom := some s.ticks }
  match s.tt.run with
  | some x => if x.wait = .margin r then s.ttNext else s
  | none => s

/-- The lock loop is held: LOCK_P 0 and LOCK FREE (R252, R253). -/
def State.holdLoop (s : State) (r : Nat) : State :=
  (s.set (F.RAIL_LOCK_LOCK r) 0).modRail r fun x => { x with lockOk := 0, lockBad := 0, lockP := 0 }

/-- V_CMD aimed at V_SETM at a slew, in RAMP_UP or MOVING; a ramp of zero length ends at once (R278, R282, R283). -/
def State.aim (s : State) (r st slew : Nat) : State :=
  let v := (s.vSetm r).toNat
  let s := if st = rsRampUp then (s.holdLoop r).modRail r fun x => { x with balBad := true } else s
  let s := ((s.setRs r st).setFlag (F.RAIL_CTRL_TR_PEND r) true).modRail r fun x => { x with vEnd := v, slew := slew }
  if s.get (F.RAIL_STATUS_VCMD r) = v then s.targetReached r else s

/-- A write of TARGET or MARGIN by the rail's state (R282). -/
def State.move (s : State) (r slew : Nat) : State :=
  let st := s.rs r
  if st = rsOn ∨ st = rsMoving then (s.supersede r).aim r rsMoving slew
  else if st = rsRampUp then (s.supersede r).aim r rsRampUp slew
  else s

/-! ### The end of switching and of a fall -/

/-- The phase stops with its rail: OFF, or SHED where it was SHED, a FOLLOWER, or judged and waiting for a trigger that does
not come any more (R240, R312, R314; assumption 15). -/
def State.stopPhase (s : State) (r n : Nat) : State :=
  let goal := (s.ph n).pend
  let s := (s.triPhase n).modPh n fun x => { x with
    limited := false, skip := false, elig := true, pend := none, trips := 0, tripped := false, fired := false, openRun := 0 }
  if s.phState n = 4 then s
  else if s.phState n = 3 ∨ goal = some 3 then s.shedFollower n (s.iForceLess r)
  else s.set (F.PH_STATUS_STATE n) (if goal = some 4 then 4 else 0)

/-- The rail's phases stop, and what counts its rank-0 cycles starts afresh. -/
def State.stopPhases (s : State) (r : Nat) : State :=
  (((s.assigned r).foldl (fun s n => s.stopPhase r n) s).renumber r).modRail r fun x => { x with
    lowSide := false, held := false, passed := 0, resp := false, respBack := false, use := [], lim := false, limRun := 0, okRun := 0,
    tripSet := 0, tripRun := 0, balBad := true, lightSum := 0, lightN := 0, lightAvg := none }

/-- LOCK FREE while the rail is disabled, and its LOCK_LOST no longer PRESENT (R253, R268). -/
def State.lockFree (s : State) (r : Nat) : State := (s.holdLoop r).clear (6 + r) "LOCK_LOST"

/-- An event of a fall procedure (R224, R280): TT and STEP of the step it belongs to, NONE in the background. -/
def State.raiseFall (s : State) (r : Nat) (f : Fall) (name extra : String) (num key : Nat := 0) : State :=
  s.raiseTt name (f.by_.map Prod.fst)
    ((match f.by_ with | some (_, k) => stepField k ++ " " | none => "") ++ "RAIL=" ++ railName r ++
      (if extra = "" then "" else " " ++ extra)) num key

/-- The step that waits for the fall of rail `r` completes. -/
def State.fallStep (s : State) (r : Nat) : State :=
  match s.tt.run with
  | some x => if x.wait = .fall r then s.ttNext else s
  | none => s

/-- The fall procedure of rail `r` ends: discharge stops, a FALLING rail is OFF, and the step completes (R224, R280). -/
def State.endFall (s : State) (r : Nat) : State :=
  let s := s.modRail r fun x => { x with fall := none }
  let s := (s.assigned r).foldl (fun s n => s.modPh n fun x => { x with sink := false }) s
  let s := if s.rs r = rsFalling then s.setRs r rsOff else s
  (s.fallStep r).rodCheck

/-- V_CMD has reached OFF_V, or the rail is taken down: the phases are tri-stated, V_CMD is 0, the rail is FALLING, and
T1 runs (R224, R280). -/
def State.fallNow (s : State) (r : Nat) : State :=
  let s := (s.stopPhases r).setRs r rsFalling
  let s := s.set (F.RAIL_STATUS_VCMD r) 0
  s.modRail r fun x => { x with vEnd := 0, dlyAt := none, cleanFrom := none, fall := x.fall.map fun f => { f with stage := 2, till := some (s.ticks + f.t1) } }

/-- The ramp down starts: to OFF_V at OFF_SLEW, ended at once where V_CMD is there already (R280). -/
def State.rampDown (s : State) (r : Nat) : State :=
  let v := s.offV r
  let s := ((s.setRs r rsRampDown).holdLoop r).modRail r fun x =>
    { x with vEnd := v, slew := s.get (F.RAIL_RAMP_OFF_SLEW r), dlyAt := none, cleanFrom := none, balBad := true }
  if s.get (F.RAIL_STATUS_VCMD r) ≤ v then s.fallNow r else s

/-- The rail's own turn-off starts by its state (R280): a shed skips OFF_DELAY; a turn-off in progress goes on. -/
def State.ownTurnOff (s : State) (r : Nat) (shed : Bool) : State :=
  let st := s.rs r
  if st = rsWaiting ∨ st = rsOnDelay then
    (((s.stopPhases r).setRs r rsOff).modRail r fun x => { x with dlyAt := none }).endFall r
  else if st = rsRampUp ∨ st = rsOn ∨ st = rsMoving then
    let s := (s.supersede r).modRail r fun x => { x with fall := x.fall.map fun f => { f with stage := 1, till := none } }
    let d := s.get (F.RAIL_DELAY_OFF_DLY r)
    if shed ∨ d = 0 then s.rampDown r
    else (s.setRs r rsOffDelay).modRail r fun x => { x with dlyAt := some (s.ticks + d), cleanFrom := none }
  else s

/-- EN 0, a hiccup off-time ended, the lock FREE. -/
def State.disableBits (s : State) (r : Nat) : State :=
  (((s.setFlag (F.RAIL_CTRL_EN r) false).setFlag (F.RAIL_PSTAT_HICCUP r) false).modRail r fun x => { x with hicAt := none }).lockFree r

/-- A fall procedure in the background: T1 of 320 ticks and T2 of 640 (R215, R280). -/
def backFall : Fall := { t1 := 320, t2 := 640, by_ := none, stage := 1 }

/-- One rail shed: turned off at once through its ramp, its fall watched in the background (R215). A turn-off in progress
goes on (R280). -/
def State.shedOne (s : State) (r : Nat) : State :=
  let st := s.rs r
  let s := (s.setBit F.TT_STATUS_SHED r true).disableBits r
  let s := if within rsRampUp rsMoving st then s.modRail r fun x => { x with fall := some (x.fall.getD backFall) } else s
  if st = rsOff then s else s.ownTurnOff r true

/-- The shed bits of some rails set, with one event that names them, where one of them was not shed before (R215). -/
def State.shedBits (s : State) (rs : List Nat) (cause : String) (tt : Option Nat) (fields : String) : State :=
  let new := rs.any fun q => !s.bit F.TT_STATUS_SHED q
  let s := s.set F.TT_STATUS_SHED (Nat.lor (s.get F.TT_STATUS_SHED) (maskOf rs))
  if new && cause != "" then s.raiseTt cause tt (fields ++ " MASK=" ++ railList rs) else s

/-- The rails of a list shed (R215). -/
def State.shedList (s : State) (rs : List Nat) (cause : String) (tt : Option Nat) (fields : String) : State :=
  rs.foldl State.shedOne (s.shedBits rs cause tt fields)

/-- A fall procedure taken over with other times and another owner: a timer that runs keeps its start (R224, R307;
assumption 16). -/
def Fall.retime (f : Fall) (t1 t2 : Nat) (by_ : Option (Nat × Nat)) : Fall :=
  { f with t1 := t1, t2 := t2, by_ := by_, till := f.till.map fun t => if f.stage = 3 then t + t2 - f.t2 else t + t1 - f.t1 }

/-- Rail `r` turned off on purpose (R215, R226, R280), by a DISABLE step or by a command or write: its dependents are
shed with ORDER, and where they have to fall first its own turn-off waits for them, for T1 at most. A rail in its hiccup
off-time is OFF already, and its dependents are shed all the same. -/
def State.disableRail (s : State) (r t1 t2 : Nat) (by_ : Option (Nat × Nat)) : State :=
  let st := s.rs r
  let f : Fall := { t1 := t1, t2 := t2, by_ := by_, stage := 1 }
  let order (s : State) : State := s.shedList (s.dependents r) "ORDER" (by_.map Prod.fst)
    ((match by_ with | some (_, k) => stepField k ++ " " | none => "") ++ "RAIL=" ++ railName r)
  if within rsOffDelay rsFalling st then
    if by_ = none then s
    else s.modRail r fun x => { x with fall := some ((x.fall.getD f).retime t1 t2 by_) }
  else if st = rsOff then
    let s := if s.enabled r then order (s.disableBits r) else s
    let s := if by_ = none then s else s.modRail r fun x =>
      { x with fall := some { f with stage := 2, till := some (s.ticks + t1) } }
    s.rodCheck
  else if !s.enabled r then
    if by_ = none then s else s.modRail r fun x => { x with fall := some ((x.fall.getD f).retime t1 t2 by_) }
  else
    let wait := (s.dependents r).filter fun q => s.enabled q && within rsRampUp rsMoving (s.rs q)
    let s := order ((s.disableBits r).modRail r fun x => { x with fall := some f })
    let s := if wait.isEmpty ∨ st = rsWaiting ∨ st = rsOnDelay then s.ownTurnOff r false
      else s.modRail r fun x => { x with fall := x.fall.map fun g => { g with stage := 0, till := some (s.ticks + t1), deps := maskOf wait } }
    s.rodCheck

/-! ### Taking down (R307) -/

/-- One rail taken down: straight to FALLING, EN 0, its shed bit set, a move superseded. A disabled rail that is OFF only
takes the shed bit. -/
def State.takeOne (s : State) (r : Nat) : State :=
  let s := (s.setFlag (F.RAIL_PSTAT_OVERLOAD r) false).modRail r fun x => { x with ovlAt := none, okRun := 0, limRun := 0 }
  let s := (s.clear r "OVERLOAD").setBit F.TT_STATUS_SHED r true
  if s.rs r = rsOff ∧ !s.enabled r then s
  else
    let s := ((s.supersede r).disableBits r).modRail r fun x => { x with fall := some ((x.fall.getD backFall).retime 320 640 none) }
    if s.rs r = rsFalling then s else s.fallNow r

/-- Rail `r` taken down, and every rail that depends on it shed (R215, R307). -/
def State.takeDown (s : State) (r : Nat) : State :=
  ((s.takeOne r).shedList (s.dependents r) "SHED" none ("RAIL=" ++ railName r)).rodCheck

/-- A DANGER cause of rail `r` raised, and the rail taken down with it (R307). -/
def State.trip (s : State) (r : Nat) (cause fields : String) (num : Option Nat := some 0) : State :=
  (s.raise r cause fields num).takeDown r

/-- A rail left with no ACTIVE phase is taken down with NOPHASE (R315). -/
def State.noPhase (s : State) (r : Nat) : State :=
  if (s.phasesIn r [1]).isEmpty && (s.railOn r || (s.enabled r && s.rs r != rsOff)) && !(s.assigned r).isEmpty then s.trip r "NOPHASE" ""
  else s

/-! ### Turning on (R214, R216, R225, R238, R281) -/

/-- The shed bit of rail `r` cleared; SHED is PRESENT while any stands (R235). -/
def State.unshed (s : State) (r : Nat) : State :=
  let s := s.setBit F.TT_STATUS_SHED r false
  if s.get F.TT_STATUS_SHED = 0 then s.clear 60 "SHED" else s

/-- The fall procedure in progress ended by an enable, without discharge (R225). -/
def State.cutFall (s : State) (r : Nat) : State :=
  match (s.rail r).fall with
  | some f => (s.raiseFall r f "SUPERSEDED" "").endFall r
  | none => s

/-- The causes whose PRESENT an enable of the rail clears (R317). -/
def State.enableClears (s : State) (r : Nat) : State :=
  ["LATCHED_OFF", "OVERLOAD_OFF", "SHORT", "OVERVOLT", "NOPHASE"].foldl (fun s n => s.clear r n) s

/-- Rail `r` can be enabled: a phase is assigned (R238) and its partition works (R266). -/
def State.canEnable (s : State) (r : Nat) : Bool := !(s.assigned r).isEmpty && !s.failed (railBp r)

/-- Rail `r` enabled (R214, R278, R281). -/
def State.enableRail (s : State) (r : Nat) : State :=
  if !s.canEnable r then s
  else
    let s := s.unshed r
    if s.enabled r then s
    else
      let st := s.rs r
      let s := ((s.setFlag (F.RAIL_CTRL_EN r) true).enableClears r).cutFall r
      let s :=
        if st = rsOff ∨ st = rsFalling then (s.startPhases r).setRs r rsWaiting
        else if st = rsOffDelay ∨ st = rsRampDown then
          (s.modRail r fun x => { x with dlyAt := none }).aim r rsRampUp (s.get (F.RAIL_RAMP_ON_SLEW r))
        else s
      (s.noPhase r).rodCheck

end Sys2Proof.Machine
end

