-- ==== Sys2Proof/Machine/PowerOps.lean ====
section
/-! DEFINITION. The power side as one unit drives another: supervised nodes (R97), readiness of the heads (R346, R378), the
gauge's readings and right-away (R169 to R188), the bridge's mode (R143, R144), relay requests (R152 to R155) and the
keep-alive source (R127). -/

namespace Sys2Proof.Machine

/-! ### Supervised nodes (R97, R103) -/

/-- The monitor that supervises an input: the lowest-numbered enabled one that names it. -/
def State.nodeMon (s : State) (input : Nat) : Option Nat :=
  (List.range s.part.mons).find? fun n => s.flag (F.MON_CTRL_EN n) && s.get (F.MON_CTRL_INPUT n) == input

/-- The state of a node: UNSETTLED without a monitor, and while BP5 reports FAILED (R109). -/
def State.node (s : State) (input : Nat) : MonState :=
  match s.nodeMon input with
  | some n => if s.failed 5 then .unsettled else s.monState n
  | none => .unsettled

/-- Input code of the bus. -/
def nodeBus : Nat := 6
/-- Input code of the stack. -/
def nodeStack : Nat := 7
/-- Input code of the cell scan. -/
def nodeCells : Nat := 8

/-- The stack or the cell monitor reads ABOVE (R141). -/
def State.stackHigh (s : State) : Bool := s.node nodeStack == .above || s.node nodeCells == .above

/-! ### Readiness of a head (R346, R378) -/

/-- One reason of UNFIT set or cleared, FIT following (R378). Bits: 0 NOHEAD, 1 REFUSED, 2 VERIFY, 3 TEMP, 4 FALLBACK,
5 LIGHTGATE, 6 TRIM, 7 INHIBIT. -/
def State.unfit (s : State) (h k : Nat) (b : Bool) : State :=
  let s := s.setBit (F.HEAD_STATUS_UNFIT h) k b
  s.setFlag (F.HEAD_STATUS_FIT h) (s.get (F.HEAD_STATUS_UNFIT h) == 0)

/-- The failing conditions of readiness as NR shows them: EN, LINK, ROD, ENC, DOSE. -/
def State.headNr (s : State) (h : Nat) : Nat :=
  let rod := s.get F.SYS_TIMEBASE_ROD_STATE
  maskOf ((if s.flag (F.LINE_CTRL_EN h) then [] else [0]) ++ (if s.get (F.LINE_LSTAT_STATE h) = 3 then [] else [1]) ++
    (if rod = 2 ∨ rod = 3 then [] else [2]) ++ (if s.flag (F.LINE_STAT_ENC_FAULT h) then [3] else []) ++
    (if s.get (F.HEAD_STATUS_UNFIT h) = 0 then [] else [4]))

/-- HEADn is ready; a head of a failed partition is not (R347). -/
def State.headReady (s : State) (h : Nat) : Bool := s.headNr h == 0 && s.works (headBp h)

/-! ### Readings of the gauge (R169 to R176) -/

/-- Capacitance in use in 10 mF (R173). -/
def State.capUse (s : State) : Nat :=
  let m := s.get F.GAUGE_CAP_CAP_MEAS
  if m = 0 then s.get F.GAUGE_CAP_CAP_NOM else min (s.get F.GAUGE_CAP_CAP_NOM) m

/-- ESR in use in 0.1 mΩ (R174). -/
def State.esrUse (s : State) : Nat := max (s.get F.GAUGE_ESR_ESR_SET) (s.get F.GAUGE_ESR_ESR_MEAS)

/-- Efficiency in use in % (R175). -/
def State.etaUse (s : State) : Nat :=
  let m := s.get F.GAUGE_ESR_ETA_MEAS
  if m = 0 then s.get F.GAUGE_CFG_ETA else min (s.get F.GAUGE_CFG_ETA) m

/-- The learned budget is the one in force (R178). -/
def State.learnedRules (s : State) : Bool := !s.gauge.force && decide (s.gauge.budget < s.gauge.learned)

/-- The budget in force (R178). -/
def State.budgetInForce (s : State) : Nat := if s.learnedRules then s.gauge.learned else s.gauge.budget

/-- E_raw in units of 1/128,000,000 J (R169), of a stack voltage in 1.25 mV. -/
def State.eRawU (s : State) (u : Nat) : Nat := s.capUse * (u * u - (5 * s.get F.RES_CFG_FLOOR_V) * (5 * s.get F.RES_CFG_FLOOR_V))

/-- E_esr as a fraction of E_raw (R170). -/
def State.esrShare (s : State) : Nat × Nat :=
  let f := 5 * s.get F.RES_CFG_FLOOR_V
  (64 * s.esrUse * s.budgetInForce, s.get F.GAUGE_CFG_PAGE_T * f * f)

/-- E_avail in whole joules at a stack voltage in 1.25 mV (R171). -/
def State.eAvailAt (s : State) (u : Nat) : Nat :=
  let (k, d) := s.esrShare
  s.eRawU u * (d - k) / (128000000 * d)

/-- E_esr at a stack voltage in 1.25 mV, rounded up (R190). -/
def State.eEsrAt (s : State) (u : Nat) : Nat :=
  let (k, d) := s.esrShare
  (s.eRawU u * k + 128000000 * d - 1) / (128000000 * d)

/-- NEED (R176, R188). -/
def State.need (s : State) : Nat := (if s.compat then 1 else s.claims + 1) * s.budgetInForce + s.gauge.floor

/-- PAGES (R176). -/
def State.pages (s : State) : Nat := (s.gauge.eAvail - s.gauge.floor) / s.budgetInForce

/-- FREE (R176). -/
def State.freePages (s : State) : Nat := min (s.pages - s.claims) (4 - s.claims)

/-- A measurement at tick `t` put in front of those kept; the measurements of one tick count together (R176). -/
def powerAdd (t : Nat) (x : Int) : List (Nat × Int × Nat) → List (Nat × Int × Nat)
  | e :: es => if e.1 = t then (t, e.2.1 + x, e.2.2 + 1) :: es else (t, x, 1) :: e :: es
  | [] => [(t, x, 1)]

/-- The measurements that reach into the span from tick `lo` on: the newest down to the first made at or before it. -/
def powerKeep (lo : Nat) : List (Nat × Int × Nat) → List (Nat × Int × Nat)
  | [] => []
  | e :: es => e :: if e.1 ≤ lo then [] else powerKeep lo es

/-- The power summed over the ticks from `lo` to `hi`, each measurement holding until the next, and the ticks it is known
for. -/
def powerSum (lo hi : Nat) : List (Nat × Int × Nat) → Int × Nat
  | [] => (0, 0)
  | e :: es =>
    let w := hi - max e.1 lo
    let (p, n) := powerSum lo (min hi e.1) es
    (p + roundDiv e.2.1 e.2.2 * w, n + w)

/-- RUNTIME in seconds, none where PSTACK is not negative (R176). -/
def State.runtime (s : State) : Option Nat :=
  let (p, n) := s.gauge.mean
  if p < 0 then some ((s.gauge.eAvail - s.gauge.floor) * n * 160000 / (-p).toNat) else none

/-- The wait in seconds until E_avail reaches a target at the present power, none where it cannot (R176). -/
def State.waitTo (s : State) (target : Nat) : Option Nat :=
  let (p, n) := s.gauge.mean
  let u := s.get F.RES_CFG_CELLS * s.get F.RES_CFG_CELL_MAX * 4
  if target ≤ s.gauge.eAvail then some 0
  else if p ≤ 0 ∨ s.eAvailAt u < target then none
  else some (((target - s.gauge.eAvail) * n * 160000 + p.toNat - 1) / p.toNat)

/-- WAIT (R176). -/
def State.raWait (s : State) : Option Nat :=
  if s.flag F.GAUGE_RA_RIGHTAWAY then some 0 else s.waitTo (s.need + s.get F.GAUGE_CFG_RA_HYS)

/-- A time of R176 as its register holds it. -/
def timeCode (t : Option Nat) : Nat :=
  match t with
  | some n => satNat 65534 n
  | none => 0xFFFF

/-! ### Right-away (R180, R181, R187) -/

/-- The holds in the bit order of GAUGE_RA.HOLD. -/
def holdNames : List String := ["FAILED", "VCORE", "BRIDGE", "HEAD", "MAXCLAIMS", "NODATA"]

/-- The bridge could not enter SUPPORT: a setting or the bus monitor is missing, or the mode forbids it (R181). -/
def State.bridgeUnable (s : State) : Bool :=
  !s.flag F.BR_CTRL_EN || !s.flag F.BR_CTRL_SUP_EN || (s.nodeMon nodeBus).isNone || s.get F.BR_STATUS_MODE == 0 ||
    s.get F.BR_STATUS_MODE == 5

/-- A head counted by RA_HEADS is not ready. -/
def State.headsHold (s : State) : Bool :=
  (List.range s.part.heads).any fun h => s.bit F.GAUGE_CFG_RA_HEADS h && !s.headReady h

/-- The holds of R181 that are active, as GAUGE_RA.HOLD shows them. -/
def State.holdMask (s : State) : Nat :=
  maskOf ((if s.failed 6 || s.failed 4 then [0] else []) ++ (if s.flag F.SYS_VCORE_GOOD then [] else [1]) ++
    (if s.bridgeUnable then [2] else []) ++ (if s.headsHold then [3] else []) ++
    (if s.claims = 4 ∧ !s.compat then [4] else []) ++ (if s.gauge.fresh then [] else [5]))

/-- A hold that becomes active raises HOLD, MAXCLAIMS apart; one that ends is no longer PRESENT (R181, R189). -/
def State.holdEvents (s : State) (old new : Nat) : State :=
  [0, 1, 2, 3, 5].foldl (fun s k =>
    if bitAt new k && !bitAt old k then s.raise 47 "HOLD" ("HOLD=" ++ holdNames.getD k "") none k
    else if bitAt old k && !bitAt new k then s.clearKey 47 "HOLD" k else s) s

/-- RESERVE_SHORT raised or no longer PRESENT (R187). -/
def State.reserveCheck (s : State) : State :=
  let owed := s.claims * s.budgetInForce + s.gauge.floor
  if 0 < s.claims ∧ s.gauge.eAvail < owed then
    if s.gauge.short then s
    else { s with gauge := { s.gauge with short := true } }.raise 46 "RESERVE_SHORT"
      ("DEFICIT=" ++ jOut s.compat (owed - s.gauge.eAvail : Nat)) (some (owed - s.gauge.eAvail))
  else { s with gauge := { s.gauge with short := false } }.clear 46 "RESERVE_SHORT"

/-- RIGHTAWAY as R180 sets it under a set of holds. -/
def State.raLevel (s : State) (holds : Nat) : Bool :=
  s.dev == .run && holds == 0 && !s.underTest 6 && decide (s.need ≤ s.gauge.eAvail) &&
    (s.flag F.GAUGE_RA_RIGHTAWAY || decide (s.need + s.get F.GAUGE_CFG_RA_HYS ≤ s.gauge.eAvail))

/-- HOLD, RIGHTAWAY, NEED, RUNTIME and WAIT as they now stand (R176, R180, R190). -/
def State.raSet (s : State) : State :=
  let holds := s.holdMask
  let ra := s.raLevel holds
  let t := ((s.set F.GAUGE_RA_HOLD holds).setFlag F.GAUGE_RA_RIGHTAWAY ra).set F.GAUGE_RA_NEED (satNat 65535 s.need)
  let u := { t with gauge := { s.gauge with raEver := s.gauge.raEver || ra } }
  (u.set F.GAUGE_TIME_RUNTIME (timeCode u.runtime)).set F.GAUGE_TIME_WAIT (timeCode u.raWait)

/-- Right-away, its readings, its holds and RESERVE_SHORT from the state of the instant (R176, R180, R181, R187). -/
def State.raStep (s : State) : State := (s.raSet.holdEvents (s.get F.GAUGE_RA_HOLD) s.holdMask).reserveCheck

/-- Right-away re-evaluated, in RUN only: it changes its registers, the gauge and what the collector holds. -/
def State.evalRa (s : State) : State :=
  if s.dev ≠ .run then s else { s with regs := s.raStep.regs, gauge := s.raStep.gauge, flt := s.raStep.flt }

/-- The stack has reached FULL_V. -/
def State.atFull (s : State) : Bool := decide (s.fullV * 100 ≤ s.get F.RES_STATUS_VSTACK * 625)

/-- A stack measurement: its readings (R139, R164), the end of a trickle burst at the full level (R128), and E_raw, E_avail and PSTACK from the same instant while the gauge
works (R169 to R171, R176). -/
def State.measure (s : State) (v : Nat) (i : Int) : State :=
  let s := (s.set F.RES_STATUS_VSTACK v).sset F.RES_STATUS_ISTACK (clampInt (-32768) 32767 i)
  let s := if s.atFull then s.setFlag F.HARV_START_TRICKLE false else s
  if !s.works 6 then s
  else
    let u := 5 * v
    let lo := s.ticks + 1 - 32768
    let power := powerKeep lo (powerAdd s.ticks ((v : Int) * i) s.gauge.power)
    let s := { s with gauge := { s.gauge with
      fresh := true, eRaw := s.eRawU u / 128000000, eAvail := s.eAvailAt u, power := power,
      mean := powerSum lo (s.ticks + 1) power } }
    let s := (s.set F.GAUGE_AVAIL_E_AVAIL (satNat 65535 s.gauge.eAvail)).set F.GAUGE_AVAIL_E_ESR (satNat 65535 (s.eEsrAt u))
    let (p, n) := s.gauge.mean
    s.sset F.GAUGE_POWER_PSTACK (clampInt (-32768) 32767 (roundDiv p (n * 16000)))

/-! ### The budget in force (R178, R179) -/

/-- What a change of BUDGET, FLOOR_RES, FORCE or B_LEARNED does: what raises NEED at once, what would lower it when no
sheet is claimed; then PEND_LOWER, BSRC, the notice of a learned budget and the FORCE event. `force` and `learned` are the
values before the change. -/
def State.syncBudget (s : State) (force : Bool) (learned : Nat) : State :=
  let b := s.get F.GAUGE_BUDGET_BUDGET
  let fl := s.get F.GAUGE_BUDGET_FLOOR_RES
  let fo := s.flag F.GAUGE_BUDGET_FORCE
  let le := s.get F.GAUGE_PAGE_B_LEARNED
  let g := s.gauge
  let s :=
    if s.claims = 0 then { s with gauge := { g with budget := b, floor := fl, force := fo, learned := le } }
    else { s with gauge := { g with budget := max g.budget b, floor := max g.floor fl, force := g.force && fo,
                                    learned := max g.learned le } }
  let g := s.gauge
  let s := s.setFlag F.GAUGE_RA_PEND_LOWER (decide (g.budget ≠ b ∨ g.floor ≠ fl ∨ g.force ≠ fo ∨ g.learned ≠ le))
  let s := s.set F.GAUGE_RA_BSRC (if fo then 2 else if s.learnedRules then 1 else 0)
  let s := s.set F.GAUGE_PAGE_B_INFORCE (satNat 65535 s.budgetInForce)
  let s :=
    if s.learnedRules then
      if s.gauge.learnedOn then s
      else ({ s with gauge := { s.gauge with learnedOn := true } }.pull "PAGEBUDGET GAUGE LEARNED").raise 46 "BUDGET_LEARNED"
        ("BUDGET=" ++ jOut s.compat s.budgetInForce) (some s.budgetInForce)
    else { s with gauge := { s.gauge with learnedOn := false } }.clear 46 "BUDGET_LEARNED"
  if !fo then s.clear 46 "FORCE"
  else if b < le ∧ (!force ∨ learned ≤ b) then s.raise 46 "FORCE" else s

/-! ### The bridge's mode (R143, R144, R149, R150) -/

/-- Names of the modes. -/
def modeName (m : Nat) : String := ["OFF", "IDLE", "CHARGE", "ABSORB", "SUPPORT", "STOPPED"].getD m "?"

/-- The mode. -/
def State.mode (s : State) : Nat := s.get F.BR_STATUS_MODE

/-- The mode changed: its event, and the timers and status that belong to the mode left (R143, R145, R163). -/
def State.setMode (s : State) (m : Nat) : State :=
  if s.mode = m then s
  else
    let s := (s.set F.BR_STATUS_MODE m).setFlag F.BR_STATUS_LIMITED false
    let s := if within 2 4 m then s else (s.setFlag F.BR_STATUS_TWO_PH false).set F.BR_STATUS_PBUS 0
    let s := { s with bridge := { s.bridge with
      absAt := none, limAt := none, freeAt := some s.ticks, absOver := false, chgAt := (if m = 2 then some s.ticks else none),
      absEdge := s.bridge.absEdge && m != 3 } }
    let s := { s with gauge := { s.gauge with etaFrom := none, span := (if m = 2 then s.gauge.span else none) } }
    (s.raise 43 "MODE" ("MODE=" ++ modeName m) none).rodCheck

/-- The stack code is above FLOOR_V by more than `k` codes. -/
def State.aboveFloor (s : State) (k : Nat) : Bool := decide (s.get F.RES_CFG_FLOOR_V + k < s.get F.RES_STATUS_VSTACK)

/-- The bridge is off whatever else holds (R143, R432). -/
def State.bridgeOff (s : State) : Bool :=
  s.dev != .run || !s.flag F.BR_CTRL_EN || s.failed 4 || s.underTest 4

/-- Entry to SUPPORT (R143, R149). -/
def State.supportEntry (s : State) : Bool :=
  s.flag F.BR_CTRL_SUP_EN && s.node nodeBus == .below && !s.flag F.BR_STATUS_MAINS_Q && s.aboveFloor 0 &&
    !s.flag F.RES_STATUS_ATFLOOR

/-- Entry to ABSORB (R143, R141, R150). -/
def State.absorbEntry (s : State) : Bool :=
  s.flag F.BR_CTRL_ABS_EN && s.bridge.absEdge && s.node nodeBus == .above && !s.stackHigh && !s.atFull

/-- The conditions of CHARGE (R143): with FULL set it goes on as float. -/
def State.chargeEntry (s : State) : Bool :=
  s.flag F.BR_CTRL_CHG_EN && s.flag F.BR_STATUS_MAINS_Q && s.node nodeBus == .inside && !s.stackHigh

/-- The mode that the conditions call for: SUPPORT before ABSORB before CHARGE (R144). -/
def State.modeFor (s : State) : Nat :=
  if s.bridgeOff then 0
  else if s.mode = 5 then 5
  else if s.supportEntry then 4
  else if s.absorbEntry then 3
  else if s.mode = 4 ∧ !s.flag F.BR_STATUS_MAINS_Q ∧ s.aboveFloor 0 then 4
  else if s.mode = 3 ∧ !s.bridge.absOver ∧ !s.stackHigh ∧ !s.atFull then 3
  else if s.chargeEntry then 2
  else 1

/-- The floor reached in SUPPORT, or left by more than 0.500 V (R149). -/
def State.floorCheck (s : State) : State :=
  if s.mode = 4 ∧ !s.aboveFloor 0 then
    if s.flag F.RES_STATUS_ATFLOOR then s else (s.setFlag F.RES_STATUS_ATFLOOR true).raise 42 "FLOOR"
  else if s.aboveFloor 80 then (s.setFlag F.RES_STATUS_ATFLOOR false).clear 42 "FLOOR"
  else s

/-- What the supervisors and FULL_V stop, with their events (R141, R150), raised once where the mode stays to the end of its
cycle (R144). -/
def State.stopEvents (s : State) : State :=
  let m := s.mode
  let s := if !s.stackHigh then s.clear 42 "CHARGE_BLOCKED"
    else if (m = 2 ∨ m = 3) ∧ !s.causePresent 42 4 then s.raise 42 "CHARGE_BLOCKED" else s
  if s.node nodeBus ≠ .above then
    { s with bridge := { s.bridge with absEdge := false } }.clear 43 "ABSORB_FULL"
  else if m = 3 ∧ (s.stackHigh ∨ s.atFull) ∧ !s.causePresent 43 4 then s.raise 43 "ABSORB_FULL"
  else s

/-- A change of mode; SUPPORT passes through IDLE to CHARGE (R146). -/
def State.modeTo (s : State) (m : Nat) : State := if s.mode = 4 ∧ m = 2 then (s.setMode 1).setMode 2 else s.setMode m

/-- The entry conditions evaluated at a bridge handshake (R144). -/
def State.bridgeEval (s : State) : State :=
  if s.dev ≠ .run then s
  else
    let s := s.floorCheck.stopEvents
    s.modeTo s.modeFor

/-- The entry conditions evaluated otherwise than at the end of a switching cycle: entry to SUPPORT comes at once, any other
change at the end of the cycle in progress, which evaluates them again (R144). -/
def State.bridgeEdge (s : State) : State :=
  if s.dev = .run ∧ (s.supportEntry ∨ !(within 2 4 s.mode)) then s.bridgeEval else s

/-! ### What the bridge regulates (R145) -/

/-- The set point of the mode: bus-side power in mW in CHARGE, ramped at 10 W/ms from zero at entry; the bus in its codes in
ABSORB and SUPPORT. -/
def State.setPoint (s : State) : Option Nat :=
  match s.mode with
  | 2 => some (min (s.get F.BR_CTRL_CHG_P * 1000) ((s.ticks - s.bridge.chgAt.getD s.ticks) * 10000000 / 32768))
  | 3 => some (s.get F.BR_SET_ABS_V)
  | 4 => some (s.get F.BR_SET_SUP_V)
  | _ => none

/-- The stack voltage that CHARGE does not exceed (R140). -/
def State.stackCeiling (s : State) : Nat := s.fullV

/-- A limit of the mode other than FULL_V binds at a stack current in mA and a bus-side power in W: CHG_I in CHARGE, ABS_P in
ABSORB, SUP_P in SUPPORT, and in each ILIM, which has ended an on-time in the cycle (R145, R148). -/
def State.limitBinds (s : State) (i pbus : Int) : Bool :=
  s.bridge.ended != 0 ||
    (match s.mode with
      | 2 => decide ((s.get F.BR_LIM_CHG_I * 100 : Nat) ≤ i)
      | 3 => decide ((s.get F.BR_CTRL_ABS_P : Int) ≤ pbus)
      | 4 => decide ((s.get F.BR_CTRL_SUP_P : Int) ≤ -pbus)
      | _ => false)

/-! ### Relay requests (R152 to R158) -/

/-- RELAY_STATUS.STATE as R167 names it. -/
def relayName (n : Nat) : String := ["UNKNOWN", "OPEN", "CLOSED"].getD n "?"

/-- The reason for which an opening is refused (R154), the first that holds. The claims are those of the CLAIMS register, also
while BP6 is under test and BP0 counts into a copy: the spec does not say which count is read (DESIGN CHOICE, assumption 71). -/
def State.relayRefusal (s : State) : Option String :=
  if s.failed 4 then some "BRIDGE"
  else if s.failed 6 then some "GAUGE"
  else if 0 < s.claims then some "CLAIMED"
  else if s.railOn 5 && (!s.flag F.BR_CTRL_EN || !s.flag F.BR_CTRL_SUP_EN || (s.nodeMon nodeBus).isNone || !s.aboveFloor 80 ||
      s.mode == 5) then some "NOSUPPORT"
  else none

/-- PEND and RELAY_PEND follow the request and the pulse: a pulse waits under R131 for an earlier pulse and the gap too (R131,
R135, R164). -/
def State.relayBits (s : State) : State :=
  (s.setFlag F.RELAY_STATUS_PEND (s.relay.wait.isSome || s.relay.run.isSome)).setFlag F.HARV_START_RELAY_PEND s.relay.wait.isSome

/-- What follows the end of a request: `!DONE`, the SC bit, the step, or the end of a top-up closure whose pulse was not
given (R43, R155, R156, R164). -/
def State.relayEnds (s : State) (r : RelayReq) (full cut : Bool) : State :=
  match r.why with
  | .command p tag =>
    s.done { port := p, what := "RELAY", tag := tag } (if full then .ok else s.finNo 22 "REFUSED" "")
  | .register => s.setFlag (if r.set then F.RELAY_CTRL_SET else F.RELAY_CTRL_CLR) false
  | .step =>
    match s.tt.run with
    | some x => if x.wait = .relay then s.ttNext else s
    | none => s
  | .topup =>
    if full ∨ cut then s
    else if s.relay.closure = .topup then
      { s.setClosure .none with relay := { (s.setClosure .none).relay with retryAt := some (s.ticks + 2048) } }
    else s
  | _ => s

/-- A request for a pulse: it replaces a waiting one, waits for a running pulse and the gap, else for arming (R131,
R152). -/
def State.relayRequest (s : State) (r : RelayReq) : State :=
  let old := s.relay.wait
  let s := { s with relay := { s.relay with
    wait := some r,
    armAt := (if s.relay.run.isSome ∨ s.relay.gapAt.isSome ∨ s.relay.shot.isSome then none else some (s.ticks + 2048)) } }
  let s := match old with
    | some o => s.relayEnds o false false
    | none => s
  let s := match r.set, r.why with
    | true, .command _ _ | true, .register | true, .step => s.ordinary
    | _, _ => s
  (s.setFlag F.HARV_START_TRICKLE false).relayBits

/-- A refused opening (R154): REFUSED and its event. -/
def State.relayRefused (s : State) (reason : String) : State :=
  (if s.failed 4 then s else s.setFlag F.RELAY_STATUS_REFUSED true).raise 44 "REFUSED" ("REASON=" ++ reason) none

/-- An opening that waits is refused once BP4 or BP6 reports FAILED, but for that of BUFFER-STOP (R22, R151, R158). -/
def State.dropOpening (s : State) : State :=
  match s.relay.wait with
  | some r =>
    if r.set ∨ r.why = .bufferStop ∨ !(s.failed 4 || s.failed 6) then s
    else
      let s := { s with relay := { s.relay with wait := none, armAt := none } }
      ((s.relayRefused (s.relayRefusal.getD "GAUGE")).relayEnds r false false).relayBits
  | none => s

/-! ### Turn-on delays (R67, R243, R278) -/

/-- GOOD for the rails it governs, and V_IN at 18.000 V or more in the rail's partition (R67, R243, R266). -/
def State.delayOk (s : State) (r : Nat) : Bool := (r == 5 || s.flag F.SYS_VCORE_GOOD) && decide (360 ≤ (s.ref (railBp r)).vin)

/-- The rails whose turn-on delay runs without its conditions return to WAITING (R278). -/
def State.breakDelays (s : State) : State :=
  s.part.railList.foldl (fun s r =>
    if s.rs r = rsOnDelay ∧ !s.delayOk r then (s.setRs r rsWaiting).modRail r fun x => { x with dlyAt := none } else s) s

/-! ### The keep-alive source (R127) -/

/-- Names of the sources. -/
def kaName (n : Nat) : String := ["HARVEST", "RESERVOIR", "BACKUP"].getD n "?"

/-- The level that harvest must hold, in mV (R127, R131). -/
def State.holdLevel (s : State) : Nat := if s.relay.armAt.isSome then 4950 else s.get F.HARV_KA_RES_ON * 25

/-- The target of the reservoir feed in mV, none while it does not feed: 5.00 V while a pulse waits for arming (R127, R131). -/
def State.feedTarget (s : State) : Option Nat :=
  if s.get F.HARV_START_SOURCE = 1 then some (if s.relay.armAt.isSome then 5000 else s.get F.HARV_KA_RES_ON * 25 + 100) else none

/-- BK_ON in mV (R160). -/
def State.bkOn (s : State) : Nat := min 2200 (s.get F.HARV_KA_RES_ON * 25 - 100)

/-- BK_HOLD in mV (R160). -/
def State.bkHold (s : State) : Nat := s.bkOn + 100

/-- The backup converter delivers at a VKA in mV (R160, R161). -/
def State.backupDelivers (s : State) (vka : Nat) : Bool :=
  s.get F.HARV_START_SOURCE == 2 && !s.flag F.BACKUP_STATUS_EMPTY && decide (vka < s.bkHold)

/-- VDRV or the source ceases to qualify the core supply with VKA at `vka` mV: it has been qualified since VKA was last below
CORE_LOW where VKA is not below it now (R129). -/
def State.qualified (s : State) (vka : Nat) : State :=
  if 1800 ≤ vka then { s with aon := { s.aon with coreQual := true } } else s

/-- The source changed: EV41 SOURCE, of class CAUTION for BACKUP, PRESENT while it lasts (R134). -/
def State.setSource (s : State) (k : Nat) : State :=
  if s.get F.HARV_START_SOURCE = k then s
  else
    let s := ((s.set F.HARV_START_SOURCE k).setFlag F.HARV_START_TRICKLE false).clear 41 "SOURCE"
    s.raiseAs 41 "SOURCE" (if k = 2 then .caution else .notice) (k == 2) ("SOURCE=" ++ kaName k) none

end Sys2Proof.Machine
end

