-- ==== Sys2Proof/Machine/MonOps.lean ====
section
/-! DEFINITION. A sample of a window monitor and what hangs on it: the window state (R100, R101), the tracking thresholds
(R217), missed samples (R107), the cell scan and its balancing (R96, R142), the fall of a rail (R224), a CHECK (R218,
R219), the clamp of a harvest input (R117), and the bridge (R143). -/

namespace Sys2Proof.Machine

/-! ### Inputs (R95) -/

/-- Result LSB of an input in µV. -/
def inputLsb (i : Nat) : Nat :=
  if i < 6 then 1500
  else if 16 ≤ i then 500
  else match i with
  | 6 => 12500 | 7 => 6250 | 8 => 750 | 9 => 1500 | 10 => 1500 | 11 => 12500 | 12 => 3000 | 13 => 500 | 14 => 6250
  | _ => 375

/-- Name of an input. -/
def inputName (i : Nat) : String :=
  if i < 6 then railName i
  else if 16 ≤ i then "AIN" ++ dec (i - 16)
  else ["BUS", "STACK", "CELLSCAN", "VKA", "BACKUP", "AC1", "AC2", "TEG", "KEY", "VCORE"].getD (i - 6) "?"

/-- The harvest input whose node an input code names. -/
def inputHarv (i : Nat) : Option Nat := if 11 ≤ i ∧ i ≤ 14 then some (i - 11) else none

/-! ### Good (R103, R212) -/

/-- A rail is good: enabled, its ramp finished, its power-good monitor INSIDE. -/
def State.railGood (s : State) (r : Nat) : Bool :=
  s.enabled r && (s.rs r == rsOn || s.rs r == rsMoving) && s.node r == .inside

/-- A monitor made UNSETTLED under R102: its counts start again, its first sample is at the next edge of its period, and the
cells of CELLSCAN are forgotten (R112). The scan resumes at CELL1: the spec does not say at which cell (DESIGN CHOICE,
assumption 69). -/
def State.unsettle (s : State) (n : Nat) : State :=
  ((s.setMonState n .unsettled).clearCause (16 + n) 4).modMon n fun x =>
    { x with tgt := none, cnt := 0, goodAt := none, railAt := none, cells := [], nextCell := 0, missRun := 0, wait := false,
             lastAt := s.ticks, wake := none }

/-- A monitor made UNSETTLED by missed samples (R107): the cells keep their values, which R112 counts from R102 on, and lose
their states. -/
def State.unsettleMissed (s : State) (n : Nat) : State :=
  (s.setMonState n .unsettled).modMon n fun x =>
    { x with tgt := none, cnt := 0, goodAt := none, railAt := none, missRun := 0,
             cells := x.cells.map fun c => (c.1, { c.2 with st := .unsettled, tgt := none, cnt := 0 }) }

/-! ### Tracking thresholds (R217) -/

/-- A window widened on both sides to at least `need` codes. -/
def widen (lo hi need : Nat) : Nat × Nat :=
  if lo + need ≤ hi then (lo, hi)
  else
    let d := (lo + need - hi + 1) / 2
    (lo - d, min 4095 (hi + d))

/-- LO and HI of a rail's power-good monitor as its sample finds them. -/
def State.trackThr (s : State) (n r : Nat) : Nat × Nat :=
  let g := if s.flag (F.MON_CTRL_MODE n) then 1 else 4
  let hys := s.get (F.MON_THR_HYS n)
  if s.enabled r then
    let v := s.vRefU r
    let lo := v * (1000 - s.get (F.TT_PG_PG_LO r)) / 15000000 / g * g
    let hi := (v * (1000 + s.get (F.TT_PG_PG_HI r)) + 14999999) / 15000000
    widen lo (min 4095 ((hi + g - 1) / g * g)) (2 * hys + 4)
  else widen (roundNat (s.get (F.TT_PG_OFF_V r)) g * g) 4095 (2 * hys + 4)

/-- LO and HI written before a sample, where the monitor tracks its rail. -/
def State.track (s : State) (n : Nat) : State :=
  let r := s.get (F.MON_CTRL_INPUT n)
  if r < 6 ∧ s.nodeMon r = some n ∧ s.flag (F.TT_PG_TRACK r) then
    let (lo, hi) := s.trackThr n r
    (s.set (F.MON_THR_LO n) lo).set (F.MON_THR_HI n) hi
  else s

/-! ### The window (R99 to R101) -/

/-- The move that a sample calls for. -/
def windowMove (st : MonState) (lo hi hys x : Nat) : Option MonState :=
  let inUp := decide (lo + hys ≤ x)
  let inDown := decide (x + hys ≤ hi)
  match st with
  | .unsettled =>
    if x < lo then some .below else if hi < x then some .above else if inUp && inDown then some .inside else none
  | .below => if hi < x then some .above else if inUp then some .inside else none
  | .inside => if x < lo then some .below else if hi < x then some .above else none
  | .above => if x < lo then some .below else if inDown then some .inside else none

/-- The move taken once CONFIRM samples in a row call for it (R101): the state after the sample, then the call and its
count. -/
def confirm (st : MonState) (call tgt : Option MonState) (cnt need : Nat) : MonState × Option MonState × Nat :=
  match call with
  | none => (st, none, 0)
  | some m =>
    let c := if tgt = some m then cnt + 1 else 1
    if need ≤ c then (m, none, 0) else (st, some m, c)

/-- A threshold as the comparison takes it: bits [11:2] in WINDOW mode (R99). -/
def State.thr (s : State) (n v : Nat) : Nat := if s.flag (F.MON_CTRL_MODE n) then v else v / 4 * 4

/-- THR and CONFIRM as they stand. -/
def State.wakeNow (s : State) (n : Nat) : Word × Nat := (s.word (Reg.addr (.MON_THR n)), s.get (F.MON_CTRL_CONFIRM n))

/-- THR and CONFIRM of the sample in hand: those its wake found, where the wake has begun before (R104). -/
def State.wakeOf (s : State) (n : Nat) : Word × Nat := (s.mon n).wake.getD (s.wakeNow n)

/-- The state, call and count after sample `x` for one window, under THR and CONFIRM as the sample's wake found them. -/
def State.judge (s : State) (n : Nat) (w : Word × Nat) (st : MonState) (tgt : Option MonState) (cnt x : Nat) :
    MonState × Option MonState × Nat :=
  let part (f : Field) : Nat := s.thr n (bitsOf w.1 f.lo f.width)
  confirm st (windowMove st (part (F.MON_THR_LO n)) (part (F.MON_THR_HI n)) (part (F.MON_THR_HYS n)) x) tgt cnt (w.2 + 1)

/-! ### The cell scan (R96, R112) -/

/-- A cell as CELLSCAN keeps it. -/
def MonX.cell (x : MonX) (k : Nat) : CellX := Tab.get (fun _ => {}) x.cells k

/-- The state of the worst of `c` cells. -/
def MonX.worst (x : MonX) (c : Nat) : MonState :=
  let st := (List.range c).map fun k => (x.cell k).st
  if st.contains .above then .above else if st.contains .below then .below
  else if st.all (· == .inside) then .inside else .unsettled

/-- The first of the pairs that no other exceeds under an order. -/
def bestOf (better : Nat → Nat → Bool) : List (Nat × Nat) → Option (Nat × Nat)
  | [] => none
  | a :: as => match bestOf better as with
    | none => some a
    | some b => if better b.2 a.2 then some b else some a

/-- The worst cell and its value among the cells converted (R112). -/
def MonX.worstCell (x : MonX) (c : Nat) : Option (Nat × Nat) :=
  let w := x.worst c
  let vals := (List.range c).filterMap fun k => (x.cell k).val.map fun v => (k, v, (x.cell k).st)
  match w with
  | .above => bestOf (fun a b => decide (b < a)) ((vals.filter fun y => y.2.2 == .above).map fun y => (y.1, y.2.1))
  | .below => bestOf (fun a b => decide (a < b)) ((vals.filter fun y => y.2.2 == .below).map fun y => (y.1, y.2.1))
  | _ => bestOf (fun a b => decide (b < a)) (vals.map fun y => (y.1, y.2.1))

/-! ### Balancing (R142, R151) -/

/-- One balancing output driven; its IMBALANCE is no longer PRESENT once it is low. -/
def State.setBal (s : State) (k : Nat) (b : Bool) : State :=
  let on := s.bit F.RES_BAL_BAL_ON k
  let s := s.setBit F.RES_BAL_BAL_ON k b
  let s := if b && !on then { s with bridge := { s.bridge with balAt := Tab.put (fun _ => none) s.bridge.balAt k (some (s.ticks + 2 ^ 23)) } }
    else if !b then { s with bridge := { s.bridge with balAt := Tab.put (fun _ => none) s.bridge.balAt k none } } else s
  if b then s else s.clearKey 42 "IMBALANCE" k

/-- The balancing outputs after a completed scan of all cells. -/
def State.balance (s : State) (n : Nat) : State :=
  let c := s.get F.RES_CFG_CELLS
  let x := s.mon n
  let vals := (List.range c).filterMap fun k => (x.cell k).val
  if s.nodeMon nodeCells ≠ some n ∨ vals.length < c then s
  else
    let sum := vals.sum
    (List.range 8).foldl (fun s k =>
      if c ≤ k ∨ !s.flag F.RES_BAL_BAL_EN ∨ !s.works 4 then s.setBal k false
      else
        let v := ((x.cell k).val).getD 0
        let start := decide (20 * s.get F.RES_BAL_BAL_START ≤ 3 * v)
        let d := s.get F.RES_BAL_BAL_DELTA
        if start ∧ 3 * sum + 20 * d * c ≤ 3 * c * v then s.setBal k true
        else if !start ∨ 3 * c * v < 3 * sum + 10 * d * c then s.setBal k false
        else s) s

/-! ### The fall of a rail (R224) -/

/-- Rail `r` has fallen below its OFF_V: a rail whose turn-off waits for it waits no longer for this one (R226). -/
def State.fallen (s : State) (r : Nat) : State :=
  s.part.railList.foldl (fun s q => s.modRail q fun x =>
    { x with fall := x.fall.map fun f => if f.stage = 0 ∧ bitAt f.deps r then { f with deps := f.deps - 2 ^ r } else f }) s

/-- A sample of the rail's monitor reads BELOW: of a disabled rail, which is then below OFF_V (R217), STUCK_HIGH is no longer
PRESENT. -/
def State.fallBelow (s : State) (r : Nat) : State :=
  let s := if s.enabled r then s else (s.clearKey 60 "STUCK_HIGH" r).fallen r
  match (s.rail r).fall with
  | none => s
  | some f =>
    match f.stage with
    | 0 => s
    | 1 => (((s.raiseFall r f "EARLY_FALL" "").fallNow r).endFall r)
    | 2 => s.endFall r
    | _ => (((s.raiseFall r f "STUCK_HIGH" "FELL=1" 1 r).clearKey 60 "STUCK_HIGH" r).endFall r)

/-! ### CHECK (R218, R219) -/

/-- The object of a CHECK is good. -/
def State.checkGood (s : State) (kind idx : Nat) : Bool :=
  if kind = 0 then s.railGood idx else s.monState idx == .inside && !s.failed 5

/-- The monitor whose samples judge a CHECK. -/
def State.checkMon (s : State) (kind idx : Nat) : Option Nat := if kind = 0 then s.nodeMon idx else some idx

/-- LAST_FAIL 0 and the next step (R209). -/
def State.ttPass (s : State) : State := (s.setFlag F.TT_STATUS_LAST_FAIL false).ttNext

/-- A failed CHECK: SHED sheds the rail and its dependents, whose mask the event carries. -/
def State.checkFail (s : State) (kind idx act : Nat) : State :=
  let rail := if kind = 0 then "RAIL=" ++ railName idx else ""
  if act = 1 ∧ kind = 0 then
    let rs := idx :: s.dependents idx
    let mask := "MASK=" ++ railList ((List.range 6).filter fun q => rs.contains q)
    ((s.ttFail "CHECK_FAIL" act rail mask).shedList rs "" none "").rodCheck
  else s.ttFail "CHECK_FAIL" act rail

/-- The CHECK in progress at a sample of monitor `n`. -/
def State.checkSample (s : State) (n : Nat) : State :=
  match s.tt.run with
  | some { wait := .check kind idx act dwell chatter seen till since wasGood, .. } =>
    if s.checkMon kind idx ≠ some n then s
    else
      let good := s.checkGood kind idx
      let seen' := if wasGood && !good then seen + 1 else seen
      let from_ := if kind = 0 then (s.mon n).railAt else (s.mon n).goodAt
      if chatter < seen' then s.checkFail kind idx act
      else if good && (match from_ with | some t => decide (t + 2 ^ dwell ≤ s.ticks) | none => false) then s.ttPass
      else s.ttWait (.check kind idx act dwell chatter seen' till since good)
  | _ => s

/-! ### Harvest clamps (R117) -/

/-- STATE of a harvest input (R135), from what holds: 0 IDLE, 1 COLD, 2 HARVEST, 3 OPEN, 4 CLAMP, 5 OFF. HARVEST stands
while the converter runs (assumption 26). -/
def State.harvState (s : State) (i : Nat) : State :=
  let x := s.harv i
  let fixed := s.dev != .run || s.get (F.HARV_CTRL_MODE i) == 0
  let k := if x.clampOwn || x.clampMon then 4
    else if !s.aon.running then 1
    else if fixed && x.off then 5
    else if x.voc ≠ VocPhase.none then 3
    else if s.aon.drain || s.aon.vkaClamp || x.idle then 0
    else 2
  s.set (F.HARV_STATUS_STATE i) k

/-- A clamp set or released; CLAMP is PRESENT while any stands. -/
def State.setClamp (s : State) (i : Nat) (own mon : Bool) : State :=
  let x := s.harv i
  let was := x.clampOwn || x.clampMon
  let s := (s.modHarv i fun y => { y with clampOwn := own, clampMon := mon }).harvState i
  if own || mon then (if was then s else s.raise 40 "CLAMP" ("INPUT=" ++ harvName i) (some 0) i)
  else s.clearKey 40 "CLAMP" i

/-! ### What a sample drives -/

/-- The stack and cell bits of RES_STATUS (R164). -/
def State.highBits (s : State) : State :=
  (s.setFlag F.RES_STATUS_CELL_HIGH (s.node nodeCells == .above)).setFlag F.RES_STATUS_STACK_HIGH (s.node nodeStack == .above)

/-- The supervisors of the nodes have changed otherwise than by a sample: by a write, or by a test or a failure of BP5. The
bits of RES_STATUS, the clamps and the balancing outputs follow (R97, R102, R109, R117, R142, R164). -/
def State.nodesMoved (s : State) : State :=
  let s := s.highBits.stopEvents.bridgeEdge
  let s := (List.range 4).foldl (fun s i =>
    if s.part.hasHarv i then s.setClamp i (s.harv i).clampOwn (s.node (11 + i) == .above) else s) s
  let s := if (s.nodeMon nodeCells).isSome then s else (List.range 8).foldl (fun s k => s.setBal k false) s
  s.evalRa

/-- The consumers of monitor `n` at a sample (R97, R117, R143, R218, R224). -/
def State.monConsumers (s : State) (n : Nat) (old : MonState) : State :=
  let i := s.get (F.MON_CTRL_INPUT n)
  let st := s.monState n
  let mine := s.nodeMon i == some n
  let s := s.modMon n fun x => { x with
    goodAt := if st = .inside then some (x.goodAt.getD s.ticks) else none,
    railAt := if i < 6 ∧ s.railGood i then some (x.railAt.getD s.ticks) else none }
  let s := if mine && decide (i < 6) && st == .below then s.fallBelow i else s
  let s := s.checkSample n
  let s := if mine && i == nodeBus && st == .above && old != .above then
    { s with bridge := { s.bridge with absEdge := true } } else s
  let s := if mine && (i == nodeBus || i == nodeStack || i == nodeCells) then s.highBits.stopEvents.bridgeEdge else s
  match inputHarv i with
  | some h => if mine && s.part.hasHarv h then s.setClamp h (s.harv h).clampOwn (st == .above) else s
  | none => s

/-- The event of a move (R108). -/
def State.moveEvent (s : State) (n : Nat) (old new : MonState) (value : Option Nat) (cell : Option Nat) : State :=
  let k := match new with | .below => 0 | .inside => 1 | .above => 2 | .unsettled => 3
  if old = new ∨ !s.bit (F.MON_CTRL_EVMASK n) k then s
  else
    let i := s.get (F.MON_CTRL_INPUT n)
    s.raiseMon n (k + 1) ("FROM=" ++ monStateName old ++ " TO=" ++ monStateName new ++
      (match value with | some v => " VALUE=" ++ vOut s.compat (v * inputLsb i) 1000 | none => "") ++
      (match cell with | some c => " CELL=" ++ dec (c + 1) | none => "")) (if value.isSome then none else some 0) false

/-- One sample taken with the value `x` (R92, R99 to R101, R96), under the thresholds that its wake found (R104). -/
def State.takeSample (s : State) (n x : Nat) : State :=
  let w := s.wakeOf n
  let i := s.get (F.MON_CTRL_INPUT n)
  let conv := s.flag (F.MON_CTRL_MODE n)
  let q := 2 ^ (12 - min 12 (s.get (F.MON_CTRL_RES n)))
  let x := if conv then x % 4096 / q * q else x % 4096
  let s := (s.set (F.MON_STATUS_MISS n) 0).modMon n fun y => { y with missRun := 0, wait := false, wake := none }
  let s := s.set (F.MON_STATUS_LAST n) (if conv then x else 0)
  let old := s.monState n
  if i = nodeCells then
    let c := s.get F.RES_CFG_CELLS
    let k := (s.mon n).nextCell % max 1 c
    let y := (s.mon n).cell k
    let (st, tgt, cnt) := s.judge n w y.st y.tgt y.cnt x
    let s := s.modMon n fun m => { m with cells := Tab.put (fun _ => {}) m.cells k { st := st, tgt := tgt, cnt := cnt, val := some x },
                                          nextCell := (k + 1) % max 1 c }
    let new := (s.mon n).worst c
    let s := ((if new = .unsettled then s else s.clearCause (16 + n) 4).setMonState n new).moveEvent n y.st st (some x) (some k)
    let s := if k + 1 = c then s.balance n else s
    s.monConsumers n old
  else
    let (st, tgt, cnt) := s.judge n w old (s.mon n).tgt (s.mon n).cnt x
    let s := (s.modMon n fun m => { m with tgt := tgt, cnt := cnt }).setMonState n st
    let s := if st = .unsettled then s else s.clearCause (16 + n) 4
    (s.moveEvent n old st (if conv then some x else none) none).monConsumers n old

/-- A missed sample (R107). -/
def State.missSample (s : State) (n : Nat) : State :=
  let s := (s.bump (F.MON_STATUS_MISS n)).modMon n fun x => { x with missRun := x.missRun + 1 }
  let old := s.monState n
  if (s.mon n).missRun < 8 then s
  else if old = .unsettled then s
  else ((s.unsettleMissed n).raiseMon n 4 ("FROM=" ++ monStateName old ++ " TO=UNSETTLED CAUSE=BLANKED") (some 0) true).monConsumers n old

/-- Monitor `n` is in work: a sample begun is completed (R92, R109). -/
def State.monLive (s : State) (n : Nat) : Bool :=
  s.dev == .run && s.works 5 && s.flag (F.MON_CTRL_EN n) && decide (n < s.part.mons)

/-- Monitor `n` takes samples at the level in force (R93). -/
def State.samples (s : State) (n : Nat) : Bool := s.monLive n && !(s.core.stby && s.get (F.MON_TIME_STBY_PER n) == 15)

/-- The tick edge of the next sample (R93): the divider chain off the tick counter gives the edges that are multiples of the
period, and a change of level acts from the first edge after it. -/
def State.monEdge (s : State) (n : Nat) : Nat :=
  let p := 2 ^ s.get (if s.core.stby then F.MON_TIME_STBY_PER n else F.MON_TIME_RUN_PER n)
  (max (s.mon n).lastAt s.core.levelAt) / p * p + p

/-- The sampling tick edge comes, and the wake begins: a tracking monitor has its thresholds written (R93, R217). -/
def State.wakeUp (s : State) (n : Nat) : State :=
  let s := s.reach (s.monEdge n)
  (s.modMon n fun x => { x with lastAt := s.ticks, wake := none }).track n

end Sys2Proof.Machine
end

