-- ==== Sys2Proof/Machine/HarvOps.lean ====
section
/-! DEFINITION. Harvest inputs as their settings, their samples and the converters drive them (R113 to R124). -/

namespace Sys2Proof.Machine

/-- MPP_SET gain and code LSB in µV of a harvest input (R113). -/
def harvGain (i : Nat) : Nat × Nat := [(40, 12500), (10, 3000), (1, 500), (20, 6250)].getD i (1, 1)

/-- The operating-point mode in force: FIXED until entry to RUN (R119). -/
def State.harvMode (s : State) (i : Nat) : Nat := if s.dev = .run then s.get (F.HARV_CTRL_MODE i) else 0

/-- The latest MPPSET sample lies outside the input's range. An input that is OFF has no result to be limited: the spec does not
say (DESIGN CHOICE, assumption 46). -/
def State.setOut (s : State) (i : Nat) : Bool :=
  !(s.harv i).off && !(within (harvRange i).1 (harvRange i).2 (s.get (F.HARV_SET_SET i)))

/-- FIXED_LIM and its event end with a sample within range, in whatever mode (R120, R134). -/
def State.setBack (s : State) (i : Nat) : State :=
  if s.setOut i then s else (s.setFlag (F.HARV_STATUS_FIXED_LIM i) false).clearKey 40 "FIXED_LIMIT" i

/-- The operating point under FIXED, held inside the range (R120); an input that is OFF reads the end that its sample is nearer to
(DESIGN CHOICE, assumption 46). -/
def State.fixedPoint (s : State) (i : Nat) : State :=
  let (lo, hi) := harvRange i
  let was := s.flag (F.HARV_STATUS_FIXED_LIM i)
  let s := s.set (F.HARV_STATUS_OP i) (max lo (min hi (s.get (F.HARV_SET_SET i))))
  if s.setOut i ∧ !was then
    (s.setFlag (F.HARV_STATUS_FIXED_LIM i) true).raise 40 "FIXED_LIMIT" ("INPUT=" ++ harvName i) (some 0) i
  else s.setBack i

/-- An open-circuit sample begins: the converter stops and the dwell runs (R121). -/
def State.startVoc (s : State) (i : Nat) : State :=
  (s.modHarv i fun x => { x with
    voc := .dwell, dwellAt := some (s.ticks + 2 ^ s.get (F.HARV_CTRL_DWELL i)),
    nextAt := some (s.ticks + 2 ^ s.get (F.HARV_CTRL_PERIOD i) * 32768) }).harvState i

/-- A write of a setting of the input takes effect (R122, R124). -/
def State.harvSet (s : State) (i : Nat) : State :=
  let m := s.harvMode i
  let s := s.modHarv i fun x => { x with
    discard := x.discard || x.voc == .convert, idle := x.idle && m == 1,
    voc := (if x.voc = VocPhase.convert then VocPhase.convert else .none), dwellAt := none, nextAt := none }
  let s := match m with
    | 0 => s.fixedPoint i
    | 2 => s.set (F.HARV_STATUS_OP i) (s.get (F.HARV_CTRL_HOLDV i))
    | _ => s
  if m = 1 ∧ (s.harv i).voc ≠ .convert then s.startVoc i else s.harvState i

/-- The open-circuit conversion of input `i` ends with VOC `x` (R121, R123). Where the registers hold a VMIN above VMAX, which
only HARVEST refuses (R136), the bound VMIN is taken first (DESIGN CHOICE, assumption 46). -/
def State.vocDone (s : State) (i x : Nat) : State :=
  let h := s.harv i
  let s := s.modHarv i fun y => { y with voc := .none, discard := false }
  if h.discard then (if s.harvMode i = 1 then s.startVoc i else s.harvState i)
  else
    let s := s.set (F.HARV_STATUS_VOC i) x
    if x < (harvRange i).1 then (s.modHarv i fun y => { y with idle := true }).harvState i
    else
      let v := roundNat (s.get (F.HARV_CTRL_FRAC i) * x) 100
      let lo := s.get (F.HARV_LIM_VMIN i)
      let hi := s.get (F.HARV_LIM_VMAX i)
      let pin := if v < lo then "VMIN" else if hi < v then "VMAX" else ""
      let was := s.flag (F.HARV_STATUS_PULLED i)
      let s := (s.modHarv i fun y => { y with idle := false }).set (F.HARV_STATUS_OP i) (if v < lo then lo else if hi < v then hi else v)
      let s := s.setFlag (F.HARV_STATUS_PULLED i) (pin != "")
      (if pin ≠ "" ∧ !was then s.pull ("MPP " ++ harvName i ++ " " ++ pin) else s).harvState i

/-- MPPSET sampled at the four inputs, in µV (R120). -/
def State.mppSample (s : State) (mpp : List Nat) : State :=
  (List.range 4).foldl (fun s i =>
    if !s.part.hasHarv i then s
    else
      let v := mpp.getD i 0
      let (g, l) := harvGain i
      let s := (s.set (F.HARV_SET_SET i) (satNat 4095 (roundNat (v * g) l))).modHarv i fun x => { x with off := decide (v < 10000) }
      (if s.harvMode i = 0 then s.fixedPoint i else s.setBack i).harvState i) s

/-- The converters' states after a change that concerns them all. -/
def State.harvStates (s : State) : State := (List.range 4).foldl (fun s i => if s.part.hasHarv i then s.harvState i else s) s

/-! ### Shared converters (R105) -/

/-- A Freight conversion asked for: the lowest-numbered idle converter takes it, else it waits at ADC0 (assumption 27). -/
def State.askFreight (s : State) (r : AdcReq) : State :=
  match (List.range 4).find? fun c => (s.adc c).busy.isNone with
  | some c => s.modAdc c fun x => { x with busy := some r }
  | none => s.modAdc 0 fun x => { x with freight := x.freight ++ [r] }

/-- The next conversion of a free converter: the lowest-numbered monitor first, then Freight in order (R105). -/
def State.nextConv (s : State) (c : Nat) : State :=
  s.modAdc c fun x =>
    match bitsSet x.mons 24, x.freight with
    | n :: _, _ => { x with busy := some (.monitor n), mons := maskMinus x.mons (2 ^ n) }
    | [], r :: rs => { x with busy := some r, freight := rs }
    | [], [] => { x with busy := none }

/-- The conversion of a converter ends with a result. -/
def State.convDone (s : State) (c x : Nat) : State :=
  match (s.adc c).busy with
  | none => s
  | some r =>
    let s := s.nextConv c
    match r with
    | .monitor n => if s.monLive n then s.takeSample n x else s
    | .voc i => s.vocDone i x
    | .freight => s

end Sys2Proof.Machine
end

