-- ==== Sys2Proof/Machine/StoreOps.lean ====
section
/-! DEFINITION. The nonvolatile store and its controller (16_nv_store): slots, log records, the order of the work (R442),
the timetable area and its checks (R198, R204, R454), commits (R455), and the banks (R450). -/

namespace Sys2Proof.Machine

/-! ### Bytes and slots (R440, R447) -/

/-- A byte as stored where nothing is programmed. -/
def erasedByte : Byte := 0xFF#8

/-- The `k` bytes of a number, most significant first. -/
def beBytes : Nat → Nat → List Byte
  | 0, _ => []
  | k + 1, n => BitVec.ofNat 8 (n / 256 ^ k) :: beBytes k n

/-- The number of bytes read most significant first. -/
def beNat (bs : List Byte) : Nat := bs.foldl (fun n b => n * 256 + b.toNat) 0

/-- The 16 bytes of slot `k`. -/
def State.slot (s : State) (k : Nat) : List Byte := Tab.getList (fun _ => erasedByte) s.store.bytes (16 * k) 16

/-- A slot is wholly erased. -/
def slotErased (bs : List Byte) : Bool := bs.all (· == erasedByte)

/-- A log slot is intact: its CRC matches and it is not wholly erased (R447). -/
def slotIntact (bs : List Byte) : Bool := !slotErased bs && crc16 (bs.take 14) == beNat (bs.drop 14)

/-- The bytes of a slot stored. -/
def State.putBytes (s : State) (k : Nat) (bs : List Byte) : State :=
  { s with store := { s.store with bytes := Tab.putList (fun _ => erasedByte) s.store.bytes (16 * k) bs } }

/-- A slot's content replaced; RECORDS, TORN and ERASED follow a log slot. -/
def State.putSlot (s : State) (k : Nat) (bs : List Byte) : State :=
  let one (b : Bool) : Nat := if b then 1 else 0
  let old := s.slot k
  let move (s : State) (f : Field) (p : List Byte → Bool) : State := s.set f (s.get f + one (p bs) - one (p old))
  if k < 256 then s.putBytes k bs
  else
    let s := (move s F.NV_LOG_RECORDS slotIntact).putBytes k bs
    let s := move s F.NV_LOG2_ERASED slotErased
    move s F.NV_LOG2_TORN fun b => !slotIntact b && !slotErased b

/-- 16 free bytes. -/
def State.drawSlot (s : State) : List Byte × State :=
  let (a, s) := s.draw
  let (b, s) := s.draw
  let (c, s) := s.draw
  let (d, s) := s.draw
  (beBytes 4 a.toNat ++ beBytes 4 b.toNat ++ beBytes 4 c.toNat ++ beBytes 4 d.toNat, s)

/-- A slot whose content is lost: free bytes. -/
def State.loseSlot (s : State) (k : Nat) : State := let (bs, s) := s.drawSlot; s.putSlot k bs

/-! ### Log records (R444, R446, R448) -/

/-- The slot of the record with sequence number `n`. -/
def logSlot (n : Nat) : Nat := 256 + n % 256

/-- The bytes of a record. -/
def recBytes (seq typ src tick : Nat) (payload : List Byte) : List Byte :=
  let b := beBytes 2 seq ++ beBytes 1 typ ++ beBytes 1 src ++ beBytes 4 tick ++ payload
  b ++ beBytes 2 (crc16 b)

/-- NEWEST. -/
def State.newest (s : State) : Nat := s.get F.NV_LOG_NEWEST

/-- The sequence number of the next record. -/
def State.nextSeq (s : State) : Nat := if s.store.empty then 0 else (s.newest + 1) % 65536

/-- The record with sequence number `n` stands intact in its slot (R447). -/
def State.holds (s : State) (n : Nat) : Bool :=
  let b := s.slot (logSlot n)
  slotIntact b && beNat (b.take 2) == n

/-- OLDEST: the lowest intact number from NEWEST − 255 to NEWEST. -/
def State.oldest (s : State) : Nat :=
  (((List.range 256).map fun i => (s.newest + 65536 - 255 + i) % 65536).find? s.holds).getD s.newest

/-- The next record is a LAP. -/
def State.lapDue (s : State) : Bool := !s.store.empty && s.nextSeq % 256 == 0

/-! ### The area (R196, R454) -/

/-- The headers of an area from word `pos` on, as timetable, first word and length. -/
def walkArea (word : Nat → Word) : Nat → Nat → Nat → List (Nat × Nat × Nat)
  | 0, _, _ => []
  | fuel + 1, pos, low =>
    let w := word pos
    let tt := bitsOf w 25 3
    let len := bitsOf w 16 9 + 1
    if pos < 512 ∧ w ≠ 0xFFFFFFFF#32 ∧ bitsOf w 28 4 = 15 ∧ low ≤ tt ∧ pos + len ≤ 512 then
      (tt, pos, len) :: walkArea word fuel (pos + len) (tt + 1)
    else []

/-- A step of TTn, of `n` steps and at place `k`, that R204 refuses. -/
def stepBad (tt n k : Nat) (w : Word) : Bool :=
  let bad :=
    match stepOp w with
    | 0 => 8 ≤ bitsOf w 24 4 || bitsOf w 0 24 != 0
    | 1 =>
      let t := bitsOf w 24 4
      let t1 := bitsOf w 8 8
      let t2 := bitsOf w 0 8
      8 ≤ t || bitsOf w 16 8 != 0 || (if t < 6 then t1 == 0 || t2 == 0 else t1 != 0 || t2 != 0)
    | 2 =>
      let c := bitsOf w 24 4
      let act := bitsOf w 16 2
      let m := bitsOf w 0 12
      8 ≤ c || (c == 0 && (m == 0 || act != 0)) || act == 1 || (c != 7 && bitsOf w 18 6 != 0) ||
        (tt == 4 && ((c != 0 && m == 0) || act == 3))
    | 3 =>
      let kind := bitsOf w 27 1
      let idx := bitsOf w 22 5
      let act := bitsOf w 20 2
      let m := bitsOf w 0 10
      m == 0 || m * 2 ^ bitsOf w 10 4 < 2 ^ bitsOf w 17 3 || (if kind == 0 then 6 ≤ idx else 24 ≤ idx) ||
        (kind == 1 && act == 1) || (tt == 4 && act == 3)
    | 4 =>
      bitsOf w 26 2 == 3 || bitsOf w 9 9 != 0 || n ≤ bitsOf w 0 9 || (tt == 4 && bitsOf w 18 8 == 0)
    | 5 =>
      let v := signedOf 8 (bitsOf w 0 8)
      6 ≤ bitsOf w 24 4 || bitsOf w 9 15 != 0 || decide (v < -100 ∨ 100 < v)
    | 6 => bitsOf w 16 12 != 0
    | 7 => bitsOf w 8 20 != 0
    | _ => true
  let last := stepOp w == 7 || (tt != 4 && stepOp w == 4 && bitsOf w 26 2 == 0 && bitsOf w 18 8 == 0)
  bad || (k + 1 == n && !last)

/-- The first step that R204 refuses. -/
def firstBad (tt n : Nat) : Nat → List Word → Option Nat
  | _, [] => none
  | k, w :: ws => if stepBad tt n k w then some k else firstBad tt n (k + 1) ws

/-- The bytes of words, each most significant byte first. -/
def wordBytes (ws : List Word) : List Byte := (ws.map fun w => beBytes 4 w.toNat).flatten

/-- A header word (R203). -/
def headerWord (tt n crc : Nat) : Word := BitVec.ofNat 32 (15 * 2 ^ 28 + tt * 2 ^ 25 + n * 2 ^ 16 + crc)

/-- A stored timetable passes the check of R198. -/
def ttPasses (tt : Nat) (words : List Word) : Bool :=
  match words with
  | [] => false
  | h :: ws =>
    h == headerWord tt ws.length (crc16 (wordBytes ws)) && within 1 511 ws.length && (firstBad tt ws.length 0 ws).isNone

/-- The words of TTn, its header first; none where it is not loaded. -/
def State.ttWords (s : State) (n : Nat) : List Word :=
  Tab.getList (fun _ => 0xFFFFFFFF#32) s.tt.ram (s.get (F.TT_DIR_START n)) (s.get (F.TT_DIR_LEN n))

/-- NOTT4 and INVALID clear with what they stand for (R235, R415). -/
def State.ttCleared (s : State) : State :=
  let s := (List.range 8).foldl (fun s n => if s.ttValid n then s.clearKey 60 "INVALID" n else s) s
  if s.tt4Ok then s.clear 62 "NOTT4" else s

/-- The walk of the RAM copy: TT_DIRn, FREE, and VALID by R198. -/
def State.judgeArea (s : State) : State :=
  let hs := walkArea s.ttWord 8 0 0
  let s := (List.range 8).foldl (fun s n =>
    match hs.find? fun h => h.1 == n with
    | some (_, a, len) =>
      let s := (s.set (F.TT_DIR_START n) a).set (F.TT_DIR_LEN n) len
      s.setFlag (F.TT_DIR_VALID n) (ttPasses n (s.ttWords n))
    | none => ((s.set (F.TT_DIR_START n) 0).set (F.TT_DIR_LEN n) 0).setFlag (F.TT_DIR_VALID n) false) s
  let s := s.set F.TT_VALID_FREE (512 - (hs.map fun h => h.2.2).sum)
  (s.set F.TT_VALID_VALID (maskOf ((List.range 8).filter s.ttValid))).ttCleared

/-! ### Commits (R232, R455, R456) -/

/-- The commits in progress and waiting, in order. -/
def State.commitReqs (s : State) : List CommitReq := (s.tt.commit.map Commit.req).toList ++ s.tt.commits

/-- A commit of TTn is in progress or waits. -/
def State.committing (s : State) (n : Nat) : Bool := s.commitReqs.any fun c => c.tt == n

/-- The words TTn will take once every commit asked for has ended, its header included. -/
def State.plannedLen (s : State) (n : Nat) : Nat :=
  s.commitReqs.foldl (fun k c => if c.tt = n then c.words.length else k) (s.get (F.TT_DIR_LEN n))

/-- The words that the timetables other than TTn will take. -/
def State.plannedOthers (s : State) (n : Nat) : Nat :=
  (((List.range 8).filter (· != n)).map s.plannedLen).sum

/-- The next commit begins where none is in progress: step 1 of R455. -/
def State.openCommit (s : State) : State :=
  match s.tt.commit, s.tt.commits with
  | none, c :: cs =>
    let part (n : Nat) : List Word := if n = c.tt then c.words else s.ttWords n
    let area := ((List.range 8).map part).flatten
    let first := ((List.range c.tt).map fun n => (part n).length).sum
    let s := { s with tt := { s.tt with
      commits := cs,
      commit := some { req := c, area := area, slot := first / 4, stop := if area.length < 512 then area.length / 4 + 1 else 128 } } }
    s.setFlag F.TT_STATUS_LOADING true
  | _, _ => s

/-- The four words of slot `k` of a new area, the words after its end erased. -/
def areaSlot (area : List Word) (k : Nat) : List Byte :=
  wordBytes ((List.range 4).map fun i => area.getD (4 * k + i) 0xFFFFFFFF#32)

/-- Step 4 of R455 begins: the RAM copy takes the new area, and every timetable is judged (R198, R456). -/
def State.applyArea (s : State) (area : List Word) : State :=
  { s with tt := { s.tt with ram := Tab.putList (fun _ => 0xFFFFFFFF#32) [] 0 area } }.judgeArea

/-- The commit ends. -/
def State.endCommit (s : State) : State :=
  match s.tt.commit with
  | none => s
  | some c =>
    let s := { s with tt := { s.tt with commit := none } }.setFlag F.TT_STATUS_LOADING false
    ((s.raise 57 "COMMITTED" ("TT=" ++ dec c.req.tt) (some c.req.tt)).done c.req.owed .ok).openCommit

/-! ### The work of the controller (R441, R442, R449) -/

/-- The slot write in progress, with BUSY. -/
def State.setJob (s : State) (j : Option SlotJob) : State :=
  { s with store := { s.store with job := j } }.setFlag F.NV_STAT_BUSY j.isSome

/-- A token taken, if any is left. -/
def State.spend (s : State) : State := s.set F.NV_LOG2_TOKENS (s.get F.NV_LOG2_TOKENS - 1)

/-- A record's write begins; where a LAP is due it is the LAP that is written, and the record waits (R448). -/
def State.writeRec (s : State) (why : SlotWhy) (typ src tick : Nat) (payload : List Byte) : State :=
  let n := s.nextSeq
  (s.setJob (some { slot := logSlot n, bytes := recBytes n typ src tick payload, why := why })).spend

/-- A STORE record (R445). -/
def State.writeStore (s : State) (why : SlotWhy) (kind tt laps : Nat) : State :=
  s.writeRec why 3 57 s.stamp (beBytes 1 kind ++ beBytes 1 tt ++ beBytes 4 laps)

/-- The LAP record. -/
def State.writeLap (s : State) : State := s.writeStore .lap 3 0 (s.get F.NV_LAPS_LAPS + 1)

/-- NOTICE records at the head of the queue for which no token is left, dropped. -/
def State.dropHeads (s : State) : Nat → State
  | 0 => s
  | fuel + 1 =>
    match s.flt.logQ with
    | r :: rs =>
      if r.cls = 0 ∧ s.get F.NV_LOG2_TOKENS = 0 then
        State.dropHeads ({ s with flt := { s.flt with logQ := rs } }.logDropped) fuel
      else s
    | [] => s

/-- The bytes a scrub refresh writes: from the RAM copies where they stand behind the slot, else the slot's own (R458). -/
def State.refreshBytes (s : State) (k : Nat) : List Byte :=
  let b := (k - 128) / 64
  if k < 128 then wordBytes ((List.range 4).map fun i => s.ttWord (4 * k + i))
  else if k < 256 ∧ b = s.get F.NV_STAT_BANK ∧ !s.store.bank.isEmpty then (s.store.bank.drop (16 * ((k - 128) % 64))).take 16
  else s.slot k

/-- The next slot write of a commit. -/
def State.commitJob (s : State) (c : Commit) : State :=
  if !c.begun then (if s.lapDue then s.writeLap else s.writeStore .ttBegin 1 c.req.tt 0)
  else if c.slot < c.stop then s.setJob (some { slot := c.slot, bytes := areaSlot c.area c.slot, why := .commit })
  else if s.lapDue then s.writeLap
  else s.writeStore .ttEnd 2 c.req.tt 0

/-- The next piece of work taken, where no slot write is in progress and BP9 works. -/
def State.startJob (s : State) : State :=
  if s.store.job.isSome || !s.works 9 then s
  else
    let s := s.dropHeads 32
    match s.flt.logQ, s.tt.commit, s.store.save, s.store.refresh with
    | r :: rs, _, _, _ =>
      if s.lapDue then s.writeLap
      else { s with flt := { s.flt with logQ := rs } }.writeRec .log r.typ r.src r.tick r.payload
    | [], some c, _, _ => s.commitJob c
    | [], none, some v, _ =>
      s.setJob (some { slot := 128 + 64 * v.bank + v.next, bytes := (v.bytes.drop (16 * v.next)).take 16, why := .save })
    | [], none, none, k :: ks =>
      { s with store := { s.store with refresh := ks } }.setJob (some { slot := k, bytes := s.refreshBytes k, why := .scrub })
    | [], none, none, [] => s

/-- A commit asked for: it begins at once where none is in progress. -/
def State.askCommit (s : State) (c : CommitReq) : State :=
  ({ s with tt := { s.tt with commits := s.tt.commits ++ [c] } }.openCommit).startJob

/-! ### Banks (R450) -/

/-- The 1,024 bytes of a bank. -/
def State.bankBytes (s : State) (b : Nat) : List Byte := Tab.getList (fun _ => erasedByte) s.store.bytes (0x0800 + 0x400 * b) 1024

/-- The bank is valid; the cheap tests stand first. -/
def bankValid (bs : List Byte) : Bool :=
  beNat ((bs.drop 1010).take 2) == 1 && decide (beNat ((bs.drop 1008).take 2) ≤ 168) &&
    crc16 (bs.take 1022) == beNat ((bs.drop 1022).take 2)

/-- GEN of a bank. -/
def bankGen (bs : List Byte) : Nat := beNat ((bs.drop 1016).take 4)

/-- `n` entries from the front of a bank's bytes, as address and value. -/
def bankEntries : Nat → List Byte → List (Nat × Nat)
  | 0, _ => []
  | n + 1, bs => (beNat (bs.take 2), beNat ((bs.drop 2).take 4)) :: bankEntries n (bs.drop 6)

/-- The entries in use. -/
def bankImage (bs : List Byte) : List (Nat × Nat) := bankEntries (beNat ((bs.drop 1008).take 2)) bs

/-- A bank's bytes with its entries and its generation. -/
def makeBank (entries : List (Nat × Nat)) (gen : Nat) : List Byte :=
  let e := (entries.map fun x => beBytes 2 x.1 ++ beBytes 4 x.2).flatten
  let b := e ++ List.replicate (1008 - e.length) erasedByte ++ beBytes 2 entries.length ++ beBytes 2 1 ++ beBytes 4 0 ++
    beBytes 4 gen ++ beBytes 2 0
  b ++ beBytes 2 (crc16 b)

/-- Entries as an image by address, the later of two standing. -/
def imageOf (entries : List (Nat × Nat)) : Tab (Option Word) :=
  entries.foldl (fun t e => Tab.put (fun _ => none) t e.1 (some (BitVec.ofNat 32 e.2))) []

end Sys2Proof.Machine
end

