-- ==== Sys2Proof/Machine/Timebase.lean ====
section
/-! DEFINITION. The self-timed core (03_self_timed_core): the VCORE level, the tick source, the rod, and the Freight jobs
that have no other home. -/

namespace Sys2Proof.Machine

/-! ### VCORE (R66 to R69) -/

/-- Present VCORE in mV. -/
def State.setVcore (s : State) (mV : Nat) : State := { s with core := { s.core with vcore := mV } }

/-- VCORE_TO_STBY (R66): the conditions have held together for 1,024 ticks. -/
def execVcoreToStby (s : State) : Out :=
  inRun s fun s =>
    match s.core.stbyAt with
    | some t =>
      if s.core.stby ∨ !s.standbyOk then s
      else
        let s := s.reach (t + 1024)
        { s with core := { s.core with stby := true, levelAt := s.ticks, lowAt := none } }.setVcore (s.get F.SYS_VCORE_STBY_LVL * 10)
    | none => s

/-- VCORE_TO_RUN (R66): a condition has ceased and VCORE rises; below 0.80 V it gets there at GOOD_RISE. -/
def execVcoreToRun (s : State) : Out :=
  inRun s fun s =>
    if !s.core.stby ∨ s.standbyOk then s
    else
      let s := { s with core := { s.core with stby := false, levelAt := s.ticks } }
      if s.flag F.SYS_VCORE_GOOD then s.setVcore (s.get F.SYS_VCORE_RUN_LVL * 10) else s

/-- GOOD_RISE (R68): VCORE has reached 0.80 V; outside RUN its level is 0.90 V (R66). -/
def execGoodRise (s : State) : Out :=
  live s fun s =>
    if s.flag F.SYS_VCORE_GOOD then s
    else
      let s := { s.setFlag F.SYS_VCORE_GOOD true with core := { s.core with lowAt := none } }.clear 63 "VCORE_LOW"
      (if s.core.stby then s else s.setVcore (if s.dev = .run then s.get F.SYS_VCORE_RUN_LVL * 10 else 900)).evalRa

/-- GOOD_FALL (R68): VCORE has fallen below 0.80 V; turn-on delays under R67 start again (R278). -/
def execGoodFall (s : State) : Out :=
  live s fun s =>
    if !s.flag F.SYS_VCORE_GOOD then s
    else
      let s := (s.setFlag F.SYS_VCORE_GOOD false).setVcore (min s.core.vcore 799)
      let s := { s with core := { s.core with lowAt := if s.core.stby then none else some (s.ticks + 2) } }
      s.breakDelays.evalRa

/-- VCORE_LOW_TIMER (R69): GOOD has stayed 0 for 2 ticks with VCORE set to RUN_LVL. -/
def execVcoreLowTimer (s : State) : Out :=
  live s fun s =>
    match s.core.lowAt with
    | some t => { s.reach t with core := { s.core with lowAt := none } }.raise 63 "VCORE_LOW"
    | none => s

/-! ### Tick source and rod (R73, R76 to R80) -/

/-- ROD_STATE. -/
def State.rod (s : State) : Nat := s.get F.SYS_TIMEBASE_ROD_STATE

/-- XTAL_QUALIFIED (R73): the crystal drives the tick; a rod in HOLDOVER acquires again (R77). -/
def execXtalQualified (s : State) : Out :=
  anyDev s fun s =>
    if !s.aon.running ∨ s.aon.xtal then s
    else
      let s := { s with aon := { s.aon with xtal := true } }.clear 63 "XTAL_LOST"
      (if s.rod = 4 then { s.set F.SYS_TIMEBASE_ROD_STATE 1 with core := { s.core with coarseN := 10, outRun := 0, winAt := some s.ticks } }
        else s).evalRa

/-- XTAL_LOST (R73): the tick falls back to RC, and a running rod enters HOLDOVER (R77, R79). -/
def execXtalLost (s : State) : Out :=
  anyDev s fun s =>
    if !s.aon.xtal then s
    else
      let s := { s with aon := { s.aon with xtal := false } }.raise 63 "XTAL_LOST"
      (if s.rod = 0 then s else s.set F.SYS_TIMEBASE_ROD_STATE 4).evalRa

/-- The window or coarse step in progress ends `n` ticks after its start, and the next begins (R72, R76, R77). -/
def State.windowEnds (s : State) (n : Nat) : State :=
  let s := match s.core.winAt with | some t => s.reach (t + n) | none => s
  { s with core := { s.core with winAt := some s.ticks } }

/-- ROD_COARSE_STEP (R77): one of the 10 steps of the coarse search, of 2 ticks each. -/
def execRodCoarseStep (trim : Nat) (s : State) : Out :=
  live s fun s =>
    if s.rod = 1 ∧ s.aon.xtal ∧ s.core.coarseN < 10 then
      { s.windowEnds 2 with core := { (s.windowEnds 2).core with coarse := trim, coarseN := s.core.coarseN + 1 } }
    else s

/-- A consumer at its boundary adopts the newest calibration (R78). -/
def State.adopt (s : State) (c : Nat) : State :=
  { s with core := { s.core with gens := Tab.put (fun _ => none) s.core.gens c none } }

/-- A new calibration under the next generation number: a consumer with an edge outstanding keeps the one it uses (R76,
R78). -/
def State.publish (s : State) (count : Nat) (taps : List Nat) : State :=
  let g := s.get F.SYS_TIMEBASE_ROD_GEN
  let gens := s.rodBusy.foldl (fun t c => if (Tab.get (fun _ => none) t c).isSome then t else Tab.put (fun _ => none) t c (some g))
    s.core.gens
  { s.set F.SYS_TIMEBASE_ROD_GEN (g + 1) with core := { s.core with calCount := count, calTaps := taps, gens := gens } }

/-- A Freight job completes a period for one of its heads or phases, which has lasted since the period's start (R88, R90). -/
def State.jobDone (s : State) (j i : Nat) : State :=
  let x := s.job j i
  let y : JobX := { x with since := some s.ticks, late := false, last := some (s.ticks, s.ticks - x.since.getD s.ticks) }
  { s with core := { s.core with jobs := Tab.put (fun _ => {}) s.core.jobs (32 * j + i) y } }

/-- The rod's state after a window (R77, R80). -/
def State.rodJudge (s : State) (good : Bool) : State :=
  if good then
    let s := { s with core := { s.core with outRun := 0 } }
    if s.rod = 2 then s else (s.set F.SYS_TIMEBASE_ROD_STATE 2).clear 63 "ROD_TRACKING"
  else
    let s := { s with core := { s.core with outRun := s.core.outRun + 1 } }
    if s.rod = 2 ∧ 2 ≤ s.core.outRun then (s.set F.SYS_TIMEBASE_ROD_STATE 3).raise 63 "ROD_TRACKING" else s

/-- ROD_WINDOW_END (R76): a window of 64 ticks ends: the error, the fine trim, the calibration and its publication, the
state. No window is judged while the rod is STOPPED, in HOLDOVER, or in its coarse search (R77, R79). -/
def execRodWindowEnd (count : Nat) (taps : List Nat) (s : State) : Out :=
  live s fun s =>
    if !(within 1 3 s.rod) ∨ !s.aon.xtal ∨ (s.rod = 1 ∧ s.core.coarseN < 10) then s
    else
      let err : Int := (count : Int) - 500000
      let s := s.windowEnds 64
      let s := (s.sset F.SYS_TIMEBASE_ROD_ERR (clampInt (-128) 127 err)).set F.SYS_ROD_COUNT count
      let s := { s with core := { s.core with fine := s.core.fine + (if 0 < err then -1 else if err < 0 then 1 else 0) } }
      (((s.publish count taps).jobDone 3 0).rodJudge (decide (-10 ≤ err ∧ err ≤ 10))).evalRa

/-- TEST_OSC_TRIM (R490): the trim of the test oscillator while the crystal is qualified. -/
def execTestOscTrim (trim : Nat) (s : State) : Out :=
  anyDev s fun s => if s.aon.xtal then { s with core := { s.core with oscTrim := trim } } else s

/-! ### Freight (R87, R88) -/

/-- A job reports FAILED: a partition that serves it has failed (R88, R266). -/
def State.jobFailed (s : State) (j : Nat) : Bool := (jobUnits s.part j).any fun i => s.failed (s.jobBp j i)

/-- The deadlines of a job: four nominal periods after the start of each period that is not yet reported late (R88). -/
def State.jobDeadlines (s : State) (j : Nat) : List (Nat × Nat) :=
  match jobPeriod j with
  | none => []
  | some p =>
    (jobUnits s.part j).filterMap fun i =>
      let x := s.job j i
      match x.since with
      | some t => if !x.late && x.paused.isNone && s.jobCond j i && s.works (s.jobBp j i) then some (i, t + 4 * p) else none
      | none => none

/-- The earliest of a list of deadlines. -/
def earliest : List (Nat × Nat) → Option (Nat × Nat)
  | [] => none
  | d :: ds => match earliest ds with
    | some e => if e.2 < d.2 then some e else some d
    | none => some d

/-- FREIGHT_LATE_CHECK (R88): the period that reaches its deadline first is late: LATE and its event. Time under test does not
count (R436). -/
def execFreightLateCheck (j : Fin 10) (s : State) : Out :=
  inRun s fun s =>
    match earliest (s.jobDeadlines j) with
    | none => s
    | some (i, t) =>
      let s := s.reach t
      let s := { s with core := { s.core with jobs := Tab.put (fun _ => {}) s.core.jobs (32 * j + i) { s.job j i with late := true } } }
      (s.setBit F.SYS_FREIGHT_LATE j true).raise 63 "FREIGHT_LATE"

/-- SCRUB_SRAM (R87): a portion of SRAM scrubbed; the last portion completes the pass. -/
def execScrubSram (done : Bool) (s : State) : Out := freight s fun s => if done then s.jobDone 0 0 else s

end Sys2Proof.Machine
end

