-- ==== Sys2Proof/Machine/Bridge.lean ====
section
/-! DEFINITION. The commands of the stack and the bridge (06_reservoir), with what the gauge learns at a bridge cycle
(R172 to R177). -/

namespace Sys2Proof.Machine

/-! ### Learning (R172 to R175) -/

/-- A measured value filtered: the first as it is, each later one a quarter of the way (R172). -/
def filtered (old new : Nat) : Nat := if old = 0 then new else ((old : Int) + roundDiv ((new : Int) - old) 4).toNat

/-- CAP_LOW by CAP_MEAS (R173). -/
def State.capLow (s : State) : State :=
  let m := s.get F.GAUGE_CAP_CAP_MEAS
  if m ≠ 0 ∧ 10 * m < 8 * s.get F.GAUGE_CAP_CAP_NOM then
    if s.causePresent 46 2 then s else s.raise 46 "CAP_LOW"
  else s.clear 46 "CAP_LOW"

/-- A span that has closed with charge `q` in mA × ns over 1.000 V (R172). -/
def State.capClose (s : State) (q : Int) : State :=
  let c := (roundDiv q 10000000000).toNat
  let nom := s.get F.GAUGE_CAP_CAP_NOM
  let s := s.jobDone 8 0
  if nom ≤ 2 * c ∧ 2 * c ≤ 3 * nom then
    (s.set F.GAUGE_CAP_CAP_MEAS (satNat 65535 (filtered (s.get F.GAUGE_CAP_CAP_MEAS) c))).capLow
  else s.raise 46 "LEARN_REJECT" ("CAP=" ++ capOut s.compat c 100) none

/-- The stack current is within 5 % of the mean of a span. -/
def steady (p : SpanX) (i : Int) : Bool := decide (20 * (i * p.n - p.sumI).natAbs ≤ p.sumI.natAbs)

/-- The learning span at a cycle of CHARGE (R172): it opens after 64 steady ticks between FLOOR_V and FULL_V − 1.200 V, is
abandoned when the current leaves the band, and closes after a rise of 1.000 V. -/
def State.capLearn (s : State) (v : Nat) (i : Int) : State :=
  let fresh : SpanX := { since := s.ticks, sumI := i, n := 1, v0 := none, q := 0 }
  let put (s : State) (p : Option SpanX) : State := { s with gauge := { s.gauge with span := p } }
  if s.mode ≠ 2 then put s none
  else match s.gauge.span with
  | none => put s (some fresh)
  | some p =>
    if !steady p i then put s (some fresh)
    else
      let p := { p with sumI := p.sumI + i, n := p.n + 1 }
      match p.v0 with
      | none =>
        let inside := decide (s.get F.RES_CFG_FLOOR_V ≤ v ∧ v * 625 + 120000 ≤ s.fullV * 100)
        put s (some (if p.since + 64 ≤ s.ticks ∧ inside then { p with v0 := some v, q := 0 } else p))
      | some v0 =>
        let q := p.q + i * 40000 / (s.get F.BR_LIM_FREQ : Int)
        if v0 + 160 ≤ v then (put s none).capClose q else put s (some { p with q := q })

/-- A step of the stack current of 5 A or more between two cycles measures the ESR (R174). -/
def State.esrLearn (s : State) (v : Nat) (i : Int) : State :=
  let s' := match s.gauge.prev with
    | some (pv, pi) =>
      let di := (i - pi).natAbs
      if 5000 ≤ di then
        s.set F.GAUGE_ESR_ESR_MEAS (satNat 4095 (filtered (s.get F.GAUGE_ESR_ESR_MEAS)
          (roundNat (62500 * ((v : Int) - pv).natAbs) di)))
      else s
    | none => s
  { s' with gauge := { s'.gauge with prev := some (v, i) } }

/-- The efficiency in sustained SUPPORT above 20 W (R175). -/
def State.etaLearn (s : State) (v : Nat) (i pbus : Int) : State :=
  if s.mode ≠ 4 ∨ -20 ≤ pbus then { s with gauge := { s.gauge with etaFrom := none } }
  else match s.gauge.etaFrom with
  | none => { s with gauge := { s.gauge with etaFrom := some s.ticks } }
  | some t =>
    let stack := v * i.natAbs
    if t + 32768 ≤ s.ticks ∧ 0 < stack then
      s.set F.GAUGE_ESR_ETA_MEAS (satNat 127 (filtered (s.get F.GAUGE_ESR_ETA_MEAS) (roundNat (pbus.natAbs * 16000000) stack)))
    else s

/-- The bus-load power, and its energy in nJ over `num / (10000 × den)` µs, at the stack, while a sheet is claimed (R177, R188,
R190). -/
def State.loadMeas (s : State) (pload num den : Nat) : State :=
  if !s.flag F.GAUGE_CFG_LOAD_SNS then s.set F.GAUGE_POWER_PLOAD 0
  else
    let s := s.set F.GAUGE_POWER_PLOAD (satNat 65535 pload)
    if 0 < s.claims ∧ !s.compat then
      { s with gauge := { s.gauge with acc := s.gauge.acc + num * pload / (den * s.etaUse) } }
    else s

/-! ### Measurements of the bridge (R139, R140, R145) -/

/-- FULL and its timer at a stack measurement (R140). -/
def State.fullCheck (s : State) : State :=
  let v := s.get F.RES_STATUS_VSTACK * 625
  let full := s.fullV * 100
  let near := decide (full ≤ v + 5000 ∧ v ≤ full + 5000) && decide (s.sget F.RES_STATUS_ISTACK < 500)
  let s := { s with bridge := { s.bridge with fullAt := if near then some (s.bridge.fullAt.getD s.ticks) else none } }
  if v + 20000 < full then (s.setFlag F.RES_STATUS_FULL false).clear 42 "FULL" else s

/-- LIMITED and the timers that hang on it (R145, R163). -/
def State.limitMeas (s : State) (lim : Bool) : State :=
  let s := s.setFlag F.BR_STATUS_LIMITED lim
  let s := { s with bridge := { s.bridge with
    limAt := (if lim && s.mode == 4 then some (s.bridge.limAt.getD s.ticks) else none),
    freeAt := (if lim then none else some (s.bridge.freeAt.getD s.ticks)) } }
  match s.bridge.freeAt with
  | some t => if t + 32 ≤ s.ticks then s.clear 43 "OVERLOAD" else s
  | none => s

/-- The end of a switching cycle for the counts of R148: a phase above 1.5 × ILIM skips its next cycle; one that neither
was nor skips has broken its run. -/
def State.cycleShorts (s : State) : State :=
  let b := s.bridge
  let kept (k n : Nat) : Nat := if bitAt b.above k || bitAt b.skip k then n else 0
  { s with bridge := { b with short0 := kept 0 b.short0, short1 := kept 1 b.short1, skip := b.above, above := 0, ended := 0 } }

/-- BRIDGE_CYCLE (R139): a switching cycle measures, the gauge follows, and the mode is evaluated (R144). -/
def execBridgeCycle (m : BridgeMeas) (s : State) : Out :=
  inRun s fun s =>
    if !(within 2 4 s.mode) ∨ !s.works 4 then s
    else
      let s := ((s.set F.BR_STATUS_VBUS m.vbus).sset F.BR_STATUS_PBUS (clampInt (-2048) 2047 m.pbus)).setFlag F.BR_STATUS_TWO_PH m.twoPh
      let s := s.limitMeas (s.limitBinds m.i m.pbus)
      let s := (s.cycleShorts.adopt 16).openBlank 21
      let s := s.measure m.v m.i
      let s := if s.works 6 then (((s.capLearn m.v m.i).esrLearn m.v m.i).etaLearn m.v m.i m.pbus).loadMeas m.pload 400000 (s.get F.BR_LIM_FREQ) else s
      let s := { s.fullCheck with bridge := { s.fullCheck.bridge with
        absAt := if s.mode == 3 && decide (m.i ≤ 0) then some (s.bridge.absAt.getD s.ticks) else none } }
      s.bridgeEval.evalRa

/-- STACK_MEAS_TIMER (R169): the measurements of every 32 ticks while the bridge is not switching; the bus-load shunt is read
for the gauge whatever BP4 does (R177). -/
def execStackMeasTimer (v : Nat) (iStack : Int) (vbus pload : Nat) (s : State) : Out :=
  inRun s fun s =>
    let s := if within 2 4 s.mode ∨ !s.works 6 then s else s.loadMeas pload 9765625 1
    if within 2 4 s.mode ∨ !s.works 4 then s
    else
      let s := s.set F.BR_STATUS_VBUS vbus
      let s := { s.measure v iStack with gauge := { (s.measure v iStack).gauge with prev := none } }
      (s.fullCheck.limitMeas false).bridgeEval.evalRa

/-- FULL_SET (R140): FULL, and the end of a top-up closure (R156). -/
def execFullSet (s : State) : Out :=
  inRun s fun s =>
    match s.bridge.fullAt with
    | none => s
    | some t =>
      if s.flag F.RES_STATUS_FULL then s
      else
        let s := ((s.reach (t + 64)).setFlag F.RES_STATUS_FULL true).raise 42 "FULL"
        if s.relay.closure = .topup then
          match s.relayRefusal with
          | some why => s.relayRefused why
          | none => s.relayRequest { set := false, why := .full }
        else s

/-- ABSORB_ZERO_TIMER (R143): the absorbed current has been zero for 32 ticks: ABSORB ends with the switching cycle in progress
(R144). -/
def execAbsorbZeroTimer (s : State) : Out :=
  inRun s fun s =>
    match s.bridge.absAt with
    | some t => if s.mode = 3 then { s.reach (t + 32) with bridge := { s.bridge with absOver := true } } else s
    | none => s

/-- BRIDGE_OVERLOAD_TIMER (R145): a limit has bound for 32 ticks in SUPPORT. -/
def execBridgeOverloadTimer (s : State) : Out :=
  inRun s fun s =>
    match s.bridge.limAt with
    | some t =>
      if s.mode = 4 then
        let s := s.reach (t + 32)
        if s.causePresent 43 2 then s else s.raise 43 "OVERLOAD"
      else s
    | none => s

/-- BRIDGE_PHASE_ILIM (R148): the phase's on-time ends; the eighth cycle in a row above 1.5 × ILIM stops the bridge. -/
def execBridgePhaseIlim (k : Fin 2) (over15 : Bool) (s : State) : Out :=
  inRun s fun s =>
    if !(within 2 4 s.mode) ∨ !s.works 4 then s
    else
      let b := s.bridge
      let s := { s with bridge := { b with ended := Nat.lor b.ended (2 ^ k.val) } }.openBlank 21
      if !over15 ∨ bitAt b.above k then s
      else
        let n := (if k.val = 0 then b.short0 else b.short1) + 1
        let s := { s with bridge := { s.bridge with
          above := Nat.lor b.above (2 ^ k.val), short0 := (if k.val = 0 then n else b.short0),
          short1 := (if k.val = 1 then n else b.short1) } }
        if n < 8 then s
        else
          let s := { s with bridge := { s.bridge with short0 := 0, short1 := 0, skip := 0, above := 0, ended := 0 } }
          ((s.setMode 5).raise 43 "SHORT").evalRa

/-! ### MAINS_OK (R147) -/

/-- MAINS_OK_FALL (R147): mains is taken as false; SUPPORT may come at once, and CHARGE ends with the switching cycle in progress
(R144). -/
def execMainsOkFall (s : State) : Out :=
  anyDev s fun s =>
    let s := (s.setFlag F.BR_STATUS_MAINS_OK false).setFlag F.BR_STATUS_MAINS_Q false
    { s with bridge := { s.bridge with qualAt := none } }.bridgeEdge.evalRa

/-- MAINS_OK_RISE (R147): qualification begins. -/
def execMainsOkRise (s : State) : Out :=
  anyDev s fun s =>
    if s.flag F.BR_STATUS_MAINS_OK then s
    else { s.setFlag F.BR_STATUS_MAINS_OK true with bridge := { s.bridge with qualAt := some (s.ticks + 64) } }

/-- MAINS_QUALIFIED (R147): qualified true; SUPPORT ends (R146), WAIT_MAINS clears (R157), an UNKNOWN relay is CLOSED
(R153). The core in RESET qualifies nothing. -/
def execMainsQualified (s : State) : Out :=
  live s fun s =>
    match s.bridge.qualAt with
    | none => s
    | some t =>
      if s.dev = .reset ∨ !s.flag F.BR_STATUS_MAINS_OK then s
      else
        let s := (s.reach t).setFlag F.BR_STATUS_MAINS_Q true
        let s := { s with bridge := { s.bridge with qualAt := none }, relay := { s.relay with mainsMet := true } }
        let s := (s.setFlag F.RELAY_STATUS_WAIT_MAINS false).clear 44 "MAINS_ABSENT"
        let s := if s.get F.RELAY_STATUS_STATE = 0 then
            (let s := s.set F.RELAY_STATUS_STATE 2; if s.relay.closure = .none then s.setClosure .normal else s) else s
        s.bridgeEdge.evalRa

end Sys2Proof.Machine
end

