-- ==== Sys2Proof/Machine/Frames.lean ====
section
/-! DEFINITION. The frames of a head link as they stand on the lanes: 8b/10b characters (R321), the packing of fields and the
CRC (R322), the frame types (R323), the layouts of LINE (R324), REPORT (R325) and the sideband field (R326), and the TRAIN
set (R328). -/

namespace Sys2Proof.Machine

/-! ### 8b/10b (R321)

The spec names the code and gives no table: these are the code's published ones (assumption 73, PRESUMED). A code group is
a number of 10 bits, its first bit on the lane the most significant; a running disparity is `true` when positive. -/

/-- The six-bit half of D.x at negative running disparity, abcdei. -/
def code6 : List Nat :=
  [0b100111, 0b011101, 0b101101, 0b110001, 0b110101, 0b101001, 0b011001, 0b111000] ++
  [0b111001, 0b100101, 0b010101, 0b110100, 0b001101, 0b101100, 0b011100, 0b010111] ++
  [0b011011, 0b100011, 0b010011, 0b110010, 0b001011, 0b101010, 0b011010, 0b111010] ++
  [0b110011, 0b100110, 0b010110, 0b110110, 0b001110, 0b101110, 0b011110, 0b101011]

/-- The four-bit half of D.x.y at negative running disparity, fghj; the last is the alternate of D.x.7. -/
def code4 : List Nat := [0b1011, 0b1001, 0b0101, 0b1100, 0b1101, 0b1010, 0b0110, 0b1110, 0b0111]

/-- Ones among the low `n` bits. -/
def onesIn (n v : Nat) : Nat := (bitsSet v n).length

/-- The six-bit half of D.x at a running disparity. -/
def enc6 (rd : Bool) (x : Nat) : Nat :=
  let c := code6.getD x 0
  if rd && (onesIn 6 c != 3 || x == 7) then 63 - c else c

/-- The disparity after the six-bit half of D.x. -/
def after6 (rd : Bool) (x : Nat) : Bool := if onesIn 6 (code6.getD x 0) = 3 then rd else !rd

/-- The four-bit half of D.x.7 is the alternate one. -/
def alt7 (rd : Bool) (x : Nat) : Bool := if rd then [11, 13, 14].contains x else [17, 18, 20].contains x

/-- The four-bit half of D.x.y at the disparity after its six-bit half. -/
def enc4 (rd : Bool) (x y : Nat) : Nat :=
  let c := code4.getD (if y = 7 ∧ alt7 rd x then 8 else y) 0
  if rd && (onesIn 4 c != 2 || y == 3) then 15 - c else c

/-- The disparity after the four-bit half of D.x.y. -/
def after4 (rd : Bool) (y : Nat) : Bool := if onesIn 4 (code4.getD y 0) = 2 then rd else !rd

/-- A data character at a running disparity, and the disparity after it. -/
def encData (rd : Bool) (b : Byte) : Nat × Bool :=
  let x := b.toNat % 32
  let y := b.toNat / 32
  let rd' := after6 rd x
  (enc6 rd x * 16 + enc4 rd' x y, after4 rd' y)

/-- K28.5 at a running disparity, and the disparity after it. -/
def encComma (rd : Bool) : Nat × Bool := (if rd then 0b1100000101 else 0b0011111010, !rd)

/-- Data characters one after another. -/
def encBytes (rd : Bool) : List Byte → List Nat × Bool
  | [] => ([], rd)
  | b :: bs =>
    let c := encData rd b
    let r := encBytes c.2 bs
    (c.1 :: r.1, r.2)

/-- A K28.5 and the data characters that follow it on a lane. -/
def encLane (rd : Bool) (bs : List Byte) : List Nat × Bool :=
  let k := encComma rd
  let r := encBytes k.2 bs
  (k.1 :: r.1, r.2)

/-- The data character that a code group is at a running disparity; none for a control character other than K28.5 and for
an invalid code group, which are symbol errors. -/
def decData (rd : Bool) (g : Nat) : Option (Byte × Bool) :=
  match (List.range 32).find? fun x => enc6 rd x == g / 16 with
  | none => none
  | some x =>
    let rd' := after6 rd x
    match (List.range 8).find? fun y => enc4 rd' x y == g % 16 with
    | some y => some (BitVec.ofNat 8 (y * 32 + x), after4 rd' y)
    | none => none

/-- The bytes of code groups; none where one is a symbol error. -/
def decBytes (rd : Bool) : List Nat → Option (List Byte)
  | [] => some []
  | g :: gs =>
    match decData rd g with
    | some (b, rd') => (decBytes rd' gs).map (b :: ·)
    | none => none

/-- The bytes of a frame as received: a K28.5, which gives the running disparity, and the characters up to the next. -/
def decLane : List Nat → Option (List Byte)
  | 0b0011111010 :: gs => decBytes true gs
  | 0b1100000101 :: gs => decBytes false gs
  | _ => none

/-! ### Fields, bytes and the CRC (R322) -/

/-- Fields, each a value and its width, packed most significant first. -/
def packBits (fs : List (Nat × Nat)) : Nat := fs.foldl (fun acc f => acc * 2 ^ f.2 + f.1 % 2 ^ f.2) 0

/-- A number as `n` bytes, most significant first. -/
def toBytes (n v : Nat) : List Byte := (List.range n).map fun i => BitVec.ofNat 8 (v / 2 ^ (8 * (n - 1 - i)))

/-- Bytes as a number, most significant first. -/
def ofBytes (bs : List Byte) : Nat := bs.foldl (fun acc b => acc * 256 + b.toNat) 0

/-- A frame of fields that fill `n` bytes, with its CRC behind them. -/
def frameOf (n : Nat) (fs : List (Nat × Nat)) : List Byte :=
  let bs := toBytes n (packBits fs)
  bs ++ toBytes 2 (crc16 bs)

/-- The bytes before the CRC of a frame whose CRC passes. -/
def crcChecked (bs : List Byte) : Option (List Byte) :=
  let body := bs.take (bs.length - 2)
  if 2 ≤ bs.length ∧ ofBytes (bs.drop (bs.length - 2)) = crc16 body then some body else none

/-- The field of `w` bits that begins at bit `at_` of `n` bits, bit 0 the most significant. -/
def fieldAt (v n at_ w : Nat) : Nat := v / 2 ^ (n - at_ - w) % 2 ^ w

/-! ### Sideband (R326) -/

/-- The sideband field as 40 bits. -/
def Side.word (d : Side) : Nat := packBits [(d.op, 3), (d.chip, 8), (d.idx, 5), (packBits (d.data.map (·, 6)), 24)]

/-- The sideband field of 40 bits; DATA is four trims, the lowest emitter in its most significant bits. -/
def Side.ofWord (v : Nat) : Side :=
  { op := fieldAt v 40 0 3, chip := fieldAt v 40 3 8, idx := fieldAt v 40 11 5,
    data := (List.range 4).map fun i => fieldAt v 40 (16 + 6 * i) 6 }

/-! ### Frames sent (R323, R324) -/

/-- What a LINE frame says (R324). -/
structure LineFrame where
  /-- LINE. -/
  line : Nat
  /-- NGRP as the register codes it. -/
  ngrp : Nat
  /-- GOFF1 to GOFF3. -/
  goff : List Nat
  /-- PRIME in 4 ns units. -/
  prime : Nat := 0
  /-- FALLBACK. -/
  fallback : Bool := false
  /-- ECHO_VALID. -/
  echoValid : Bool := false
  /-- NUMBER_ONLY. -/
  numberOnly : Bool := false
  /-- WMAX in 4 ns units. -/
  wmax : Nat := 0
  /-- ECHO: the lit counts of groups 0 to 3. -/
  echo : List Nat := []
  /-- The sideband field. -/
  side : Nat := 0
  /-- W0 to W247. -/
  w : List Nat := []
deriving DecidableEq, Repr

/-- The 400 bytes of a LINE frame (R324). -/
def LineFrame.bytes (f : LineFrame) : List Byte :=
  frameOf 398 ([(1, 4), (f.line, 16), (f.ngrp, 2)] ++ (List.range 3).map (fun i => (f.goff.getD i 0, 8)) ++
    [(f.prime, 7), (f.fallback.toNat, 1), (f.echoValid.toNat, 1), (f.numberOnly.toNat, 1), (0, 5), (f.wmax, 12)] ++
    (List.range 4).map (fun i => (f.echo.getD i 0, 15)) ++ [(f.side, 40), (0, 28)] ++
    (List.range 248).map (fun i => (f.w.getD i 0, 12)) ++ [(0, 7)])

/-- PROBE with its 32 pattern bytes. -/
def probeFrame (pattern : List Byte) : List Byte := frameOf 33 ([(2, 4), (0, 4)] ++ pattern.map fun b => (b.toNat, 8))

/-- MEMREQ of a block. -/
def memreqFrame (blk : Nat) : List Byte := frameOf 2 [(3, 4), (0, 4), (blk, 8)]

/-- TRIM of a chip with its 128 trims. -/
def trimFrame (chip : Nat) (trims : List Nat) : List Byte := frameOf 98 ([(4, 4), (0, 4), (chip, 8)] ++ trims.map (·, 6))

/-- SIDE of a sideband field. -/
def sideFrame (v : Nat) : List Byte := frameOf 6 [(5, 4), (0, 4), (v, 40)]

/-- The data characters of a TRAIN set on a lane, behind its K28.5 (R328). -/
def trainSet (lane : Nat) : List Byte := BitVec.ofNat 8 lane :: [0x4A#8, 0xB5#8, 0x4A#8, 0xB5#8, 0x4A#8, 0xB5#8]

/-- The bytes of a downstream frame that go on lane 0 or 1: byte 2i and byte 2i + 1 (R322). -/
def laneBytes (lane : Nat) (bs : List Byte) : List Byte :=
  ((bs.zipIdx).filter fun b => b.2 % 2 == lane).map Prod.fst

/-! ### Frames received (R323, R325) -/

/-- An upstream frame. -/
inductive UpFrame where
  | report (r : Report)
  | ident (id : List Byte)
  | memblock (blk : Nat) (data : List Byte)
  | ack (status chip : Nat)
  | side (d : Side)
deriving DecidableEq, Repr

/-- A REPORT of its 29 bytes before the CRC (R325). -/
def Report.ofBody (body : List Byte) : Report :=
  let v := ofBytes body
  let f (at_ w : Nat) : Nat := fieldAt v 232 at_ w
  let st (k : Nat) : Bool := bitAt (f 172 16) k
  { line := f 4 16, lits := (List.range 4).map fun i => f (20 + 15 * i) 15,
    tseg := (List.range 8).map fun i => f (80 + 10 * i) 10, vhead := f 160 12,
    ready := st 15, frameBad := st 14, echoMismatch := st 13, vValid := st 12, overlap := st 11,
    side := Side.ofWord (f 188 40) }

/-- The 29 bytes of a REPORT before its CRC: the head's side of `Report.ofBody`. -/
def Report.body (r : Report) : List Byte :=
  let st := 32768 * r.ready.toNat + 16384 * r.frameBad.toNat + 8192 * r.echoMismatch.toNat + 4096 * r.vValid.toNat +
    2048 * r.overlap.toNat
  toBytes 29 (packBits ([(8, 4), (r.line, 16)] ++ (List.range 4).map (fun i => (r.lits.getD i 0, 15)) ++
    (List.range 8).map (fun i => (r.tseg.getD i 0x3FF, 10)) ++ [(r.vhead, 12), (st, 16), (r.side.word, 40), (0, 4)]))

/-- The upstream frame that bytes with a passing CRC are; none for an unknown TYPE, and where the length is not that of the
type. -/
def UpFrame.ofBody (body : List Byte) : Option UpFrame :=
  let b (k : Nat) : Nat := (body.getD k 0#8).toNat
  match b 0 / 16, body.length with
  | 8, 29 => some (.report (Report.ofBody body))
  | 9, 17 => some (.ident (body.drop 1))
  | 10, 130 => some (.memblock (b 1) (body.drop 2))
  | 11, 2 => some (.ack (b 0 % 16) (b 1))
  | 12, 6 => some (.side (Side.ofWord (ofBytes (body.drop 1))))
  | _, _ => none

/-- The frame that characters of the upstream lane are; none for one that is discarded whole: a symbol error, a CRC that
fails or an unknown TYPE (R322). -/
def upFrame (chars : List Nat) : Option UpFrame :=
  match decLane chars with
  | some bs => match crcChecked bs with
    | some body => UpFrame.ofBody body
    | none => none
  | none => none

/-- The REPORT that characters are. -/
def reportOf (chars : List Nat) : Option Report := match upFrame chars with | some (.report r) => some r | _ => none

/-- The bytes of an upstream frame before its CRC: the head's side of `UpFrame.ofBody`. -/
def UpFrame.body : UpFrame → List Byte
  | .report r => r.body
  | .ident id => 0x90#8 :: id
  | .memblock blk data => 0xA0#8 :: BitVec.ofNat 8 blk :: data
  | .ack status chip => [BitVec.ofNat 8 (0xB0 + status % 16), BitVec.ofNat 8 chip]
  | .side d => 0xC0#8 :: toBytes 5 d.word

/-- The characters of an upstream frame, as a head sends it at a running disparity. -/
def UpFrame.chars (rd : Bool) (f : UpFrame) : List Nat := (encLane rd (f.body ++ toBytes 2 (crc16 f.body))).1

end Sys2Proof.Machine
end

