-- ==== Sys2Proof/Machine/PhaseOps.lean ====
section
/-! DEFINITION. Switching as the commands of phases, rails and heads share it (09_phase_control, 11_rail_protection): the
reference, the on-time, rotation at a trigger, the lock, trims, the judgements of a phase, hiccup and overload. -/

namespace Sys2Proof.Machine

/-! ### The reference (R247, R251, R266) -/

/-- SYS_SWSTAT shows the copy of BP4, its own partition. -/
def State.showRef (s : State) : State :=
  let x := s.sync
  let s := ((s.set F.SYS_SWSTAT_SRC x.src).setFlag F.SYS_SWSTAT_QUAL x.qual).setFlag F.SYS_SWSTAT_ANCHORED x.anchored
  (s.set F.SYS_SWSTAT_FREF (roundNat (s.fref 4) 1000)).set F.SYS_SWSTAT_VIN x.vin

/-- What happens to each copy whose partition works. -/
def State.refsDo (s : State) (f : State → Nat → State) : State :=
  ([3, 4].foldl (fun s bp => if s.works bp then f s bp else s) s).showRef

/-- After a change of SOURCE or a renumbering, LOCK_LOST of the rails of `bp` is not raised for 1,024 rank-0 cycles
(R253). -/
def State.guardLocks (s : State) (bp : Nat) : State :=
  (s.part.railList.filter (railBp · == bp)).foldl (fun s r => s.modRail r fun x => { x with lockGuard := 1024 }) s

/-- SOURCE changed (R247, R249): the count starts again at the next edge, the anchor is lost. EV12 comes from the copy that
speaks. -/
def State.setSrc (s : State) (bp k : Nat) : State :=
  if (s.ref bp).src = k then s
  else
    let s := (s.modRef bp fun x => { x with src := k, anchored := false, fresh := true, hold := if k = 1 then x.f else x.hold }).guardLocks bp
    if bp ≠ s.refBp then s
    else match k with
      | 1 => (s.clear 12 "LOST").raise 12 "QUALIFIED"
      | 2 => s.raise 12 "LOST"
      | _ => (s.clear 12 "LOST").clear 12 "RANGE"

/-- The settings of SYS_SYNC taken up after a write: MODE INTERNAL makes SOURCE INTERNAL (R247, R268), and OUT_EN 0 drives
SYNC_OUT low (R250). -/
def State.syncWritten (s : State) : State :=
  let s := if s.flag F.SYS_SYNC_MODE then s else (((s.setSrc 3 0).setSrc 4 0).clear 12 "LOST").clear 12 "RANGE"
  let low (x : SyncX) : SyncX := { x with outHigh := 0 }
  (if s.flag F.SYS_SYNC_OUT_EN then s else (s.modRef 3 low).modRef 4 low).showRef

/-- A reference edge of a copy (R249, R250). -/
def State.refEdge (s : State) (bp : Nat) : State :=
  let c := if (s.ref bp).fresh then 0 else ((s.ref bp).cnt + 1) % 8
  let out := if s.flag F.SYS_SYNC_OUT_EN then (if c = 0 ∧ s.flag F.SYS_SYNC_OUT_MARK then 6 else 4) else 0
  s.modRef bp fun x => { x with cnt := c, fresh := false, outHigh := out }

/-- SYNC_OUT (R250, R266): the delay of its rising edge after the reference edge in units of 0.1 ns, and its high time in eighths of
the period, from the copy of BP4, or of BP3 where that does not work. -/
def State.syncOut (s : State) : Nat × Nat :=
  (roundNat (s.get F.SYS_SYNC_OUT_SHIFT * 10000000000) (64 * max 1 (s.fref s.refBp)), (s.ref s.refBp).outHigh)

/-- The grid of rail `r` (R251): its rank-`k` point in units of 0.1 ns after a reference edge at which the grid repeats. -/
def State.gridPoint (s : State) (r k : Nat) : Nat :=
  let n := (s.rotation r).length
  roundNat ((s.get (F.RAIL_SW_OFFSET r) * n + 64 * k) * 2 ^ s.get (F.RAIL_SW_DIV r) * 10000000000)
    (64 * max 1 n * max 1 (s.fref (railBp r)))

/-- The last reference edge is one at which the grid of rail `r` repeats: its count is a multiple of 2^DIV (R251). -/
def State.gridEdge (s : State) (r : Nat) : Bool := (s.ref (railBp r)).cnt % 2 ^ s.get (F.RAIL_SW_DIV r) == 0

/-- SYNC_IN is lost for a copy (R247). -/
def State.syncLost (s : State) (bp : Nat) : State :=
  let s := s.modRef bp fun x => { x with qual := false, okWins := 0 }
  if (s.ref bp).src = 1 then s.setSrc bp 2 else s

/-- RANGE (R248, R268): while MODE is INTERNAL it is raised where the rule starts to be broken, and is never PRESENT. -/
def State.raiseRange (s : State) (was : Bool) : State :=
  if s.flag F.SYS_SYNC_MODE then (if s.causePresent 12 3 then s else s.raise 12 "RANGE")
  else if was then s else (s.raise 12 "RANGE").clear 12 "RANGE"

/-- A window of 64 ticks ends with SYNC_IN at `f` Hz (R247, R248): it passes, and the second in a row that agrees qualifies
SYNC_IN; one that fails loses it. No edge at all is no SYNC_IN to judge under R248. -/
def State.windowRef (s : State) (bp f : Nat) : State :=
  let x := s.ref bp
  let fits := s.freqOk f
  if within 250000 3000000 f && fits then
    let agree := decide (x.okWins = 0 ∨ 200 * ((f : Int) - x.f).natAbs ≤ x.f)
    let s := if agree then s else s.syncLost bp
    let n := if agree then min 2 (x.okWins + 1) else 1
    let s := s.modRef bp fun x => { x with f := f, okWins := n, range := false, qual := x.qual || n == 2, hold := if x.src = 1 then f else x.hold }
    if n = 2 ∧ bp = s.refBp then s.clear 12 "RANGE" else s
  else
    let breaks := !fits && f != 0
    let s := (s.syncLost bp).modRef bp fun x => { x with f := f, range := breaks }
    if breaks && bp == s.refBp then s.raiseRange x.range else s

/-! ### On-times (R242) -/

/-- V_IN in mV for rail `r`, at least 12.000 V (R243). -/
def State.vIn (s : State) (r : Nat) : Nat := max 240 (s.ref (railBp r)).vin * 50

/-- T_on of phase `n` of rail `r` in ns before its limits (R242). -/
def State.onTime (s : State) (r n : Nat) : Nat :=
  let x := s.rail r
  let num := (s.vRefU r : Int) * (2 ^ s.get (F.RAIL_SW_DIV r) * 1000000000 : Nat) * (65536 + x.lockI + 16 * x.lockP) *
    (1000 + s.sget (F.PH_TRIM_TRIM n))
  let den := s.vIn r * 10000 * max 1 (s.fref (railBp r)) * 65536000
  ((2 * num + den) / (2 * den : Nat)).toNat

/-- The upper limit of an on-time: T_SW − MIN_OFF in whole ns (R242). -/
def State.onMax (s : State) (r : Nat) : Nat :=
  2 ^ s.get (F.RAIL_SW_DIV r) * 1000000000 / max 1 (s.fref (railBp r)) - s.inUse r (F.RAIL_SW_MIN_OFF r)

/-- The width of an on-time under R242, its limits applied. -/
def State.onWidth (s : State) (r n : Nat) : Nat := min (s.onMax r) (max 20 (s.onTime r n))

/-- The last on-time of a phase has been `t` ns: ONTIME, MINON and MAXDUTY (R269). -/
def State.putWidth (s : State) (r n t : Nat) : State :=
  ((s.set (F.PH_STATUS_ONTIME n) (satNat 4095 t)).setFlag (F.PH_STATUS_MINON n) (t == 20)).setFlag (F.PH_STATUS_MAXDUTY n)
    (t == s.onMax r)

/-- The on-time that starts now: its width, its limits, and DUTY_LIMIT (R242, R268). -/
def State.putOnTime (s : State) (r n : Nat) : State :=
  let hi := s.onMax r
  let t := s.onWidth r n
  let lo := decide (t = 20)
  let up := decide (t = hi)
  let s := s.putWidth r n t
  let x := s.ph n
  let minRun := if lo then x.minRun + 1 else 0
  let maxRun := if up then x.maxRun + 1 else 0
  let freeRun := if lo || up then 0 else x.freeRun + 1
  let s := s.modPh n fun x => { x with minRun := minRun, maxRun := maxRun, freeRun := freeRun }
  if minRun = 32 then s.raise (6 + r) "DUTY_LIMIT" ("PHASE=" ++ phName n ++ " LIMIT=MIN") (some 0) n
  else if maxRun = 32 then s.raise (6 + r) "DUTY_LIMIT" ("PHASE=" ++ phName n ++ " LIMIT=MAX") (some 0) n
  else if freeRun = 32 then s.clearKey (6 + r) "DUTY_LIMIT" n
  else s

/-! ### Trims (R263, R265) -/

/-- A trim in use, PINNED and the PULL notice that go with it. -/
def State.putTrim (s : State) (n : Nat) (t lim : Int) : State :=
  let pin := decide (t < -lim ∨ lim < t)
  let was := s.flag (F.PH_TRIM_PINNED n)
  let s := (s.sset (F.PH_TRIM_TRIM n) (clampInt (-lim) lim t)).setFlag (F.PH_TRIM_PINNED n) pin
  if pin && !was then s.pull ("BALANCE " ++ phName n ++ (if lim < t then " MAX" else " MIN")) else s

/-- The trims of rail `r` as its MODE sets them, LIM applied to each; a FOLLOWER holds its own. -/
def State.applyTrims (s : State) (r : Nat) : State :=
  let lim : Int := s.get (F.RAIL_BAL_LIM r)
  (s.assigned r).foldl (fun s n =>
    if s.phState n = 3 then s
    else match s.get (F.RAIL_BAL_MODE r) with
    | 0 => s.putTrim n 0 lim
    | 2 => s.putTrim n (s.sget (F.PH_TRIM_MANUAL n)) lim
    | _ => if (s.sget (F.PH_TRIM_TRIM n)).natAbs ≤ lim.natAbs then s else s.putTrim n (s.sget (F.PH_TRIM_TRIM n)) lim) s

/-! ### Light load (R254) -/

/-- The conditions under which rail `r` sheds phases for light load. -/
def State.lightOk (s : State) (r : Nat) : Bool :=
  s.inUse r (F.RAIL_LIGHT_AUTOSHED r) == 1 && s.enabled r && s.rs r != rsRampUp && s.rs r != rsRampDown &&
    (decide (4 ≤ r) || (s.claims == 0 && (decide (s.part.heads ≤ r) || s.get (F.LINE_LSTAT_STATE r) != 3)))

/-! ### Rotation at a trigger (R256, R313) -/

/-- Line timing runs on the head of rail `r` (R313). -/
def State.linesRun (s : State) (r : Nat) : Bool := decide (r < s.part.heads) && s.flag (F.LINE_CTRL_EN r)

/-- The FOLLOWERs of rail `r` that wait to be shed leave it (R313). -/
def State.shedFollowers (s : State) (r : Nat) : State :=
  (s.assigned r).foldl (fun s n =>
    if s.phState n = 3 ∧ s.flag (F.PH_PROT_SHED_PEND n) then
      (let s := s.shedFollower n (s.iForceLess r)
       if (s.ph n).on then s else s.triPhase n)
    else s) s

/-- The change that waits for phase `n`. -/
def State.adoptPhase (s : State) (n : Nat) : State :=
  match (s.ph n).pend with
  | none => s
  | some st =>
    let low := (s.rail (s.get (F.PH_CTRL_RAIL n))).lowSide
    let s := (s.set (F.PH_STATUS_STATE n) st).modPh n fun x =>
      { x with pend := none, elig := x.elig || st == 1, tri := if st = 1 ∧ low then false else x.tri }
    if (st = 2 ∨ st = 4) ∧ !(s.ph n).on then s.triPhase n else s

/-- After a change of the rotation set: new ranks, no LOCK_LOST for 1,024 cycles, no balancing for 64 (R253, R256). -/
def State.rotated (s : State) (r : Nat) (old : List Nat) : State :=
  let s := s.renumber r
  if s.rotation r = old then s
  else s.modRail r fun x => { x with lockGuard := 1024, balSkip := 64, balBad := true, lightSum := 0, lightN := 0, lightAvg := none }

/-- The rail of the head at a line start: FOLLOWERs leave (R313). -/
def State.railLine (s : State) (h : Nat) : State :=
  let old := s.rotation h
  ((s.shedFollowers h).rotated h old).noPhase h

/-- What takes effect at a trigger of rail `r`: settings, followers to be shed, changes of the rotation set, IDLE phases
that light load no longer keeps, trims. -/
def State.atTrigger (s : State) (r : Nat) : State :=
  let old := s.rotation r
  let s := s.modRail r fun x => { x with use := [] }
  let s := if s.linesRun r then s else s.shedFollowers r
  let s := (s.assigned r).foldl State.adoptPhase s
  let s := if s.lightOk r then s
    else (s.phasesIn r [2]).foldl (fun s n => (s.modPh n fun x => { x with pend := some 1 }).adoptPhase n) s
  ((s.rotated r old).applyTrims r).noPhase r

/-! ### Leaving WAITING (R278) -/

/-- RAMP_UP from the present V_CMD at ON_SLEW (R278). -/
def State.rampUp (s : State) (r : Nat) : State :=
  (s.modRail r fun x => { x with dlyAt := none }).aim r rsRampUp (s.get (F.RAIL_RAMP_ON_SLEW r))

/-- An enabled rail in WAITING goes on where its dependencies, GOOD and V_IN hold together: to ON_DELAY, or straight to
RAMP_UP with an ON_DLY of 0. -/
def State.passWaiting (s : State) (r : Nat) : State :=
  if s.rs r = rsWaiting ∧ s.enabled r ∧ s.delayOk r ∧ (s.deps r).all s.railGood then
    let d := s.get (F.RAIL_DELAY_ON_DLY r)
    if d = 0 then s.rampUp r
    else (s.setRs r rsOnDelay).modRail r fun x => { x with dlyAt := some (s.ticks + d) }
  else s

/-- Rail `r` enabled; it leaves WAITING at once where nothing keeps it there. -/
def State.turnOn (s : State) (r : Nat) : State := (s.enableRail r).passWaiting r

/-! ### Judgements (R305, R312) -/

/-- A phase judged: its bit, its cause, and the state it takes at the next trigger. -/
def State.failPhase (s : State) (r n : Nat) (f : Field) (cause : String) (st : Nat) (fields : String) : State :=
  ((s.setFlag f true).modPh n fun x => { x with pend := some st }).raise (6 + r) cause
    ("PHASE=" ++ phName n ++ " " ++ fields) none n

/-- OPEN (R312). -/
def State.judgeOpen (s : State) (r n : Nat) : State :=
  if s.flag (F.PH_PROT_OPEN n) then s else s.failPhase r n (F.PH_PROT_OPEN n) "PHASE_OPEN" 4 (s.iForceLess r)

/-- PHASE_SHORT (R305). -/
def State.judgeShort (s : State) (r n : Nat) : State :=
  if s.flag (F.PH_PROT_SHORT n) then s else s.failPhase r n (F.PH_PROT_SHORT n) "PHASE_SHORT" 4 (s.iForceLess r)

/-- SENSE_FAIL, with its reason (R312, R317). -/
def State.judgeSense (s : State) (r n : Nat) (reason : String) : State :=
  if s.flag (F.PH_PROT_SENSE_FAIL n) then s
  else (s.setFlag (F.PH_PROT_SHED_PEND n) true).failPhase r n (F.PH_PROT_SENSE_FAIL n) "SENSE_FAIL" 3 ("REASON=" ++ reason)

/-- A phase is open to judgement (R311): ACTIVE, its rail ON or MOVING, with another ACTIVE phase. -/
def State.judged (s : State) (r n : Nat) : Bool :=
  s.phState n == 1 && (s.rs r == rsOn || s.rs r == rsMoving) && decide (2 ≤ (s.phasesIn r [1]).length)

/-- OFS_BAD of an open phase fails its sense (R261, R312). -/
def State.judgeOffset (s : State) (n : Nat) : State :=
  let r := s.get (F.PH_CTRL_RAIL n)
  if s.flag (F.PH_CAL_OFS_BAD n) ∧ s.judged r n then s.judgeSense r n "OFFSET" else s

/-! ### Over-current (R301 to R307) -/

/-- A time in ms as ticks (R72). -/
def msTicks (ms : Nat) : Nat := roundNat (ms * 32768) 1000

/-- The rail follows the rules of a service rail: C and A, and every rail under COMPAT (R302, R306). -/
def State.hiccups (s : State) (r : Nat) : Bool := decide (4 ≤ r) || s.compat

/-- A hiccup of rail `r` (R302, R303). A rail whose EN is 0 already is being turned off: its phases are tri-stated with V_CMD at
0, which is where its fall begins, and no retry follows (assumption 70). -/
def State.hiccup (s : State) (r : Nat) : State :=
  let m := s.get (F.RAIL_LIMIT_HICCUP_MAX r)
  let n := s.get (F.RAIL_PSTAT_HICCUPS r)
  if m ≠ 0 ∧ m ≤ n then s.trip r "LATCHED_OFF" ""
  else
    let s := (s.supersede r).bump (F.RAIL_PSTAT_HICCUPS r)
    let k := s.get (F.RAIL_PSTAT_HICCUPS r)
    let s := s.raise r "HICCUP" ("COUNT=" ++ dec k) (some k)
    if !s.enabled r then (s.modRail r fun x => { x with fall := some (x.fall.getD backFall) }).fallNow r
    else
    let s := ((s.stopPhases r).setRs r rsOff).set (F.RAIL_STATUS_VCMD r) 0
    let s := (s.setFlag (F.RAIL_PSTAT_HICCUP r) true).holdLoop r
    let s := s.modRail r fun x => { x with vEnd := 0, dlyAt := none, cleanFrom := none,
                                           hicAt := some (s.ticks + msTicks (s.get (F.RAIL_LIMIT_HICCUP_T r))) }
    s.shedList (s.dependents r) "SHED" none ("RAIL=" ++ railName r)

/-- The overload interval of a page rail at the end of a rank-0 cycle (R304). -/
def State.overload (s : State) (r : Nat) (lim : Bool) : State :=
  let on := s.flag (F.RAIL_PSTAT_OVERLOAD r)
  if lim ∧ !on ∧ within rsRampUp rsMoving (s.rs r) then
    let s := (s.setFlag (F.RAIL_PSTAT_OVERLOAD r) true).modRail r fun x =>
      { x with okRun := 0, ovlAt := some (s.ticks + msTicks (s.get (F.RAIL_PROT_OVL_T r))) }
    s.raise r "OVERLOAD"
  else if on ∧ 64 ≤ (s.rail r).okRun then
    ((s.setFlag (F.RAIL_PSTAT_OVERLOAD r) false).modRail r fun x => { x with ovlAt := none }).clear r "OVERLOAD"
  else s

/-- Trips stand on at least half of the rotation set, rounded up, in the rank-0 cycle in progress (R305). -/
def State.tripsHalf (s : State) (r : Nat) : Bool :=
  let rot := s.rotation r
  let m := (s.rail r).tripSet
  decide (m ≠ 0 ∧ rot.length ≤ 2 * (bitsSet m 16).length)

/-- Phase `n` reads open in the rank-0 cycle that ends, by the latest samples (R312): it had an on-time, the other ACTIVE phases
carried 0.500 A or more on average, and it less than a quarter of that. -/
def State.readsOpen (s : State) (r n : Nat) : Bool :=
  let others := (s.phasesIn r [1]).filter (· != n)
  let sum := (others.map fun k => s.sget (F.PH_ISNS_I k)).sum
  s.judged r n && (s.ph n).fired && decide (50 * others.length ≤ sum ∧ 4 * s.sget (F.PH_ISNS_I n) * others.length < sum)

/-- The judgements at the end of a rank-0 cycle: OPEN after 32 that read open (R312), and PHASE_SHORT of a phase whose fourth trip
waited for the rail-level condition (R305). -/
def State.cycleJudge (s : State) (r : Nat) : State :=
  let t := (s.assigned r).foldl (fun t n =>
    let run := if s.readsOpen r n then (s.ph n).openRun + 1 else 0
    t.modPh n fun x => { x with openRun := satNat 32 run, fired := false }) s
  (s.assigned r).foldl (fun t n =>
    let t := if 32 ≤ (t.ph n).openRun then t.judgeOpen r n else t
    if !s.hiccups r && decide (4 ≤ (s.ph n).trips) then t.judgeShort r n else t) t

/-- What a rank-0 cycle adds to the averages of light load and to the balance interval (R254, R264). -/
def State.cycleCount (s : State) (r : Nat) : State :=
  let i := s.iRail r
  s.modRail r fun x =>
    let x := { x with balSkip := x.balSkip - 1, balCyc := x.balCyc + 1 }
    if 31 ≤ x.lightN then { x with lightSum := 0, lightN := 0, lightAvg := some (x.lightSum + i) }
    else { x with lightSum := x.lightSum + i, lightN := x.lightN + 1 }

/-- The end of a rank-0 cycle of rail `r` (R299, R301, R302, R304, R305). -/
def State.cycleEnd (s : State) (r : Nat) : State :=
  let x := s.rail r
  let half := s.tripsHalf r
  let s := (s.setFlag (F.RAIL_PSTAT_LIMITING r) x.lim).modRail r fun x =>
    { x with lim := false, tripSet := 0,
             limRun := (if x.lim then x.limRun + 1 else 0), okRun := (if x.lim then 0 else x.okRun + 1),
             tripRun := (if half then x.tripRun + 1 else 0),
             cleanFrom := (if x.lim then (if s.rs r = rsOn then some s.ticks else none) else x.cleanFrom) }
  let s := (s.cycleJudge r).cycleCount r
  if s.hiccups r then
    if s.get (F.RAIL_LIMIT_HICCUP_N r) ≤ (s.rail r).limRun then s.hiccup r else s
  else s.overload r x.lim

/-! ### The lock (R252, R253) -/

/-- The lock measurement at a rank-0 start, `e` in 1/256 turn. -/
def State.lockMeasure (s : State) (r : Nat) (e : Int) : State :=
  let x := s.rail r
  let s := s.sset (F.RAIL_LOCK_ERR r) (clampInt (-128) 127 e)
  if !s.enabled r ∨ s.rs r = rsRampUp ∨ s.rs r = rsRampDown ∨ !x.lowSide ∨ 0 < x.lockHold then
    (s.holdLoop r).modRail r fun x => { x with lockHold := x.lockHold - 1, lockGuard := x.lockGuard - 1 }
  else
    let li := clampInt (-16384) 16384 (x.lockI - e)
    let ok := if e.natAbs ≤ 4 then x.lockOk + 1 else 0
    let bad := if 16 < e.natAbs then x.lockBad + 1 else 0
    let s := (s.sset (F.RAIL_LOCK_LOCK_I r) (roundDiv (li * 1000) 65536)).modRail r fun x =>
      { x with lockP := -e, lockI := li, lockOk := satNat 64 ok, lockBad := satNat 16 bad, lockGuard := x.lockGuard - 1 }
    if s.get (F.RAIL_LOCK_LOCK r) = 2 then
      if bad < 16 then s
      else
        let s := (s.set (F.RAIL_LOCK_LOCK r) 1).modRail r fun x => { x with lockOk := 0, lockBad := 0 }
        if x.lockGuard = 0 then s.raise (6 + r) "LOCK_LOST" else s
    else if 64 ≤ ok then ((s.set (F.RAIL_LOCK_LOCK r) 2).clear (6 + r) "LOCK_LOST").raise (6 + r) "LOCKED"
    else s.set (F.RAIL_LOCK_LOCK r) 1

/-! ### One on-time (R245) -/

/-- The first phase of a rotation set after the one that fired last: those above it in number, then the others. -/
def afterLast (rot : List Nat) (last : Option Nat) : List Nat :=
  match last with
  | none => rot
  | some k => (rot.filter fun n => k < n) ++ rot.filter fun n => n ≤ k

/-- The phase that takes a trigger, and the phases passed over because they skip it (R245, R300): a phase skips the next trigger
that it would take. -/
def State.takeTrigger (s : State) : List Nat → List Nat → Option Nat × List Nat
  | skipped, [] => (none, skipped)
  | skipped, n :: ns =>
    let x := s.ph n
    if !(x.elig && !x.on && !x.limited) then State.takeTrigger s skipped ns
    else if x.skip then State.takeTrigger s (n :: skipped) ns
    else (some n, skipped)

/-- Phase `n` starts an on-time of the width R242 gives. -/
def State.startOn (s : State) (r n : Nat) : State :=
  let s := s.modPh n fun x =>
    { x with on := true, tri := false, elig := false, fired := true, trips := (if x.tripped then x.trips else 0), tripped := false }
  ((s.putOnTime r n).adopt n).openBlank (1 + n)

/-- An on-time of phase `n` of rail `r` starts (R242, R244, R245); a start of rank 0 ends a cycle and measures the lock. -/
def State.fire (s : State) (r n : Nat) (e : Int) : State :=
  let rank0 := (s.rotation r).head? = some n
  let s := if rank0 then s.cycleEnd r else s
  if !s.railOn r then s
  else
    let s := if rank0 then s.lockMeasure r e else s
    (s.modRail r fun x => { x with last := some n, held := false, passed := 0 }).startOn r n

/-- A trigger that no phase has taken yet is held; it lapses once every phase of the rotation set has skipped it (R245, R300;
assumption 70). -/
def State.holdTrigger (s : State) (r passed : Nat) : State :=
  let lapse := (s.rotation r).all (bitAt passed)
  s.modRail r fun x => { x with held := !lapse, passed := if lapse then 0 else passed }

/-- A trigger of rail `r` (R245): the first eligible phase takes it, or the rail holds it. -/
def State.trigger (s : State) (r : Nat) (e : Int) : State :=
  let (tgt, skipped) := s.takeTrigger [] (afterLast (s.rotation r) (s.rail r).last)
  let s := skipped.foldl (fun s n => s.modPh n fun x => { x with skip := false }) s
  match tgt with
  | some n => s.fire r n e
  | none => s.holdTrigger r (maskOf skipped)

/-- Phase `n` has become eligible while its rail holds a trigger: it takes it, unless it skips it or has skipped it before; the
grid error of its start, where it is of rank 0, is a free value, as no command carries it. -/
def State.offerHeld (s : State) (r n : Nat) : State :=
  let x := s.rail r
  if bitAt x.passed n then s
  else if (s.ph n).skip then (s.modPh n fun x => { x with skip := false }).holdTrigger r (x.passed + 2 ^ n)
  else
    let (k, s) := s.drawBelow 256
    s.fire r n ((k : Int) - 128)

/-- The response re-arms once every on-time of it has ended and the sense has come back (R286). -/
def State.rearm (s : State) (r : Nat) : State :=
  let x := s.rail r
  if x.resp && x.respBack && !(s.assigned r).any (fun n => (s.ph n).resp) then s.modRail r fun x => { x with resp := false, respBack := false }
  else s

/-- The on-time of phase `n` ends: its PWM goes low, or to tri-state before the low side is driven and where the phase has
left the rotation set (R244, R256). -/
def State.endOn (s : State) (n : Nat) : State :=
  let r := s.get (F.PH_CTRL_RAIL n)
  let st := s.phState n
  let tri := !(s.rail r).lowSide || !(st == 1 || st == 3)
  (s.cutOn n tri).rearm r

end Sys2Proof.Machine
end

