-- ==== Sys2Proof/Machine/HeadOps.lean ====
section
/-! DEFINITION. A head as its commands share it: the link and its attach (R327 to R331, R356, R357), the on-head memory and
the trims (R354 to R363), line timing (R334 to R344), the widths of a line (R364 to R373), head temperature (R375 to R377)
and the light gate (R379 to R386). -/

namespace Sys2Proof.Machine

/-! ### Names and conditions -/

/-- Head `h` exists and its partition works. -/
def State.headLive (s : State) (h : Nat) : Bool := decide (h < s.part.heads) && s.works (headBp h)

/-- A cause of LINEn, with HEAD first (R349). -/
def State.raiseLine (s : State) (h : Nat) (name fields : String) (num : Option Nat := some 0) : State :=
  s.raise (48 + h) name ("HEAD=" ++ headName h ++ (if fields = "" then "" else " " ++ fields)) num

/-- A cause of DOSEn, with HEAD first (R387). -/
def State.raiseDose (s : State) (h : Nat) (name fields : String) (num : Option Nat := some 0) (key : Nat := 0) : State :=
  s.raise (52 + h) name ("HEAD=" ++ headName h ++ (if fields = "" then "" else " " ++ fields)) num key

/-- STATE of the link (R327): 0 DOWN, 1 TRAINING, 2 ATTACHING, 3 UP, 4 LOST, 5 FAILED. -/
def State.link (s : State) (h : Nat) : Nat := s.get (F.LINE_LSTAT_STATE h)

/-- STATE of the link stored. -/
def State.setLink (s : State) (h st : Nat) : State := s.set (F.LINE_LSTAT_STATE h) st

/-- Line timing is enabled. -/
def State.lineEn (s : State) (h : Nat) : Bool := s.flag (F.LINE_CTRL_EN h)

/-- RUN: targets are being placed (R350). -/
def State.lineRun (s : State) (h : Nat) : Bool := s.lineEn h && s.link h == 3 && !s.flag (F.HEAD_STATUS_STOPPED h)

/-- LINE frames go to the head: line timing is enabled and the link UP (R343). -/
def State.framesRun (s : State) (h : Nat) : Bool := s.lineEn h && s.link h == 3

/-- A light-gate run of head `h` runs. -/
def State.lgRunning (s : State) (h : Nat) : Bool := match (s.head h).lg with | some l => l.running | none => false

/-! ### The on-head memory (R354, R355) -/

/-- Byte `k` of the memory. -/
def memByte (m : Tab Byte) (k : Nat) : Nat := (Tab.get (fun _ => 0#8) m k).toNat

/-- Two bytes, most significant first. -/
def memWord (m : Tab Byte) (k : Nat) : Nat := memByte m k * 256 + memByte m (k + 1)

/-- Luminance code of emitter `e`. -/
def HeadX.lum (x : HeadX) (e : Nat) : Nat := memByte x.mem (128 + e)

/-- Chip factor of chip `c` in 1/32,768. -/
def HeadX.chip (x : HeadX) (c : Nat) : Nat := memWord x.mem (31872 + 2 * c)

/-- Emitters of a head. -/
def emitters : Nat := 31744

/-! ### Trims (R359, R360, R383) -/

/-- The base trim of a luminance code (R359): (1/λ − 0.75) / 0.01 with λ = (512 + code) / 640.
Every code gives a trim from 8 to 50, so that none is limited and an attach counts no TRIM_LIM. -/
def baseTrim (code : Nat) : Nat := satNat 63 (roundDiv (25600 - 75 * (code : Int)) (512 + code)).toNat

/-- The mirror entry of emitter `e`: the base trim with no flag unless stored otherwise; 0 before an attach. -/
def HeadX.entry (x : HeadX) (e : Nat) : Nat :=
  match Tab.get (fun _ => none) x.mirror e with
  | some b => b.toNat
  | none => if x.mem.isEmpty then 0 else baseTrim (x.lum e)

/-- The mirror entry of emitter `e` stored; one equal to the base trim with no flag is not listed. -/
def HeadX.setEntry (x : HeadX) (e v : Nat) : HeadX :=
  { x with mirror := Tab.put (fun _ => none) x.mirror e (if v = baseTrim (x.lum e) then none else some (BitVec.ofNat 8 v)) }

/-- The relative response of an emitter on the dead list. -/
def HeadX.deadResp (x : HeadX) (e : Nat) : Option Nat := (x.dead.find? fun d => d.e == e).map DeadEntry.resp

/-- The raise of a neighbour as a ratio: min(HIDE_MAX, (1 − r) / 2) (R383). -/
def raiseOf (hide resp : Nat) : Nat × Nat := if hide * 512 ≤ 100 * (256 - resp) then (hide, 100) else (256 - resp, 512)

/-- The trim of a neighbour with base `b` raised by `p / q`, before its limit. -/
def raisedTrim (b : Nat) (pq : Nat × Nat) : Nat := (roundDiv ((75 + b) * (pq.1 + pq.2) - 75 * pq.2 : Int) pq.2).toNat

/-- The raised trim of emitter `e` before its limit, from both sides (R383). -/
def State.raisedAt (s : State) (h e : Nat) : Nat :=
  let x := s.head h
  let hide := s.get (F.HEAD_LG_HIDE_MAX h)
  let from_ (r : Option Nat) : Nat := match r with | some r => raisedTrim (x.entry e % 64) (raiseOf hide r) | none => 0
  max (if e = 0 then 0 else from_ (x.deadResp (e - 1))) (from_ (x.deadResp (e + 1)))

/-- The trim in use of emitter `e` (R360). -/
def State.trimInUse (s : State) (h e : Nat) : Nat :=
  let v := (s.head h).entry e
  if bitAt v 7 then satNat 63 (s.raisedAt h e) else v % 64

/-- The four trims in use from emitter 4 × idx of a chip on. -/
def State.fourTrims (s : State) (h chip idx : Nat) : List Nat := (List.range 4).map fun i => s.trimInUse h (128 * chip + 4 * idx + i)

/-- The neighbours raised by a dead list (R383). -/
def raisedBy (dead : List DeadEntry) : List Nat :=
  let on := dead.map DeadEntry.e
  ((dead.map fun d => (if d.e = 0 then [] else [d.e - 1]) ++ (if d.e + 1 < emitters then [d.e + 1] else [])).flatten).filter
    fun e => !on.contains e

/-- FAIL and RAISED rebuilt from a dead list (R360, R384). -/
def HeadX.putDead (x : HeadX) (dead : List DeadEntry) : HeadX :=
  let y := x.mirror.foldl (fun (y : HeadX) en => y.setEntry en.1 (y.entry en.1 % 64)) x
  let y := dead.foldl (fun (y : HeadX) d => y.setEntry d.e (y.entry d.e % 64 + 64)) y
  let y := (raisedBy dead).foldl (fun (y : HeadX) e => y.setEntry e (y.entry e % 64 + 128)) y
  { y with dead := dead }

/-- FAILS follows the dead list (R388). -/
def State.setFails (s : State) (h : Nat) : State := s.set (F.HEAD_LGSTAT_FAILS h) (s.head h).dead.length

/-- The reason TRIM holds while a chip has a stuck trim or a word waits for repair (R361, R362, R378). -/
def State.trimReason (s : State) (h : Nat) : State :=
  let x := s.head h
  (if x.stuck.isEmpty then s.clear (52 + h) "TRIM_STUCK" else s).unfit h 6 (!x.stuck.isEmpty || !x.bad.isEmpty)

/-- A frame put on the lanes behind the one sent before it (R321, R322). -/
def HeadX.send (x : HeadX) (bs : List Byte) : HeadX :=
  if x.tx.isEmpty then { x with tx := bs }
  else { x with
    tx := bs, rd0 := (encLane x.rd0 (laneBytes 0 x.tx)).2, rd1 := (encLane x.rd1 (laneBytes 1 x.tx)).2 }

/-- The code groups of the last downstream frame on lane 0 or 1, its K28.5 first (R321, R322). -/
def HeadX.laneGroups (x : HeadX) (lane : Nat) : List Nat :=
  (encLane (if lane = 0 then x.rd0 else x.rd1) (laneBytes lane x.tx)).1

/-- TRIM with the trims in use of a chip (R323, R357). -/
def State.sendTrim (s : State) (h chip : Nat) : State :=
  s.modHead h fun x => x.send (trimFrame chip ((List.range 128).map fun i => s.trimInUse h (128 * chip + i)))

/-- The frame for the present step of training or attach (R328, R331, R357): PROBE carries 32 free bytes, its pattern being
the device's own choice. The TRAIN sets are no frame. -/
def State.sendStep (s : State) (h : Nat) : State :=
  match (s.head h).step with
  | .probe =>
    let bs := (List.range 32).map fun i => (Config.freeWord (s.free + i)).setWidth 8
    { s.modHead h fun x => x.send (probeFrame bs) with free := s.free + 32 }
  | .memory b _ => s.modHead h fun x => x.send (memreqFrame b)
  | .trims c _ => s.sendTrim h c
  | .idle | .sets => s

/-- A step of training or attach with its frame. -/
def State.setStep (s : State) (h : Nat) (st : LinkStep) : State :=
  (s.modHead h fun x => { x with step := st }).sendStep h

/-- The fields of a LINE frame that come from the settings of the head (R324). -/
def State.lineFrame (s : State) (h line ngrp : Nat) : LineFrame :=
  { line := line, ngrp := ngrp,
    goff := [s.get (F.LINE_GROUP_GOFF1 h), s.get (F.LINE_GROUP_GOFF2 h), s.get (F.LINE_GROUP_GOFF3 h)] }

/-- The four ECHO fields of a frame without lit counts. -/
def echoFill (h line : Nat) : List Nat := (List.range 4).map fun i => Config.frameFill h line (1 + i)

/-- A NUMBER_ONLY frame for a line (R344): the head uses nothing else of it. -/
def State.numberFrame (s : State) (h line ngrp : Nat) : LineFrame :=
  { s.lineFrame h line ngrp with
    numberOnly := true, wmax := Config.frameFill h line 0, echo := echoFill h line,
    w := (List.range 248).map fun i => Config.frameFill h line (5 + i) }

/-- The frame of a test line of the light gate (R380): one group, TW for every chip. -/
def State.testFrame (s : State) (h line : Nat) (echo : Option (List Nat)) : LineFrame :=
  { s.lineFrame h line 0 with
    wmax := Config.frameFill h line 0, echoValid := echo.isSome, echo := echo.getD (echoFill h line),
    w := List.replicate 248 (s.get (F.HEAD_LGT_TW h)) }

/-- The next TRIM frame that waits outside an attach; after the last a light-gate run sends its NUMBER_ONLY frame (R380). -/
def State.trimNext (s : State) (h : Nat) : State :=
  match (s.head h).trimQ with
  | c :: _ => s.sendTrim h c
  | [] => match (s.head h).lg with
    | some l => if l.running ∧ l.j = 0 then s.modHead h fun x => x.send (s.numberFrame h 65535 0).bytes else s
    | none => s

/-- The trims in use of these chips have changed: their TRIM frames are sent one at a time (R331, R380, R384). -/
def State.writeTrims (s : State) (h : Nat) (chips : List Nat) : State :=
  let old := (s.head h).trimQ
  let s := s.modHead h fun x => { x with
    trimQ := old ++ chips.filter fun c => !old.contains c, trimTries := if old.isEmpty then 0 else x.trimTries }
  if old.isEmpty then s.trimNext h else s

/-- The trims of these chips have been written: a stuck one is released when all of them have been read back (R362). -/
def State.rewritten (s : State) (h : Nat) (chips : List Nat) : State :=
  s.modHead h fun x => { x with
    reread := (x.reread.filter fun y => !chips.contains y.1) ++ (x.stuck.filter chips.contains).map fun c => (c, 0) }

/-! ### Sideband (R326, R358, R362) -/

/-- The sideband field of a request. -/
def SideReq.word (r : SideReq) : Nat :=
  ({ op := if r.write then 2 else 1, chip := r.chip, idx := r.idx, data := if r.write then r.data else [0, 0, 0, 0] } : Side).word

/-- A request put out: in a SIDE frame at once while no lines run, else with the next LINE frame. -/
def State.ask (s : State) (h : Nat) (r : SideReq) : State :=
  s.modHead h fun x =>
    let x := { x with side := some { r with out := !s.framesRun h } }
    if s.framesRun h then x else x.send (sideFrame r.word)

/-- The trims in use written over those a head holds (R362). -/
def State.askWrite (s : State) (h : Nat) (r : SideReq) (again : Bool) : State :=
  s.ask h { r with write := true, data := s.fourTrims h r.chip r.idx, again := again }

/-- The next request, where none is outstanding: for the first word that waits for repair (R361), else for a verify pass
(R358). None is put out during a light-gate run (R385). -/
def State.sideNext (s : State) (h : Nat) : State :=
  let x := s.head h
  if x.side.isSome ∨ s.link h ≠ 3 ∨ s.lgRunning h then s
  else match x.bad, x.verify with
  | k :: _, _ =>
    s.ask h { write := false, chip := k / 16, idx := 2 * (k % 16) + (if x.got.isEmpty then 0 else 1), why := .repair }
  | [], some k => s.ask h { write := false, chip := k / 32, idx := k % 32, why := .verify }
  | [], none => s

/-- Emitter `e` repaired from the trim read off the head: a raised one takes its base from the on-head memory, and the
flags come from the dead list (R361). -/
def HeadX.repair (x : HeadX) (e trim : Nat) : HeadX :=
  if (raisedBy x.dead).contains e then x.setEntry e (baseTrim (x.lum e) + 128)
  else x.setEntry e (trim % 64 + if x.dead.any (·.e == e) then 64 else 0)

/-- Code word `k` repaired by its eight trims: the reason TRIM no longer holds for it (R361). -/
def State.repairWord (s : State) (h k : Nat) (trims : List Nat) : State :=
  let s := s.modHead h fun x =>
    { (List.range 8).foldl (fun (x : HeadX) i => x.repair (8 * k + i) (trims.getD i 0)) x with
      bad := x.bad.filter (· != k), got := [] }
  (if (s.head h).bad.isEmpty then s.clear (52 + h) "ECC_UNCORR" else s).trimReason h

/-- Four trims of the word in repair read off the head: after the second four the word is repaired (R361). -/
def State.repairRead (s : State) (h : Nat) (data : List Nat) : State :=
  let x := s.head h
  match x.bad with
  | [] => s
  | k :: _ => if x.got.isEmpty then s.modHead h fun x => { x with got := data } else s.repairWord h k (x.got ++ data)

/-- A request has been answered for good: a verify pass goes on, and its end makes the head fit again (R358). -/
def State.sideEnd (s : State) (h : Nat) (why : SideFor) : State :=
  let s := s.modHead h fun x => { x with side := none }
  match why, (s.head h).verify with
  | .verify, some k =>
    let s :=
      if k + 1 < 7936 then s.modHead h fun x => { x with verify := some (k + 1) }
      else (s.modHead h fun x => { x with verify := none }).unfit h 2 false
    if s.framesRun h then s else s.sideNext h
  | .repair, _ => if s.framesRun h then s else s.sideNext h
  | _, _ => s

/-- Four trims read as they should be: a stuck chip written again counts them (R362). -/
def State.readBack (s : State) (h chip idx : Nat) : State :=
  match (s.head h).reread.find? fun y => y.1 == chip with
  | none => s
  | some (_, m) =>
    let m := Nat.lor m (2 ^ idx)
    if m = 2 ^ 32 - 1 then
      (s.modHead h fun x => { x with reread := x.reread.filter (·.1 != chip), stuck := x.stuck.filter (· != chip) }).trimReason h
    else s.modHead h fun x => { x with reread := (x.reread.filter (·.1 != chip)) ++ [(chip, m)] }

/-- A sideband reply (R326, R362): only the answer to the request outstanding is judged; NONE ends it. A read of a chip whose
TRIM frame is outstanding is not compared (R363). -/
def State.sideReply (s : State) (h : Nat) (d : Side) : State :=
  match (s.head h).side with
  | none => s
  | some r =>
    if !r.out then s
    else if d.op = 0 then
      (let s := s.modHead h fun x => { x with side := none }; if s.framesRun h then s else s.sideNext h)
    else if d.op ≠ (if r.write then 2 else 1) ∨ d.chip ≠ r.chip ∨ d.idx ≠ r.idx then s
    else if r.why = .repair then (s.repairRead h d.data).sideEnd h .repair
    else if (s.head h).trimQ.contains r.chip then s.sideEnd h r.why
    else
      let chip := r.chip
      let same := decide (d.data = s.fourTrims h chip r.idx)
      match same, r.write, r.again with
      | true, false, _ => (s.readBack h chip r.idx).sideEnd h r.why
      | true, true, _ =>
        ((s.bump (F.HEAD_CNT_TRIM_FIX h)).raiseDose h "TRIM_FIX" ("CHIP=" ++ dec chip) (some chip)).sideEnd h r.why
      | false, false, _ =>
        (s.modHead h fun x => { x with reread := x.reread.filter (·.1 != chip) }).askWrite h r false
      | false, true, false => s.askWrite h r true
      | false, true, true =>
        let s := s.modHead h fun x => { x with
          stuck := if x.stuck.contains chip then x.stuck else x.stuck ++ [chip], reread := x.reread.filter (·.1 != chip) }
        ((s.raiseDose h "TRIM_STUCK" ("CHIP=" ++ dec chip) (some chip)).trimReason h).sideEnd h r.why

/-! ### The light gate (R379 to R386) -/

/-- The chips with a raised emitter whose trim in use is not its base: those whose trims change when raises begin or end. -/
def State.raisedChips (s : State) (h : Nat) : List Nat :=
  let x := s.head h
  (((raisedBy x.dead).filter fun e => s.trimInUse h e ≠ x.entry e % 64).map (· / 128)).eraseDups

/-- STATE of LGSTAT. -/
def State.setLg (s : State) (h st : Nat) : State := s.set (F.HEAD_LGSTAT_STATE h) st

/-- The reason LIGHTGATE holds: a run is queued or runs, or the last result is unfit (R378, R384). -/
def State.lgReason (s : State) (h : Nat) : State := s.unfit h 5 ((s.head h).lg.isSome || s.causePresent (52 + h) 13)

/-- A run, queued or running, aborted (R385): the dead list and the trims it set aside come back. -/
def State.lgAbort (s : State) (h : Nat) (reason : String) : State :=
  match (s.head h).lg with
  | none => s
  | some l =>
    let s := s.modHead h fun x => { (if l.running then x.putDead x.deadSaved else x) with lg := none, deadSaved := [] }
    let s := if l.running ∧ s.link h = 3 then (s.writeTrims h (s.raisedChips h)).sideNext h else s
    let s := ((s.setLg h 4).setFails h).raiseDose h "LG_ABORT" ("REASON=" ++ reason) none
    (s.doneOpt l.owed (s.finNo 22 "REFUSED" reason)).lgReason h

/-- Why a run cannot start (R379, R391), as code, name and detail. -/
def State.lgRefusal (s : State) (h : Nat) : Option (Nat × String × String) :=
  if s.part.heads = 0 then some (22, "REFUSED", "NOLIGHTGATE")
  else if s.link h ≠ 3 ∨ !(s.head h).attached then some (20, "STATE", "NOLINK")
  else if s.lineEn h then some (20, "STATE", "RUNNING")
  else if !(s.head h).hpark then some (20, "STATE", "NOTPARKED")
  else if 2 ≤ s.get (F.HEAD_STATUS_TSTATE h) then some (20, "STATE", "TEMP")
  else none

/-- HPARKn as the device reads it: low while VIO is absent (R482). -/
def State.setPark (s : State) (h : Nat) (pin : Bool) : State :=
  let b := pin && s.aon.vioOk
  (s.modHead h fun x => { x with hpark := b }).setFlag (F.HEAD_LGSTAT_PARKED h) b

/-- A run asked for: it waits for its start (R379, R386). -/
def State.lgQueue (s : State) (h : Nat) (owed : Option Owed) : State :=
  ((s.modHead h fun x => { x with lg := some { owed := owed } }).setLg h 1).lgReason h

/-! ### The link (R327 to R331) -/

/-- An upstream frame discarded whole (R322, R350). -/
def State.badFrame (s : State) (h : Nat) : State := s.bump (F.LINE_LSTAT_CRC_UP h)

/-- An attempt is to start (R327, R330). -/
def State.train (s : State) (h : Nat) : State :=
  (s.setLink h 1).modHead h fun x => { x with step := .idle, ident := [], retryAt := none }

/-- The pulses of the line in progress that have still to rise are not given (R329). -/
def State.dropPulses (s : State) (h : Nat) : State :=
  s.modHead h fun x => match x.cur with
    | some (k, _) => { x with fixed := x.fixed.filter (·.line != k), cur := none }
    | none => x

/-- What ends with an UP link, whatever it becomes: frames, sideband, light-gate run. -/
def State.leaveUp (s : State) (h : Nat) : State :=
  let s := if s.lgRunning h then s.lgAbort h "LINK" else s
  (s.dropPulses h).modHead h fun x => { x with
    frame := none, widths := none, committed := none, sent := none, accepted := [], side := none, got := [], trimQ := [],
    tx := [], upAt := none, missRun := 0, badRun := 0 }

/-- The lanes no longer count as aligned. -/
def State.unlock (s : State) (h : Nat) : State :=
  (s.setFlag (F.LINE_LSTAT_LOCK0 h) false).setFlag (F.LINE_LSTAT_LOCK1 h) false

/-- A retry 64 ticks from now, which AUTO_TRAIN lets start (R330). -/
def State.armRetry (s : State) (h : Nat) : State := s.modHead h fun x => { x with retryAt := some (s.ticks + 64) }

/-- An UP link is lost (R329). -/
def State.linkLost (s : State) (h : Nat) (reason : String) : State :=
  if s.link h ≠ 3 then s
  else
    let s := ((s.leaveUp h).setLink h 4).unlock h
    ((s.armRetry h).raiseLine h "LINK_LOST" ("REASON=" ++ reason) none).evalRa

/-- The link goes DOWN (R327): no attach counts any longer (R378). -/
def State.linkDown (s : State) (h : Nat) : State :=
  let s := if s.link h = 3 then s.leaveUp h else s
  let s := (((s.setLink h 0).unlock h).setFlag (F.LINE_LSTAT_LOCKUP h) false).setFlag (F.LINE_LINK_TRAIN h) false
  ((s.modHead h fun x => { x with step := .idle, retryAt := none, side := none }).unfit h 0 true).evalRa

/-- An attempt fails (R330): LOST with a retry, or FAILED after RETRY_MAX in a row. -/
def State.attemptFails (s : State) (h : Nat) : State :=
  let s := ((s.bump (F.LINE_LSTAT_RETRIES h)).setFlag (F.LINE_LINK_TRAIN h) false).unlock h
  let s := s.modHead h fun x => { x with step := .idle, ident := [] }
  if s.get (F.LINE_CTRL_RETRY_MAX h) ≤ s.get (F.LINE_LSTAT_RETRIES h) then
    ((s.setLink h 5).modHead h fun x => { x with retryAt := none }).raiseLine h "TRAIN_FAIL" ""
  else (s.setLink h 4).armRetry h

/-- The link is UP. -/
def State.linkUp (s : State) (h : Nat) : State :=
  let s := ((s.setLink h 3).setFlag (F.LINE_LINK_TRAIN h) false).modHead h fun x =>
    { x with step := .idle, upAt := some s.ticks, missRun := 0, badRun := 0, retryAt := none }
  let s := ((s.clear (48 + h) "LINK_LOST").clear (48 + h) "TRAIN_FAIL").unfit h 0 false
  ((s.raiseLine h "LINK_UP" "").sideNext h).evalRa

/-! ### Attach (R356, R357) -/

/-- The first check of an attach that fails (R356), TRIM frames apart. -/
def State.attachRefusal (s : State) (h : Nat) (m : Tab Byte) : Option String :=
  let bytes (k n : Nat) : List Byte := Tab.getList (fun _ => 0#8) m k n
  let w0 := memWord m 16
  let tref := memWord m 18 % 1024
  let vref := memWord m 20
  if crc16 (bytes 0 126) ≠ memWord m 126 ∨ crc16 (bytes 128 32512) ≠ memWord m 32640 then some "CRC"
  else if memByte m 12 ≠ 1 then some "FORMAT"
  else if !s.bit (F.HEAD_RANK_RANK_MASK h) (memByte m 13) then some "RANK"
  else if !within 400 16000 w0 ∨ !within 400 5600 vref ∨ tref = 0x3FF ∨
      (List.range 248).any (fun c => memWord m (31872 + 2 * c) < 16384) then some "RANGE"
  else none

/-- An attach refused (R356): FAILED with no retry. -/
def State.attachRefused (s : State) (h : Nat) (reason : String) : State :=
  let s := ((s.setLink h 5).setFlag (F.LINE_LINK_TRAIN h) false).modHead h fun x => { x with step := .idle, retryAt := none }
  ((s.unfit h 1 true).raiseDose h "ATTACH_REFUSED" ("REASON=" ++ reason) none).evalRa

/-- Four bytes of the memory as a register holds them. -/
def memLong (m : Tab Byte) (k : Nat) : Word := BitVec.ofNat 32 (memWord m k * 65536 + memWord m (k + 2))

/-- The memory passes: base trims, mirror, and the first TRIM frame (R357). The identity of the head attached before no
longer stands for the mirror. -/
def State.attachBegin (s : State) (h : Nat) : State :=
  let s := s.modHead h fun x => { x with
    mem := x.memIn, memIn := [], mirror := [], dead := [], lastIdent := [], bad := [], got := [], step := .trims 0 0 }
  let s := s.sendStep h
  let m := (s.head h).mem
  let s := s.setWord (Reg.addr (.HEAD_ID0 h)) (memLong m 0)
  let s := s.setWord (Reg.addr (.HEAD_ID1 h)) (memLong m 4)
  let s := s.setWord (Reg.addr (.HEAD_ID2 h)) (memLong m 8)
  let s := s.setWord (Reg.addr (.HEAD_ID3 h)) (memLong m 12)
  let s := (s.set (F.HEAD_PAR0_W0_NOM h) (memWord m 16)).set (F.HEAD_PAR0_V_REF h) (memWord m 20)
  let s := (s.set (F.HEAD_PAR1_KT h) (memWord m 22)).set (F.HEAD_PAR1_KV h) (memWord m 24)
  (s.set (F.HEAD_PAR2_T_REF h) (memWord m 18)).set (F.HEAD_PAR2_IEM h) (memWord m 26)

/-- The attach goes on unless a check has refused it. -/
def State.attachAnswer (s : State) (h : Nat) : Option String → State
  | some r => s.attachRefused h r
  | none => s.attachBegin h

/-- The last block has been read (R356, R357). -/
def State.attachCheck (s : State) (h : Nat) : State := s.attachAnswer h (s.attachRefusal h (s.head h).memIn)

/-- The last ACK has arrived (R357). -/
def State.attachDone (s : State) (h : Nat) : State :=
  let s := s.modHead h fun x => { x with
    lastIdent := x.ident, attached := true, dead := [], deadSaved := [], lastFT := [], lastFV := [], verify := none }
  let s := ((s.rewritten h (List.range 248)).clear (52 + h) "ECC_UNCORR").trimReason h
  let s := ((s.unfit h 1 false).unfit h 2 false).clear (52 + h) "ATTACH_REFUSED"
  let s := (((s.clear (52 + h) "LG_UNFIT").lgReason h).setFails h).setFlag (F.HEAD_LGSTAT_ADJACENT h) false
  let rank := memByte (s.head h).mem 13
  (s.linkUp h).raiseDose h "ATTACHED" ("RANK=" ++ dec rank) (some rank)

/-- A TRIM frame without its ACK (R331): again up to 3 times, then the attach is refused. -/
def State.trimBad (s : State) (h : Nat) : State :=
  match (s.head h).step with
  | .trims c t => if t < 3 then s.setStep h (.trims c (t + 1)) else s.attachRefused h "TRIMACK"
  | _ => s

/-- A block without a good answer (R331): again up to 3 times, then the attempt fails. -/
def State.blockBad (s : State) (h : Nat) : State :=
  match (s.head h).step with
  | .memory b t => if t < 3 then s.setStep h (.memory b (t + 1)) else s.attemptFails h
  | _ => s

/-! ### Line timing (R334 to R341) -/

/-- Taps of 0.5 ns in `n` ns. -/
def tapsOf (n : Nat) : Nat := 2 * n

/-- Groups of the line. -/
def State.groups (s : State) (h : Nat) : Nat := [1, 2, 4].getD (s.get (F.LINE_CTRL_NGRP h)) 4

/-- GOFF_g. -/
def State.goff (s : State) (h g : Nat) : Nat :=
  match g with
  | 0 => 0 | 1 => s.get (F.LINE_GROUP_GOFF1 h) | 2 => s.get (F.LINE_GROUP_GOFF2 h) | _ => s.get (F.LINE_GROUP_GOFF3 h)

/-- P(k, g) in 1/64 count (R334). -/
def State.target (s : State) (h k g : Nat) : Int :=
  ((256 * (k : Int) + s.sget (F.LINE_REG_REG h) + s.goff h g) * s.get (F.LINE_CTRL_CPL h) + 2) / 4

/-- HWM in 1/64 count. -/
def State.hwm64 (s : State) (h : Nat) : Int := 64 * s.sget (F.LINE_HWM_HWM h)

/-- L_pred in taps (R341). -/
def State.lPred (s : State) (h : Nat) : Option Nat := (s.head h).tc.map (s.get (F.LINE_CTRL_CPL h) * ·)

/-- The line and group after one. -/
def State.nextGroup (s : State) (h : Nat) (kg : Nat × Nat) : Nat × Nat :=
  if kg.2 + 1 < s.groups h then (kg.1, kg.2 + 1) else (kg.1 + 1, 0)

/-- Lines whose group 0 lies at or below HWM are never placed: the next that can be, looking at `fuel` lines. -/
def State.skipPast (s : State) (h : Nat) : Nat → Nat → Nat
  | 0, k => k
  | fuel + 1, k => if s.target h k 0 ≤ s.hwm64 h then State.skipPast s h fuel (k + 1) else k

/-- A pulse of the next group fixed at a rod time; one of a line already started carries the delay of that line (R339). -/
def State.fixAt (s : State) (h t : Nat) : State :=
  s.modHead h fun x =>
    let late := match x.cur with | some (k, d) => if x.next.1 = k ∧ x.next.2 ≠ 0 then d else 0 | none => 0
    { x with fixed := x.fixed ++ [{ line := x.next.1, group := x.next.2, t := t + late }], next := s.nextGroup h x.next }

/-- The shortest time between two lines: 60.2 µs. -/
def lineMin : Nat := tapsOf 60200

/-- The rising edges of the group 0 pulses among `ps`, by line: none lies less than 60.2 µs after the one before (R339). -/
def goEdges (last : Option Nat) : List Pulse → List (Nat × Nat)
  | [] => []
  | p :: ps =>
    if p.group = 0 then
      let e := match last with | some g => max p.t (g + lineMin) | none => p.t
      (p.line, e) :: goEdges (some e) ps
    else goEdges last ps

/-- The rising edges of the lines fixed and not yet started. -/
def HeadX.edges (x : HeadX) : List (Nat × Nat) := goEdges x.lastGo x.fixed

/-- Targets up to `top` in 1/64 count placed at once at time `t` (R337, R338). -/
def State.placeUpTo (s : State) (h t : Nat) (top : Int) : Nat → State
  | 0 => s
  | fuel + 1 =>
    let (k, g) := (s.head h).next
    if s.target h k g ≤ top then State.placeUpTo (s.fixAt h t) h t top fuel else s

/-- Targets fixed at a forward count at time `t` and position `pos` with T_c `tc` (R335): each whose lead at the next count
would be below 1,280 ns. -/
def State.fixAhead (s : State) (h t tc : Nat) (pos : Int) : Nat → State
  | 0 => s
  | fuel + 1 =>
    let (k, g) := (s.head h).next
    let d := s.target h k g - 64 * pos
    if 0 < d ∧ (d - 64) * tc < 64 * tapsOf 1280 then
      State.fixAhead (s.fixAt h (t + (roundDiv (d * tc) 64).toNat)) h t tc pos fuel
    else s

/-- A line whose group 0 is next and can no longer be placed is passed over (R334). -/
def State.skipLines (s : State) (h : Nat) : State :=
  let (k, g) := (s.head h).next
  if g = 0 then s.modHead h fun x => { x with next := (s.skipPast h 300 k, 0) } else s

/-- The notice of an excursion deeper than BACKLASH, with its depth at its end (R337, R349): PRESENT ends with it. -/
def State.tellDepth (s : State) (h : Nat) : State :=
  let x := s.head h
  match x.exc with
  | some low =>
    if x.excTold then
      let d := (s.sget (F.LINE_HWM_HWM h) - low).toNat
      (s.raiseLine h "ENC_REVERSE" ("DEPTH=" ++ dec d) (some d)).clear (48 + h) "ENC_REVERSE"
    else s
  | none => s

/-- The end of an excursion at the count that regains HWM (R337). -/
def State.excursionEnd (s : State) (h : Nat) : State :=
  let s := if (s.head h).excTold then s.tellDepth h else s.bump (F.LINE_CNT_BACKLASH_CNT h)
  (s.setFlag (F.LINE_STAT_WAIT_HWM h) false).modHead h fun x =>
    { x with exc := none, excTold := false, coarse := true, lastT := none }

/-- T_c of a forward count at time `t`, and LPRED with it (R335, R341). -/
def State.takeTc (s : State) (h t : Nat) : State :=
  let s := s.modHead h fun x => { x with
    tc := (match x.lastT with | some u => some (t - u) | none => x.tc), coarse := x.coarse && x.lastT.isNone, lastT := some t }
  match s.lPred h with
  | some l => s.set (F.LINE_TIME_LPRED h) (satNat 65535 (l / 8))
  | none => s

/-- A forward count at rod time `t` (R333 to R338). -/
def State.countUp (s : State) (h t : Nat) : State :=
  let pos := s.sget (F.LINE_POS_POS h) + 1
  let hwm := s.sget (F.LINE_HWM_HWM h)
  let s := s.sset (F.LINE_POS_POS h) pos
  if (s.head h).exc.isSome then (if pos = hwm then s.excursionEnd h else s)
  else
    let go := s.lineEn h
    let s := if go && (s.head h).late then (s.placeUpTo h t (64 * hwm) 16).modHead h fun x => { x with late := false } else s
    let s := s.skipLines h
    let s := if hwm < pos then s.sset (F.LINE_HWM_HWM h) pos else s
    let x := s.head h
    let s := if go && x.coarse then s.placeUpTo h t (64 * pos) 16 else s
    let s := s.takeTc h t
    let x := s.head h
    match x.tc with
    | some tc => if go && !x.coarse then s.fixAhead h t tc pos 64 else s
    | none => s

/-- Lines fixed whose group 0 rises after `t`, withdrawn (R336). A target taken up again that HWM has meanwhile passed is
placed like one left behind by REG. -/
def State.withdraw (s : State) (h t : Nat) : State :=
  s.modHead h fun x =>
    let gone := (x.edges.filter fun e => decide (t < e.2)).map Prod.fst
    match gone with
    | [] => x
    | k :: ks =>
      let n := ks.foldl min k
      { x with fixed := x.fixed.filter (fun p => !gone.contains p.line), next := (n, 0),
               late := x.late || decide (s.target h n 0 ≤ s.hwm64 h) }

/-- A backward count at rod time `t` (R336, R337). An excursion deeper than BACKLASH counts in REVERSE and makes ENC_REVERSE
PRESENT at once; the notice goes out with the depth at the end (`State.tellDepth`). -/
def State.countDown (s : State) (h t : Nat) : State :=
  let pos := s.sget (F.LINE_POS_POS h) - 1
  let s := ((s.sset (F.LINE_POS_POS h) pos).withdraw h t).modHead h fun x => { x with lastT := none }
  if !s.lineEn h then s
  else
    let low := match (s.head h).exc with | some l => min l pos | none => pos
    let s := (s.setFlag (F.LINE_STAT_WAIT_HWM h) true).modHead h fun x => { x with exc := some low }
    if (s.get (F.LINE_CTRL_BACKLASH h) : Int) < s.sget (F.LINE_HWM_HWM h) - low ∧ !(s.head h).excTold then
      ((s.bump (F.LINE_STAT_REVERSE h)).markPresent (48 + h) "ENC_REVERSE").modHead h fun x => { x with excTold := true }
    else s

/-- EN written 1 (R334, R346, R350): position, counters and ENC_FAULT cleared, and the placing starts afresh. -/
def State.enOn (s : State) (h : Nat) : State :=
  let s := s.tellDepth h
  let s := (s.set (F.LINE_POS_POS h) 0).set (F.LINE_HWM_HWM h) 0
  let s := [F.LINE_STAT_ILLEGAL h, F.LINE_STAT_REVERSE h, F.LINE_CNT_DROPPED h, F.LINE_CNT_INHIBITED h, F.LINE_CNT_REPORT_MISS h,
    F.LINE_CNT_BACKLASH_CNT h, F.LINE_LSTAT_CRC_UP h, F.LINE_LSTAT_FRAME_BAD h].foldl (fun s f => s.set f 0) s
  let s := (s.setFlag (F.LINE_STAT_ENC_FAULT h) false).setFlag (F.LINE_STAT_WAIT_HWM h) false
  let s := ((s.clear (48 + h) "ENC_FAULT").clear (48 + h) "ENC_REVERSE").modHead h fun x => { x with
    tc := none, lastT := none, exc := none, excTold := false, coarse := true, illAt := [], fixed := [], next := (0, 0), late := false,
    lastGo := none, cur := none, accepted := [], widths := none, frame := none, sent := none, committed := none, missRun := 0, clean := 0 }
  s.rodCheck.evalRa

/-- EN written 0 (R345): fixed pulses are given, unsent frames are discarded. -/
def State.enOff (s : State) (h : Nat) : State :=
  (s.modHead h fun x => { x with widths := none, late := false }).rodCheck.evalRa

/-- A change of REG while line timing runs (R338): a target it leaves at or below HWM is placed at the next forward count. -/
def State.regMoved (s : State) (h : Nat) : State :=
  let (k, g) := (s.head h).next
  if s.lineEn h ∧ s.target h k g ≤ s.hwm64 h then s.modHead h fun x => { x with late := true } else s

/-! ### Lines and frames (R339 to R344) -/

/-- The next line to be placed. -/
def HeadX.nextLine (x : HeadX) : Nat :=
  match x.fixed.find? (·.group == 0) with
  | some p => p.line
  | none => if x.next.2 = 0 then x.next.1 else x.next.1 + 1

/-- The line whose REPORT is expected: the one above the last frame sent and committed (R342). -/
def HeadX.expected (x : HeadX) : Option Nat :=
  match x.frame, x.sent with
  | none, some k =>
    let n := x.nextLine
    if k = n % 65536 then some (n + 1) else if k = (n + 65535) % 65536 then some n else none
  | _, _ => none

/-- The line whose DUE passes next: the one above the line whose frame is in transmission or has been sent, else the next line
(R342). -/
def HeadX.dueLine (x : HeadX) : Nat :=
  let n := x.nextLine
  if x.sent = some (n % 65536) ∨ x.frame.map (·.1 % 65536) = some (n % 65536) then n + 1 else n

/-- The widths of a line, or a fall-back of it, stand ready. -/
def HeadX.ready (x : HeadX) (k : Nat) : Bool := match x.widths with | some w => w.line == k | none => false

/-- WMAX of the line in 4 ns units (R341). -/
def State.wMax (s : State) (h : Nat) : Nat :=
  let n := s.groups h
  let gaps := (List.range n).map fun g => (if g + 1 < n then s.goff h (g + 1) else 256) - s.goff h g
  let l := (s.lPred h).getD 0
  satNat 4095 ((gaps.foldl min 256 * l - 131072) / 2048)

/-! ### Widths (R364 to R371) -/

/-- The unit of F_T. -/
def ftOne : Int := 8000000

/-- F_T of a valid code before its limits, in 1/8,000,000 (R364). -/
def State.ftOf (s : State) (h tseg : Nat) : Int :=
  ftOne + s.sget (F.HEAD_PAR1_KT h) * ((tseg : Int) - s.get (F.HEAD_PAR2_T_REF h))

/-- The unit of F_V. -/
def State.fvOne (s : State) (h : Nat) : Int := 4096 * s.get (F.HEAD_PAR0_V_REF h)

/-- F_V of a V_pred in mV, in 1/(4,096 × V_REF) (R364). -/
def State.fvOf (s : State) (h vp : Nat) : Int :=
  s.fvOne h + s.sget (F.HEAD_PAR1_KV h) * ((s.get (F.HEAD_PAR0_V_REF h) : Int) - vp)

/-- The width of chip `c` in 4 ns units (R364, R365), the product taken exactly. -/
def State.widthOf (s : State) (h c : Nat) (ft fv : Int) (lim : Nat) : Nat :=
  let num := (s.get (F.HEAD_PAR0_W0_NOM h) * s.get (F.HEAD_CTRL_GAIN h) * (s.head h).chip c : Int) * ft * fv
  let den := 1000 * 32768 * 8000000 * (4096 * max 1 (s.get (F.HEAD_PAR0_V_REF h))) * 4
  min lim (max (s.get (F.HEAD_CTRL_W_MIN h)) ((2 * num + den) / (2 * den : Nat)).toNat)

/-- The voltage reading of a report is valid (R369). -/
def State.vheadOk (s : State) (h : Nat) (rep : Report) : Bool :=
  rep.vValid && !s.flag (F.HEAD_VOFS_VHEAD_BAD h) &&
    decide ((((rep.vhead : Int) - s.sget (F.HEAD_VOFS_VOFS h)) * 20000 - s.vRefU h).natAbs ≤ s.get (F.HEAD_FB_VDIFF h) * 20000)

/-- V_pred of each group in mV (R288). -/
def State.vPreds (s : State) (h : Nat) (rep : Report) : List Nat :=
  let ll : Int := s.inUse h (F.RAIL_TARGET_LOADLINE h)
  let iem := s.get (F.RAIL_ANT_IEM h)
  (List.range (s.groups h)).map fun g =>
    (roundDiv ((s.get (F.RAIL_STATUS_VCMD h) : Int) * 100000000 - ll * ((s.rail h).iBase * 1000 + rep.lits.getD g 0 * iem * 10))
      100000000).toNat

/-- The rail takes up an intact report (R288 to R290): V_pred and the boost currents. -/
def State.railReport (s : State) (h : Nat) (rep : Report) : State :=
  let vs := s.vPreds h rep
  let iem := s.get (F.RAIL_ANT_IEM h)
  let uA := (List.range (s.groups h)).map fun g => rep.lits.getD g 0 * iem * 10
  let s := (s.clear h "ANT_FALLBACK").modRail h fun x =>
    { x with vpreds := vs, antLines := 0, boosts := ((rep.line % 65536, uA) :: x.boosts.filter (·.1 != rep.line % 65536)).take 4 }
  ((s.set (F.RAIL_PRED_VPRED h) (vs.getLast?.getD 0)).set (F.RAIL_PRED_GROUP h) (vs.length - 1)).setFlag (F.RAIL_PRED_VALID h) true

/-- The rail falls back for a line without a report (R24, R290). -/
def State.railMissed (s : State) (h : Nat) : State :=
  let s := if (s.rail h).antLines = 0 then s.raise h "ANT_FALLBACK" "LINES=1" (some 1) else s
  (s.modRail h fun x => { x with vpreds := [], antLines := x.antLines + 1 }).setFlag (F.RAIL_PRED_VALID h) false

/-- PULLED and its notice (R366): `bound` is that of the first segment limited in the line. -/
def State.pulled (s : State) (h : Nat) (bound : Option String) : State :=
  let was := s.flag (F.HEAD_STATUS_PULLED h)
  let s := s.setFlag (F.HEAD_STATUS_PULLED h) bound.isSome
  match bound with
  | some b => if was then s else s.pull ("DOSE " ++ headName h ++ " " ++ b)
  | none => s

/-- A fall-back line or one that is not (R371, R373): FALLBACK, FB_RUN and FALLBACK_LONG. -/
def State.fallback (s : State) (h : Nat) (reason : Option String) : State :=
  match reason with
  | some r =>
    let s := if s.get (F.HEAD_CNT_FB_RUN h) = 0 then s.raiseDose h "FALLBACK" ("REASON=" ++ r) none else s
    let s := s.bump (F.HEAD_CNT_FB_RUN h)
    if s.get (F.HEAD_FB_FB_LIMIT h) ≤ s.get (F.HEAD_CNT_FB_RUN h) ∧ !s.bit (F.HEAD_STATUS_UNFIT h) 4 then
      (s.raiseDose h "FALLBACK_LONG" "").unfit h 4 true
    else s
  | none =>
    (((s.set (F.HEAD_CNT_FB_RUN h) 0).clear (52 + h) "FALLBACK").clear (52 + h) "FALLBACK_LONG").unfit h 4 false

/-- The widths of line `k` (R364 to R371), from its report, or as a fall-back without one. -/
def State.computeWidths (s : State) (h k : Nat) (rep : Option Report) : State :=
  let lo : Int := s.get (F.HEAD_TCOR_TCOR_MIN h) * 8000
  let hi : Int := s.get (F.HEAD_TCOR_TCOR_MAX h) * 8000
  let x := s.head h
  let segs : List (Int × Bool × Option String) := (List.range 8).map fun g =>
    let code := match rep with | some r => r.tseg.getD g 0x3FF | none => 0x3FF
    if code = 0x3FF then ((Tab.get (fun _ => none) x.lastFT g).getD ftOne, true, none)
    else
      let f := s.ftOf h code
      (clampInt lo hi f, false, if f < lo then some "TMIN" else if hi < f then some "TMAX" else none)
  let vOk := match rep with | some r => s.vheadOk h r | none => false
  let vps := match rep with | some r => s.vPreds h r | none => []
  let ng := s.groups h
  let fvs : List Int := (List.range ng).map fun g =>
    if vOk then s.fvOf h (vps.getD g 0) else (Tab.get (fun _ => none) x.lastFV g).getD (s.fvOne h)
  let frozenT := maskOf ((List.range 8).filter fun g => (segs.getD g (0, true, none)).2.1)
  let reason := if rep.isNone then some "REPORT" else if !vOk then some "VOLT" else if frozenT ≠ 0 then some "TEMP" else none
  let wm := s.wMax h
  let lim := if reason.isSome then wm - (s.get (F.HEAD_CTRL_PRIME_W h) + 16) else wm
  let tf := segs.map Prod.fst
  let ws := (List.range 248).map fun c => s.widthOf h c (tf.getD (c / 31) ftOne) (fvs.getD (c % ng) (s.fvOne h)) lim
  let s := (s.set (F.LINE_TIME_WMAX h) wm).modHead h fun x => { x with
    widths := some { line := k, w := ws, fb := reason.isSome, prime := if reason.isSome then s.get (F.HEAD_CTRL_PRIME_W h) else 0,
                     wmax := wm, echo := rep.map Report.lits, tfac := tf, vfac := fvs,
                     frozenT := frozenT, frozenV := !vOk },
    lastFT := (List.range 8).foldl (fun t g => if bitAt frozenT g then t else Tab.put (fun _ => none) t g (some (tf.getD g ftOne))) x.lastFT,
    lastFV := if vOk then (List.range ng).foldl (fun t g => Tab.put (fun _ => none) t g (some (fvs.getD g 0))) x.lastFV else x.lastFV }
  (s.pulled h (segs.findSome? fun y => y.2.2)).fallback h reason

/-- The LINE frame of a line with its widths (R324, R371). -/
def State.widthFrame (s : State) (h : Nat) (w : Widths) (side : Nat) : LineFrame :=
  { s.lineFrame h (w.line % 65536) (s.get (F.LINE_CTRL_NGRP h)) with
    prime := w.prime, fallback := w.fb, echoValid := w.echo.isSome, wmax := w.wmax,
    echo := w.echo.getD (echoFill h w.line), side := side, w := w.w }

/-- The longest strobe of each group of a line in taps: priming pulse and gap of a fall-back line come before the widths
(R332, R364, R372). -/
def State.strobes (s : State) (h : Nat) (w : Widths) : List Nat :=
  let ng := s.groups h
  let extra := if w.prime = 0 then 0 else w.prime + 16
  (List.range ng).map fun g => 8 * (extra + ((w.w.zipIdx.filter fun c => c.2 % ng == g).map Prod.fst).foldl max 0)

/-! ### Head temperature (R375 to R378) -/

/-- A threshold in °C as a TSEG code. -/
def tsegOf (c : Nat) : Nat := (c + 20) * 8

/-- T_head in °C as an event carries it. -/
def headTemp (compat : Bool) (code : Nat) : String := tOut compat ((code : Int) * 125 - 20000) 1000

/-- The reason TEMP (R378). -/
def State.tempReason (s : State) (h : Nat) : State :=
  s.unfit h 3 (decide (2 ≤ s.get (F.HEAD_STATUS_TSTATE h)) || s.flag (F.HEAD_STATUS_STOPPED h))

/-- TSTATE stored, PRESENT of the warnings following it (R387). -/
def State.setTstate (s : State) (h t : Nat) : State :=
  let s := s.set (F.HEAD_STATUS_TSTATE h) t
  let s := if t < 1 then s.clear (52 + h) "T_WARN" else s
  (if t < 2 then s.clear (52 + h) "T_LIMIT" else s).tempReason h

/-- The highest state whose entry holds at a code. -/
def State.tEntry (s : State) (h code : Nat) : Nat :=
  if tsegOf (s.get (F.HEAD_TEMP_T_SHUT h)) ≤ code then 3
  else if tsegOf (s.get (F.HEAD_TEMP_T_LIMIT h)) ≤ code then 2
  else if tsegOf (s.get (F.HEAD_TEMP_T_WARN h)) ≤ code then 1 else 0

/-- Below a threshold by more than the hysteresis. -/
def State.tBelow (s : State) (h code thr : Nat) : Bool := decide (code + 8 * s.get (F.HEAD_TEMP_T_HYS h) < tsegOf thr)

/-- The state to which TSTATE `t` falls, never out of SHUT, which R377 leaves. -/
def State.tFall (s : State) (h code t : Nat) : Nat :=
  let warm := if s.tBelow h code (s.get (F.HEAD_TEMP_T_WARN h)) then 0 else 1
  match t with
  | 3 => 3
  | 2 => if s.tBelow h code (s.get (F.HEAD_TEMP_T_LIMIT h)) then warm else 2
  | 1 => warm
  | _ => 0

/-- TSTATE at an accepted REPORT (R375), with the stop of R376 for line `k`. -/
def State.judgeTemp (s : State) (h : Nat) (tseg : List Nat) (k : Nat) : State :=
  match (tseg.filter (· != 0x3FF)) with
  | [] => s
  | c :: cs =>
    let code := cs.foldl max c
    let s := s.set (F.HEAD_STATUS_THEAD h) code
    let old := s.get (F.HEAD_STATUS_TSTATE h)
    let up := s.tEntry h code
    if old < up then
      let s := s.setTstate h up
      match up with
      | 1 => s.raiseDose h "T_WARN" ("TEMP=" ++ headTemp s.compat code) none
      | 2 => s.raiseDose h "T_LIMIT" ("TEMP=" ++ headTemp s.compat code) none
      | _ =>
        let s := ((s.setFlag (F.HEAD_STATUS_STOPPED h) true).setFlag (F.HEAD_STATUS_SPOILED h) true).modHead h fun x => { x with resume := false }
        let s := ((s.setFlag (F.HEAD_CTRL_RESUME h) false).tempReason h).raiseDose h "T_SHUT" ("LINE=" ++ dec k) (some k)
        if s.lgRunning h then s.lgAbort h "TEMP" else s
    else s.setTstate h (s.tFall h code old)

/-- INHIBIT as written (R378): it stops exposure as R376 does, without SPOILED. -/
def State.inhibitWritten (s : State) (h : Nat) : State :=
  let b := s.flag (F.HEAD_CTRL_INHIBIT h)
  let s := if b then s.setFlag (F.HEAD_STATUS_STOPPED h) true else s
  ((s.unfit h 7 b).tempReason h).evalRa

/-- The stop ends at a line start where its conditions are met (R377, R378). -/
def State.resumeCheck (s : State) (h : Nat) : State :=
  if !s.flag (F.HEAD_STATUS_STOPPED h) ∨ s.flag (F.HEAD_CTRL_INHIBIT h) then s
  else if s.get (F.HEAD_STATUS_TSTATE h) = 3 then
    let code := s.get (F.HEAD_STATUS_THEAD h)
    if s.tBelow h code (s.get (F.HEAD_TEMP_T_LIMIT h)) ∧ (s.claims = 0 ∨ (s.head h).resume) then
      let s := ((s.setFlag (F.HEAD_STATUS_STOPPED h) false).setFlag (F.HEAD_CTRL_RESUME h) false).modHead h fun x => { x with resume := false }
      (s.clear (52 + h) "T_SHUT").setTstate h (s.tFall h code 2)
    else s
  else (s.setFlag (F.HEAD_STATUS_STOPPED h) false).tempReason h

/-- RESUME written (R377): it counts while exposure stands stopped. -/
def State.resumeWritten (s : State) (h : Nat) : State :=
  if s.flag (F.HEAD_STATUS_STOPPED h) then (s.setFlag (F.HEAD_CTRL_RESUME h) true).modHead h fun x => { x with resume := true }
  else s

/-! ### CAL HEADn (R374, R386, R392) -/

/-- VOFS moved to a value in 2 mV units, or VHEAD_BAD (R374). -/
def State.putVofs (s : State) (h : Nat) (v : Int) : State :=
  if v.natAbs ≤ 50 then ((s.sset (F.HEAD_VOFS_VOFS h) v).setFlag (F.HEAD_VOFS_VHEAD_BAD h) false).clear (52 + h) "VHEAD_BAD"
  else
    let was := s.flag (F.HEAD_VOFS_VHEAD_BAD h)
    let s := s.setFlag (F.HEAD_VOFS_VHEAD_BAD h) true
    if was then s else s.raiseDose h "VHEAD_BAD" ""

/-- CAL HEADn runs: the mean of 16 samples is a free value, as no command carries them. -/
def State.calHead (s : State) (h : Nat) : State :=
  let (k, s) := s.drawBelow 65536
  s.putVofs h (roundDiv (signedOf 16 k) 2)

/-- A CAL HEADn that runs now: its answer's detail where it is refused. -/
def State.calHeadRun (s : State) (h : Nat) : State × Option String :=
  let s := s.setFlag (F.HEAD_CAL_CAL h) false
  if !s.lineRun h then (s, some "NOLINES") else (s.calHead h, none)

/-- The queued CAL HEADn of head `h`, at CLAIMS 0 (R386). -/
def State.calHeadDue (s : State) (h : Nat) : State :=
  if !s.flag (F.HEAD_CAL_CAL_PEND h) then s
  else
    let o := (s.head h).calOwed
    let s := (s.setFlag (F.HEAD_CAL_CAL_PEND h) false).modHead h fun x => { x with calOwed := none }
    let (s, no) := s.calHeadRun h
    s.doneOpt o (match no with | some d => s.finNo 20 "STATE" d | none => .ok)

end Sys2Proof.Machine
end

