-- ==== Sys2Proof/Machine/ClaimOps.lean ====
section
/-! DEFINITION. What several units share when a cause is routed (R405), a sheet is released (R177, R184, R304) and CLAIMS
reaches 0 (R179, R262, R386). -/

namespace Sys2Proof.Machine

/-! ### Routing (R405, R406) -/

/-- The notification of a grant of effective class `cls` (R405). -/
def evText (c : Cause) (cls : Nat) : String :=
  "!EV " ++ srcName c.src ++ " " ++ dec c.src ++ " " ++ clsName cls ++ " " ++ c.text

/-- The routed work of a grant, its class the effective one: the pulse of EVT pins in mode PULSE, the notification, the
start of a timetable asked for with source JUNCTION (R405, R406). A log-only cause has none (R396). -/
def State.route (s : State) (c : Cause) : State :=
  if s.dev ≠ .run ∨ c.kind = .logOnly then s
  else
    let pulse := (List.range 4).filter fun m => s.bit (F.ROUTE_EVT c.src) m && s.evtMode m == 2
    let s := { s with flt := { s.flt with evtPulse := Nat.lor s.flt.evtPulse (maskOf pulse) } }
    let s := if s.flag (F.ROUTE_NOTIFY c.src) then s.notifyAll c.src c.cls.code (evText c c.cls.code) else s
    let tc := s.get (F.ROUTE_TT_CAUSE c.src)
    if s.flag (F.ROUTE_TT_EN c.src) ∧ (tc = 0 ∨ tc = c.no) then
      { s with tt := { s.tt with asked := s.tt.asked ++ [(s.get (F.ROUTE_TT c.src), .junction)] } }
    else s

/-- A notification dropped and counted at every port subscribed to the source (R432, R48). -/
def State.dropNotice (s : State) (c : Cause) : State :=
  if s.flag (F.ROUTE_NOTIFY c.src) then
    [PortId.host, .service, .spi].foldl (fun s p =>
      if (s.port p).subs.takes c.src c.cls.code then s.modPort p fun x => { x with dropped := x.dropped + 1 } else s) s
  else s

/-- Routed work done at once, or kept while BP1 is under test: that of 32 grants waits, further work is dropped (R432);
none is done while BP1 reports FAILED (R414). -/
def State.routeOrWait (s : State) (c : Cause) : State :=
  if s.failed 1 then s
  else if s.underTest 1 then
    if s.flt.waitRouted.length < 32 then { s with flt := { s.flt with waitRouted := s.flt.waitRouted ++ [c] } } else s.dropNotice c
  else s.route c

/-! ### CAL PHn (R262, R273) -/

/-- A calibration of phase `n`: the sums of its conversions are free values, as no command carries them. A phase that does not
switch has been tri-stated for 10 µs and gets the zero check (assumption 37). The answer's detail where it is refused. -/
def State.calPhase (s : State) (n : Nat) : State × Option String :=
  let s := (s.setFlag (F.PH_CAL_CAL n) false).setFlag (F.PH_CAL_CAL_PEND n) false
  let (sum, s) := s.drawBelow 261889
  let d := roundDiv ((sum : Int) - 128000) 16
  let bad := decide (5120 < ((sum : Int) - 128000).natAbs)
  let s := if bad then s else s.sset (F.PH_CAL_OFFSET n) d
  let s := s.setFlag (F.PH_CAL_OFS_BAD n) bad
  let idle := !(s.ph n).on ∧ !(s.ph n).sink ∧ ([0, 2, 4].contains (s.phState n) ∨ !s.railOn (s.get (F.PH_CTRL_RAIL n)))
  let (sum, s) := if idle then s.drawBelow 261889 else (128000, s)
  let off := decide (5120 < ((sum : Int) - 128000).natAbs)
  let s := if idle then s.setFlag (F.PH_CAL_ZERO_BAD n) off else s
  (s.judgeOffset n, if bad then some "OFFSET" else if off then some "ZERO" else none)

/-- The calibrations queued for phase `n`, at CLAIMS 0: one run answers every line that waits for it. -/
def State.calPhaseDue (s : State) (n : Nat) : State :=
  if !s.flag (F.PH_CAL_CAL_PEND n) then s
  else
    let owed := (s.ph n).calOwed
    let (s, no) := (s.modPh n fun x => { x with calOwed := [] }).calPhase n
    owed.foldl (fun s o => s.done o (match no with | some d => s.finNo 22 "REFUSED" d | none => .ok)) s

/-! ### CLAIMS (R177, R179, R184, R304, R386) -/

/-- LEARN_N entries exist, and B_LEARNED is valid (R177). -/
def State.learnedValid (s : State) : Bool :=
  decide (0 < s.get F.GAUGE_CFG_LEARN_N ∧ s.get F.GAUGE_CFG_LEARN_N ≤ s.gauge.entries.length)

/-- B_LEARNED of the entries: 1.15 times their mean, rounded up, once LEARN_N of them exist (R177). -/
def State.learnedJ (s : State) : Nat :=
  let n := s.get F.GAUGE_CFG_LEARN_N
  let e := s.gauge.entries.take n
  if !s.learnedValid then 0 else satNat 65535 ((115 * e.sum + 100000000000 * n - 1) / (100000000000 * n))

/-- B_LEARNED computed again, the budget in force following. -/
def State.learn (s : State) : State :=
  let old := s.get F.GAUGE_PAGE_B_LEARNED
  (s.set F.GAUGE_PAGE_B_LEARNED s.learnedJ).syncBudget (s.flag F.GAUGE_BUDGET_FORCE) old

/-- The entry that a release closes (R177): none with LOAD_SNS 0. -/
def State.closeEntry (s : State) : State :=
  let e := s.gauge.acc
  let s := { s with gauge := { s.gauge with acc := 0 } }
  if s.flag F.GAUGE_CFG_LOAD_SNS then { s with gauge := { s.gauge with entries := (e :: s.gauge.entries).take 15 } }.learn
  else s

/-- A release takes down every page rail in an overload interval (R304). -/
def State.overloadRelease (s : State) : State :=
  [0, 1, 2, 3].foldl (fun s r =>
    if s.part.hasRail r ∧ s.flag (F.RAIL_PSTAT_OVERLOAD r) ∧ !s.hiccups r then s.trip r "OVERLOAD_OFF" "BY=RELEASE" none else s) s

/-- What waits for CLAIMS 0: lower settings of the budget, and queued calibrations of phases and heads. -/
def State.claimsZero (s : State) : State :=
  if 0 < s.claims then s
  else
    let s := s.syncBudget (s.flag F.GAUGE_BUDGET_FORCE) (s.get F.GAUGE_PAGE_B_LEARNED)
    let s := (List.range s.part.phases).foldl (fun s n => s.calPhaseDue n) s
    (List.range s.part.heads).foldl (fun s h => s.calHeadDue h) s

/-- A release counted (R184): DONE_EXTRA where no sheet is claimed. -/
def State.release (s : State) : State :=
  if s.claims = 0 then s.raise 47 "DONE_EXTRA"
  else
    let s := (s.set F.GAUGE_RA_CLAIMS (s.claims - 1)).wrap F.GAUGE_COUNT_RELEASES
    s.closeEntry.overloadRelease.claimsZero.evalRa

end Sys2Proof.Machine
end

