-- ==== Sys2Proof/Machine/Felten.lean ====
section
/-! DEFINITION. Felten as an engine: the check (R39), the grammar and rows 1 to 4 of R35, the command queue and its order
(R57, R60), the wait for a partition under test (R435), and the answer to a granted line (R40, R64). -/

namespace Sys2Proof.Machine

/-! ### The check (R39) -/

/-- One shift of the CRC-8 with polynomial 0x07. -/
def crc8Shift (c : Nat) : Nat := if 128 ≤ c then Nat.xor (c * 2 % 256) 7 else c * 2

/-- `n` shifts. -/
def crc8Shifts : Nat → Nat → Nat
  | 0, c => c
  | n + 1, c => crc8Shifts n (crc8Shift c)

/-- CRC-8 of characters, from `c` on. -/
def crc8From (c : Nat) (xs : List Char) : Nat := xs.foldl (fun c x => crc8Shifts 8 (Nat.xor c x.toNat % 256)) c

/-- The check of a text. -/
def crc8 (cs : List Char) : Nat := crc8From 0 cs

/-- A line as it leaves the port: with its check on a STRICT port (R49). -/
def lineOut (strict : Bool) (t : String) : String :=
  if strict then t ++ " *" ++ hexText 2 (crc8 (t.toList ++ [' '])) else t

/-! ### The verbs (R63) -/

/-- Verbs by name, with the forms they take: as a command, as a query. -/
def verbTable : List (String × Verb × Bool × Bool) :=
  [("CAPS", .caps, false, true), ("STATE", .state, false, true), ("PORT", .port, true, true), ("SUB", .sub, true, true),
   ("UNSUB", .unsub, true, false), ("PEEK", .peek, false, true), ("POKE", .poke, true, false),
   ("TIME", .time, false, true), ("ROD", .rod, false, true), ("FREIGHT", .freight, false, true),
   ("MON", .mon, true, true), ("HARVEST", .harvest, true, true), ("VKA", .vka, false, true),
   ("STACK", .stack, true, true), ("BRIDGE", .bridge, true, true), ("RELAY", .relay, true, true),
   ("BACKUP", .backup, false, true), ("GAUGE", .gauge, false, true), ("RIGHTAWAY", .rightaway, false, true),
   ("CLAIM", .claim, true, false), ("DONE", .done, true, false), ("BUDGET", .budget, true, true),
   ("LOAD", .load, true, false), ("START", .start, true, false), ("STOP", .stop, true, false), ("TT", .tt, false, true),
   ("DEPENDS", .depends, true, true), ("PHASE", .phase, true, true), ("SYNC", .sync, true, true),
   ("BALANCE", .balance, true, true)] ++
  [("RAIL", .rail, true, true), ("ENABLE", .enable, true, false), ("DISABLE", .disable, true, false),
   ("MARGIN", .margin, true, true), ("LIMIT", .limit, true, true), ("LINK", .link, false, true),
   ("ENC", .enc, true, true), ("REG", .reg, true, true), ("STROBE", .strobe, true, true), ("HEAD", .head, false, true),
   ("DOSE", .dose, true, true), ("LIGHTGATE", .lightgate, true, true), ("CAL", .cal, true, false),
   ("ROUTE", .route, true, true), ("FAULT", .fault, false, true), ("CLEAR", .clear, true, false),
   ("FLT", .flt, true, true), ("SIGNAL", .signal, false, true), ("BIST", .bist, true, true), ("LOG", .log, false, true),
   ("NV", .nv, false, true), ("SAVE", .save, true, false)]

/-- The entry of a verb's name. -/
def verbEntry (t : String) : Option (Verb × Bool × Bool) := (verbTable.find? fun x => x.1 == t).map Prod.snd

/-- A verb's name. -/
def verbName (v : Verb) : String := ((verbTable.find? fun x => x.2.1 == v).map Prod.fst).getD ""

/-- `t` can be the object of the verb, so that a `?` may follow it (R34, R63). -/
def takesObject (v : Verb) (t : String) : Bool :=
  match v with
  | .caps | .state | .time | .rod | .freight | .vka | .bridge | .relay | .backup | .gauge | .rightaway | .claim | .done
  | .budget | .sync | .flt | .signal | .log | .nv => false
  | .stack => (numAfter "CELL" t).isSome
  | .fault => (numAfter "EV" t).isSome
  | .bist => (numAfter "BP" t).isSome
  | .port => t ∈ ["HOST", "SERVICE", "SPI"]
  | _ => true

/-! ### Rows 2 and 3 of R35 -/

/-- A space, or a TAB, which counts as one (R32). -/
def isSpace (c : Char) : Bool := c == ' ' || c.toNat == 9

/-- Words separated by spaces, the word in progress kept reversed. -/
def splitGo : List Char → List Char → List (List Char)
  | acc, [] => if acc.isEmpty then [] else [acc.reverse]
  | acc, c :: cs => if isSpace c then (if acc.isEmpty then splitGo [] cs else acc.reverse :: splitGo [] cs) else splitGo (c :: acc) cs

/-- The tokens of a line (R34). -/
def splitWords (cs : List Char) : List (List Char) := splitGo [] cs

/-- The text before a check token, byte for byte as received, and its value, where the last token has the form of one (R34,
R39). -/
def cutCheck (cs : List Char) : Option (List Char × Nat) :=
  match (cs.reverse.dropWhile isSpace) with
  | b :: a :: '*' :: rest =>
    match hexVal (upperChar a), hexVal (upperChar b) with
    | some x, some y =>
      match rest with
      | [] => some ([], x * 16 + y)
      | c :: _ => if isSpace c then some (rest.reverse, x * 16 + y) else none
    | _, _ => none
  | _ => none

/-- Row 2: the line without its check, or NO 13 (R39, R49). -/
def checkRow (strict : Bool) (cs : List Char) : Except (Nat × String) (List Char) :=
  match cutCheck cs with
  | some (t, v) => if crc8 t = v then .ok t else .error (13, "CHECK")
  | none => if strict then .error (13, "CHECK") else .ok cs

/-- A token that is neither verb nor tag: no special character but, in a pair, one `=` with text on both sides. -/
def argForm (t : List Char) : Bool :=
  !(t.any fun c => c = '?' || c = '*' || c = '@') &&
    match cutEq t with
    | none => true
    | some (n, v) => !n.isEmpty && !v.isEmpty && !(v.contains '=')

/-- The tag token's number: decimal digits up to 9999 (R38). -/
def tagNum (t : List Char) : Option Nat :=
  match t with
  | '@' :: ds => if ds.isEmpty || !(ds.all isDig) then none
      else let v := (takeDigits 0 0 ds).1; if v ≤ 9999 then some v else none
  | _ => none

/-- The form of a verb token without its prefix and `?`: at least one character, and none that the grammar gives another
place (R34). Whether the verb is known is row 4's to say (R35). -/
def verbForm (v : List Char) : Bool :=
  !v.isEmpty && !(v.any fun c => c = '?' || c = '*' || c = '@' || c = '^' || c = '=')

/-- `t` may be the object that a `?` follows: of a known verb, one of its objects; of an unknown verb, any word, so that row
4 of R35 answers for the verb. -/
def objectOf (entry : Option (Verb × Bool × Bool)) (t : String) : Bool :=
  match entry with
  | some (v, _) => takesObject v t
  | none => true

/-- A line through row 3: its verb as written, and the rest. -/
structure Parsed where
  /-- Verb. -/
  verb : String
  /-- Query. -/
  query : Bool
  /-- Priority. -/
  prio : Bool
  /-- Tokens. -/
  toks : List String
  /-- Tag. -/
  tag : Option Nat
deriving DecidableEq, Repr

/-- A tag token (R38). -/
def isTag (t : List Char) : Bool := t.head? == some '@'

/-- Row 3 (R34, R38): the tokens in upper case, judged for form, then the tag, then the prefix. A tag token that stands
anywhere but last, in the verb's place too, is 19. Under COMPAT a line that holds a tag, a check or a prefix is answered 10
(R64). A line of spaces alone is not empty and has no verb: it is answered 10 (DEDUCED, assumption 32). -/
def parseRow (compat : Bool) (cs : List Char) : Except (Nat × String) Parsed :=
  let bad : Except (Nat × String) Parsed := .error (10, "SYNTAX")
  let toks := splitWords (cs.map upperChar)
  if compat && (cs.any fun c => c = '@' || c = '*' || c = '^') then bad
  else match toks.filter (fun t => !isTag t) with
  | [] => bad
  | v :: args =>
    let (prio, v) := match v with | '^' :: r => (true, r) | _ => (false, v)
    let (q, v) := match v.reverse with | '?' :: r => (true, r.reverse) | _ => (false, v)
    if !verbForm v then bad
    else
      let entry := verbEntry (String.ofList v)
      let (oq, args) : Bool × List (List Char) := match args with
        | a :: as =>
          (match a.reverse with
          | '?' :: r =>
            let o := r.reverse
            if !q && !o.isEmpty && !(o.contains '=') && !(o.contains '@') && objectOf entry (String.ofList o)
            then (true, o :: as) else (false, a :: as)
          | _ => (false, a :: as))
        | [] => (false, [])
      if !(args.all argForm) then bad
      else
        let tagged : Except (Nat × String) (Option Nat) :=
          match toks.filter isTag with
          | [] => .ok none
          | [t] => if toks.getLast? = some t then
                (match tagNum t with | some n => .ok (some n) | none => .error (19, "TAG"))
              else .error (19, "TAG")
          | _ => .error (19, "TAG")
        match tagged with
        | .error e => .error e
        | .ok tag =>
          if args.any fun t => t.contains '^' then bad
          else .ok ⟨String.ofList v, q || oq, prio, args.map String.ofList, tag⟩

/-! ### Answers (R40, R64) -/

/-- The tag at the end of a reply; none under COMPAT (R38, R64). -/
def tagOut (compat : Bool) (t : Option Nat) : String :=
  match t with
  | some n => if compat then "" else " @" ++ dec n
  | none => ""

/-- The reply line of an answer (R40, R64). -/
def ansText (compat : Bool) (v : String) (tag : Option Nat) (a : Ans) : String :=
  (match a with
    | .ok t | .port t _ _ => "OK " ++ v ++ (if t = "" then "" else " " ++ t)
    | .no c n d => noText compat c n d
    | .absent => if compat then "ERR 40" else "ABSENT"
    | .queued | .queuedDone _ => if compat then "OK" else "QUEUED"
    | .wait n => if compat then "ERR 41" else "WAIT RETRY=" ++ dec (n / 10) ++ "." ++ dec (n % 10) ++ "ms") ++
  tagOut compat tag

/-- A reply placed in the output sequence of its port, lost where the port cannot send (R40, R41). -/
def State.reply (s : State) (p : PortId) (t : String) : State := if s.canSend then s.emit p { kind := .reply, text := t } else s

/-- The estimate of a WAIT reply, at least 0.1 ms (R40; assumption 7). -/
def retry (work : Nat) : Ans := .wait (max 1 (Config.waitEstimate work))

/-! ### The command queue (R57, R60) -/

/-- Complete lines of a port that wait for grant. -/
def State.waiting (s : State) (p : PortId) : List Waiting := s.queue.filter fun w => w.port == p

/-- Bytes in a port's receive buffer (R53). -/
def State.held256 (s : State) (p : PortId) : Nat :=
  (s.port p).rx.length + ((s.waiting p).map fun w => w.line.len).sum

/-- RTS after a change of the receive buffer or of FLOW (R52); without RTSCTS it stands asserted (assumption 31). -/
def State.rts (s : State) (p : PortId) : State :=
  if !(s.port p).set.flow then s.modPort p fun x => { x with rts := true }
  else if p = .host then
    let free := 256 - s.held256 p
    if free ≤ 16 then s.modPort p fun x => { x with rts := false }
    else if 64 ≤ free then s.modPort p fun x => { x with rts := true } else s
  else s

/-- The line granted next among those of one rank: of the lines that came before the previous grant, HOST first, then
SERVICE, then SPI; else the oldest (R57). -/
def nextOf (grants : Nat) (q : List Waiting) : Option Waiting :=
  let old := q.filter fun w => w.epoch < grants
  match old.find? (·.port == .host), old.find? (·.port == .service), old.find? (·.port == .spi) with
  | some w, _, _ => some w
  | none, some w, _ => some w
  | none, none, some w => some w
  | none, none, none => q.head?

/-- The line the Junction grants next: one released by a test first (R435), then a `^` line, then the others (R57); none
while BP1 is under test or FAILED (R414, R432), and none ahead of a timetable step that is to write (R208). -/
def State.choice (s : State) : Option Waiting :=
  if s.dev ≠ .run ∨ s.underTest 1 ∨ s.failed 1 ∨ s.stepWaits then none
  else match s.released with
  | w :: _ => some w
  | [] =>
    match nextOf s.grants (s.queue.filter fun w => w.line.prio) with
    | some w => some w
    | none => nextOf s.grants s.queue

/-- The granted line taken out of its queue, and the grant counted. -/
def State.grantLine (s : State) (w : Waiting) : State :=
  let s := match s.released with
    | _ :: r => { s with released := r }
    | [] => { s with queue := s.queue.erase w }
  { s with grants := s.grants + 1, core := { s.core with passRun := s.core.passRun + 1 } }.rts w.port

/-! ### Lines that wait for a partition under test (R435) -/

/-- The partition of the first object of a rail verb. -/
def railObjBp (l : Line) : List Nat :=
  match (objTok l).bind readRail with
  | some r => [railBp r]
  | none => []

/-- The partition of a head named as object. -/
def headObjBp (l : Line) : List Nat :=
  match (objTok l).bind readHead with
  | some h => [headBp h]
  | none => []

/-- The partition of a phase named as object. -/
def State.phObjBp (s : State) (l : Line) : List Nat :=
  match (objTok l).bind (readUnit "PH" 16) with
  | some n => [s.phBp n]
  | none => []

/-- The partitions for which a line waits while they are under test, by its verb or by the block of its address. -/
def State.lineBps (s : State) (l : Line) : List Nat :=
  match l.verb with
  | .rail | .enable | .disable | .margin | .limit | .balance | .depends => railObjBp l
  | .phase => s.phObjBp l
  | .cal => if objTok l = some "GAUGE" then [6] else s.phObjBp l ++ headObjBp l
  | .sync | .stack | .bridge | .relay | .backup => [4]
  | .mon => [5]
  | .gauge | .rightaway | .claim | .done | .budget => [6]
  | .link | .enc | .reg | .strobe | .head | .dose | .lightgate => headObjBp l
  | .log | .nv | .save | .load => [9]
  | .peek =>
    match l.toks.map parseNat with
    | [some a] => [s.regBp a]
    | [some a, some n] => (List.range (min n 8)).map fun i => s.regBp (a + 4 * i)
    | _ => []
  | .poke =>
    match l.toks.map parseNat with
    | some a :: _ => [s.regBp a]
    | _ => []
  | _ => []

/-- The line waits for a partition under test. -/
def State.mustWait (s : State) (l : Line) : Bool := (s.lineBps l).any fun b => s.underTest b

/-! ### A granted line -/

/-- What executing a line gives: the state and the answer; a refusal leaves the state (R35, R58). -/
abbrev Exec := Except Ans (State × Ans)

/-- Settings of a port that take effect (R50), with RTS judged under them (R52). -/
def State.portChange (s : State) (q : PortId) (c : PortChange) : State :=
  (s.modPort q fun x => { x with set := x.set.after c }).rts q

/-- The answer given; the change a PORT reply carries takes effect when it has been sent, or at once where no reply is
sent (R41, R50). -/
def State.answer (s : State) (p : PortId) (l : Line) (a : Ans) : State :=
  let t := ansText s.compat (verbName l.verb) l.tag a
  match a with
  | .port _ q d =>
    if s.canSend then s.emit p { kind := .reply, text := t, apply := some (q, d) } else s.portChange q d
  | .queuedDone o => (s.reply p t).done o .ok
  | _ => s.reply p t

/-- A granted line executed or set to wait for its partition: 16 lines wait, a further one is answered WAIT (R435). -/
def State.execLine (s : State) (p : PortId) (l : Line) (body : State → Exec) : State :=
  if s.mustWait l then
    if s.held.length < 16 then { s with held := s.held ++ [⟨p, l, s.grants⟩] }
    else s.answer p l (retry s.held.length)
  else match body s with
  | .ok (t, a) => t.answer p l a
  | .error a => s.answer p l a

/-- Line `l` of port `p` is the one the Junction grants next. -/
def State.chosen (s : State) (p : PortId) (l : Line) : Bool :=
  match s.choice with
  | some w => w.port == p && w.line == l
  | none => false

/-- A verb's row: it grants the line it names, if the Junction grants that line next and the line has the row's form; any
other line is not granted by this row. -/
def verbRow (v : Verb) (query : Bool) (form : Line → Bool) (p : PortId) (l : Line) (s : State) (body : State → Exec) : Out :=
  inRun s fun s =>
    if s.chosen p l && l.verb == v && l.query == query && form l then
      (match s.choice with | some w => s.grantLine w | none => s).execLine p l body
    else s

/-- Row 6 of R35 for the units that an argument names: none of them is absent from the variant (R4). -/
def nonAbsent (toks : List String) (name : String) (absent : String → Bool) : Except Ans Unit :=
  let items := (toks.filterMap fun t => match cutEq t.toList with
    | some (n, v) => if String.ofList n = name then some (listItems (String.ofList v)) else none
    | none => none).flatten
  if items.any absent then .error .absent else .ok ()

/-- A head's name that is absent from the variant. -/
def absentHead (p : Part) (t : String) : Bool := match readHead t with | some h => decide (p.heads ≤ h) | none => false

/-- A rail's name that is absent from the variant. -/
def absentRail (p : Part) (t : String) : Bool := match readRail t with | some r => !p.hasRail r | none => false

/-- The form of a verb with one row for each of command and query. -/
def anyForm (_ : Line) : Bool := true

/-- What a queued line is owed (R43): its verb and object as `!DONE` writes them. -/
def owe (p : PortId) (l : Line) (obj : String) : Owed :=
  { port := p, what := verbName l.verb ++ (if obj = "" then "" else " " ++ obj), tag := l.tag }

end Sys2Proof.Machine
end

