-- ==== Sys2Proof/Machine/RegRead.lean ====
section
/-! DEFINITION. What a register reads (17_register_map): the stored word, with the fields that the device forms from its
state at the instant of the read, and what a register of a failed partition, an absent one or an unassigned address
reads. -/

namespace Sys2Proof.Machine

/-! ### Expected signatures (R423, R424) -/

/-- Expected signatures at revision 0x01. -/
def bistExp1 : List Nat :=
  [0x3A7C19E2, 0xC4D06B15, 0x71E8A39C, 0x0B965F4D, 0xE25A1C83, 0x9F03D7B6, 0x48BD2E71, 0x5E21C0A7, 0xA6F48B19, 0x13C7E45D]

/-- The expected signature of partition `bp` at a revision; that of any revision but 0x01 is not given (assumption 6). -/
def bistExp (rev bp : Nat) : Word :=
  if rev = 1 then BitVec.ofNat 32 (bistExp1.getD bp 0) else Config.bistExpect rev bp

/-! ### Identity and state (R2, R469) -/

/-- SYS_ID[23:8]. -/
def Part.id : Part → Nat
  | .uhk7344 => 0x7344
  | .uhk7341 => 0x7341
  | .uhk7340 => 0x7340

/-- SYS_CAPS with the edition as 0. -/
def Part.caps : Part → Nat
  | .uhk7344 => 0x00C7FD04
  | .uhk7341 => 0x0087D681
  | .uhk7340 => 0x0081D680

/-- VCORE as SYS_STATE reports it, in 10 mV. -/
def State.vcore10 (s : State) : Nat := s.core.vcore / 10

/-- A device state as SYS_STATE codes it (R6). -/
def Dev.code : Dev → Nat
  | .reset => 0
  | .selftest => 1
  | .run => 2
  | .bufferStop => 3

/-! ### Fields formed at the read -/

/-- One bit. -/
def bit1 (b : Bool) : Nat := if b then 1 else 0

/-- The record that NV_LSEL selects, none where its slot does not hold it intact (R462). -/
def State.selected (s : State) : Option (List Byte) :=
  let n := s.get F.NV_LSEL_SEQ
  if s.holds n then some (s.slot (logSlot n)) else none

/-- The fields of FAULT_SRC: all 0 for an absent source (R473). -/
def State.srcFields (s : State) : List (Field × Nat) :=
  let e := s.get F.FAULT_SEL_SRC
  let r := s.srcRec e
  if sourceAbsent s.part e then []
  else
    [(F.FAULT_SRC_PRESENT, bit1 (s.srcPresent e)), (F.FAULT_SRC_LATCHED, bit1 (s.latched e)), (F.FAULT_SRC_COUNT, r.count),
     (F.FAULT_SRC_FIRST, r.first), (F.FAULT_SRC_LAST, r.last), (F.FAULT_SRC_LCLASS, r.lclass)]

/-- The fields of HEADn_MDATA at the entry that MSEL names (R360); past the last entry a value the spec does not give
(assumption 28). -/
def State.mdataFields (s : State) (h : Nat) : List (Field × Nat) :=
  let e := s.get (F.HEAD_MSEL_ENTRY h)
  let v := if e < emitters then (s.head h).entry e + 256 * s.trimInUse h e else Config.mirrorBeyond h e % 16384
  [(F.HEAD_MDATA_BASE h, v % 64), (F.HEAD_MDATA_FAIL h, v / 64 % 2), (F.HEAD_MDATA_RAISED h, v / 128 % 2),
   (F.HEAD_MDATA_INUSE h, v / 256 % 64)]

/-- The fields of HEADn_DLDATA at the entry that DLSEL names (R388). -/
def State.dldataFields (s : State) (h : Nat) : List (Field × Nat) :=
  match (s.head h).dead[s.get (F.HEAD_DLSEL_INDEX h)]? with
  | some d =>
    [(F.HEAD_DLDATA_EMITTER h, d.e), (F.HEAD_DLDATA_KIND h, bit1 d.dead), (F.HEAD_DLDATA_RESP h, satNat 255 d.resp),
     (F.HEAD_DLDATA_VALID h, 1)]
  | none => []

/-- The fields of a register that the device forms at the read, over its stored word. -/
def State.formed (s : State) (r : Reg) : List (Field × Nat) :=
  match r with
  | .SYS_ID => [(F.SYS_ID_REV, s.rev), (F.SYS_ID_PART, s.part.id), (F.SYS_ID_VENDOR, 0x48)]
  | .SYS_CAPS => [(⟨Reg.addr .SYS_CAPS, 0, 28⟩, s.part.caps), (F.SYS_CAPS_FELTEN, if s.compat then 1 else 2)]
  | .SYS_STATE =>
    [(F.SYS_STATE_STATE, s.dev.code), (F.SYS_STATE_COMPAT, bit1 s.compat), (F.SYS_STATE_VCORE, satNat 255 s.vcore10)]
  | .SYS_TIME => [(F.SYS_TIME_TICK_LO, s.ticks)]
  | .SYS_TIME_HI => [(F.SYS_TIME_HI_TICK_HI, s.ticks / 2 ^ 32)]
  | .SYS_TIMEBASE => [(F.SYS_TIMEBASE_XTAL_OK, bit1 s.aon.xtal), (F.SYS_TIMEBASE_TICK_SRC, bit1 (!s.aon.xtal)),
     (F.SYS_TIMEBASE_ROD_OLDEST, s.rodOldest)]
  | .FLT_CTRL => [(F.FLT_CTRL_RELEASE, bit1 s.flt.fltRel)]
  | .FAULT_STAT =>
    [(F.FAULT_STAT_FLT_LOW, bit1 s.fltLow), (F.FAULT_STAT_EVT_ACT, s.evtMask),
     (F.FAULT_STAT_KEY_HELD, bit1 s.aon.keyHold.isSome)]
  | .FAULT_PRES_LO => [(F.FAULT_PRES_LO_PRESENT, s.presentMask 0)]
  | .FAULT_PRES_HI => [(F.FAULT_PRES_HI_PRESENT, s.presentMask 32)]
  | .FAULT_SRC => s.srcFields
  | .FAULT_SRC_T =>
    let e := s.get F.FAULT_SEL_SRC
    [(F.FAULT_SRC_T_TICK, if sourceAbsent s.part e then 0 else (s.srcRec e).tick)]
  | .SIG_STAT => [(F.SIG_STAT_LEVEL, bit1 s.sigLevel), (F.SIG_STAT_PULL, bit1 s.sigPull)]
  | .TT_STATUS => [(F.TT_STATUS_SIG_PULL, bit1 s.sigPull), (F.TT_STATUS_SIG_LEVEL, bit1 s.sigLevel)]
  | .TT_DATA => [(F.TT_DATA_WORD, (s.ttWord (s.get F.TT_ADDR_ADDR)).toNat)]
  | .RAIL_PMASK n =>
    [(F.RAIL_PMASK_ASSIGNED n, maskOf (s.assigned n)), (F.RAIL_PMASK_ROTATION n, maskOf (s.rotation n))]
  | .RAIL_PRED n => [(F.RAIL_PRED_VREF n, satNat 8191 (roundNat (s.vRefU n) 10000))]
  | .RAIL_PSTAT n => [(F.RAIL_PSTAT_I_FORCE n, s.iForce n)]
  | .BACKUP_STATUS => [(F.BACKUP_STATUS_ACTIVE, bit1 (s.get F.HARV_START_SOURCE == 2))]
  | .BIST_COND => [(F.BIST_COND_XTAL, bit1 s.aon.xtal), (F.BIST_COND_VCORE_OK, bit1 (within 85 95 s.vcore10))]
  | .BIST_EXP n => [(F.BIST_EXP_EXPECT n, (bistExp s.rev n).toNat)]
  | .NV_LSTAT => [(F.NV_LSTAT_VALID, bit1 s.selected.isSome)]
  | .NV_LDATA i => [(F.NV_LDATA_DATA i, beNat (((s.selected.getD []).drop (4 * i)).take 4))]
  | .LINE_STAT h =>
    [(F.LINE_STAT_RUN h, bit1 (s.lineRun h)), (F.LINE_STAT_READY h, bit1 (s.headReady h)), (F.LINE_STAT_NR h, s.headNr h)]
  | .HEAD_DLDATA h => s.dldataFields h
  | .HEAD_MDATA h => s.mdataFields h
  | _ => []

/-- Fields laid over a word. -/
def overlay (w : Word) (fs : List (Field × Nat)) : Word := fs.foldl (fun w x => withBits w x.1.lo x.1.width x.2) w

/-- The word of a present register of a working partition. -/
def State.liveWord (s : State) (r : Reg) : Word := overlay (s.word r.addr) (s.formed r)

/-! ### Reads (R15, R61, R468, R472, R474) -/

/-- What a read of the address `a` returns, without the advance of R475: 0 where no register stands or where the part has
none there; the kept word of a failed partition, its SC bits 0. -/
def State.readReg (s : State) (a : Nat) : Word :=
  match regAt a with
  | none => 0#32
  | some r =>
    if r.absent s.part then 0#32
    else if s.failed (s.regBp a) then BitVec.ofNat 32 (maskMinus (s.word a).toNat r.sc)
    else s.liveWord r

/-! ### What a failed partition keeps (R474) -/

/-- The registers of a partition whose words hold fields formed at the read. -/
def formedRegs (bp : Nat) : List Reg :=
  let rails (rs : List Nat) : List Reg := (rs.map fun r => [Reg.RAIL_PMASK r, .RAIL_PRED r, .RAIL_PSTAT r]).flatten
  let heads (hs : List Nat) : List Reg := (hs.map fun h => [Reg.LINE_STAT h, .HEAD_DLDATA h, .HEAD_MDATA h]).flatten
  match bp with
  | 2 => [.TT_STATUS, .TT_DATA]
  | 3 => rails [0, 1, 2, 3]
  | 4 => .BACKUP_STATUS :: rails [4, 5]
  | 7 => heads [0, 1]
  | 8 => heads [2, 3]
  | 9 => .NV_LSTAT :: (List.range 4).map Reg.NV_LDATA
  | _ => []

/-- The registers of a partition that is about to be held in reset keep what they read now. -/
def State.freeze (s : State) (bp : Nat) : State :=
  (formedRegs bp).foldl (fun t r => if r.absent s.part then t else t.setWord r.addr (s.liveWord r)) s

/-! ### The advance of a read (R475) -/

/-- TT_ADDR one on, modulo the 512 words of the area. -/
def State.ttAdvance (s : State) : State := if s.failed 2 then s else s.wrap F.TT_ADDR_ADDR

/-- HEADn_MSEL one on, modulo the 31,744 entries of the mirror. -/
def State.mselAdvance (s : State) (h : Nat) : State :=
  if s.failed (headBp h) then s else s.set (F.HEAD_MSEL_ENTRY h) ((s.get (F.HEAD_MSEL_ENTRY h) + 1) % emitters)

/-- The advance that a read of the address `a` brings. -/
def State.readAdvance (s : State) (a : Nat) : State :=
  match regAt a with
  | some .TT_DATA => s.ttAdvance
  | some (.HEAD_MDATA h) => if h < s.part.heads then s.mselAdvance h else s
  | _ => s

end Sys2Proof.Machine
end

