-- ==== Sys2Proof/Machine/BistOps.lean ====
section
/-! DEFINITION. The self-test as the rest of the device sees it (15_self_test): expected signatures, conditions, starts,
what a partition does while under test, its release, tests cut short, and failed partitions. -/

namespace Sys2Proof.Machine

/-! ### Patterns (R424) -/

/-- Patterns P of a partition. -/
def bistP (bp : Nat) : Nat := [2048, 1536, 1024, 1536, 1024, 1024, 768, 1024, 1024, 1024].getD bp 0

/-- A partition's name. -/
def bpName (bp : Nat) : String := "BP" ++ dec bp

/-! ### Conditions (R425) -/

/-- The conditions of R425 at a test-oscillator count. -/
def State.bistCond (s : State) (osc : Nat) : Bool := s.aon.xtal && within 5684 6035 osc && within 85 95 s.vcore10

/-! ### Starts (R431, R432) -/

/-- A head of partition `bp`. -/
def State.bpHeads (s : State) (bp : Nat) : List Nat := (List.range s.part.heads).filter fun h => headBp h == bp

/-- The partition is live; a failed one never is (R434). -/
def State.bistLive (s : State) (bp : Nat) : Bool :=
  !s.failed bp &&
    (match bp with
      | 3 => [0, 1, 2, 3].any fun r => s.rs r != rsOff
      | 4 => s.rs 4 != rsOff || s.rs 5 != rsOff || s.flag F.BR_CTRL_EN
      | 5 => ((List.range 6).any fun r => s.rs r != rsOff) || s.flag F.BR_CTRL_EN
      | 7 | 8 => (s.bpHeads bp).any fun h => s.lineEn h || (s.head h).lg.isSome
      | 9 => s.store.job.isSome || s.store.save.isSome || s.tt.commit.isSome
      | _ => false)

/-- The refusal of a start, as code, name and detail (R431). -/
def State.bistRefusal (s : State) (bp : Nat) : Option (Nat × String × String) :=
  if bp = 0 ∨ bp = 2 then some (22, "REFUSED", "POWERUP")
  else if s.bist.run.isSome then some (20, "STATE", "BUSY")
  else if 0 < s.claims ∧ within 3 8 bp then some (20, "STATE", "CLAIMED")
  else if s.bistLive bp then some (20, "STATE", "LIVE")
  else none

/-- The test queued or running, with its fields of BIST_SUM. -/
def State.setTest (s : State) (r : Option BistRun) : State :=
  let s := { s with bist := { s.bist with run := r } }
  match r with
  | some x => (s.set F.BIST_SUM_RUN_BP x.bp).setFlag F.BIST_SUM_RUNNING true
  | none => (s.set F.BIST_SUM_RUN_BP 0).setFlag F.BIST_SUM_RUNNING false

/-- The result of a test: PASSED follows it. -/
def State.setResult (s : State) (bp res reason pats : Nat) (sig : Word) (powerup : Bool) : State :=
  let s := (s.set (F.BIST_RES_RESULT bp) res).setFlag (F.BIST_RES_POWERUP bp) powerup
  let s := ((s.set (F.BIST_RES_REASON bp) reason).set (F.BIST_RES_PATTERNS bp) pats).set (F.BIST_SIG_SIG bp) sig.toNat
  s.setBit F.BIST_SUM_PASSED bp (res == 1)

/-- The start was by the power-up run. -/
def BistBy.isPowerup : BistBy → Bool
  | .powerup => true
  | _ => false

/-- `!DONE` of a test that a line started. -/
def State.testDone (s : State) (how : BistBy) (r : Fin_) : State :=
  match how with
  | .line o => s.done o r
  | _ => s

/-! ### A partition under test and its release (R432) -/

/-- The first pattern is near: what the partition does during its test begins. -/
def State.testBegin (s : State) (r : BistRun) : State :=
  let s := (s.setTest (some { r with running := true })).set (F.BIST_RES_RESULT r.bp) 4
  if r.how.isPowerup ∨ s.failed r.bp then s
  else match r.bp with
  | 4 => s.bridgeEval.evalRa
  | 5 => ((List.range s.part.mons).foldl State.unsettle s).nodesMoved
  | 6 => { s with bist := { s.bist with copy := s.claims, copyUnp := 0, copyOvf := 0, copyRel := 0, copyCauses := [] } }.evalRa
  | 7 | 8 => (s.bpHeads r.bp).foldl State.linkDown s
  | _ => s

/-- The rails of BP3 or BP4 after a test: LOCK_I 0, offsets adopted outright from the first set, trims 0. -/
def State.railsRelease (s : State) (bp : Nat) : State :=
  let s := s.part.railList.foldl (fun s r =>
    if railBp r = bp then (s.set (F.RAIL_LOCK_LOCK_I r) 0).modRail r fun x => { x with lockI := 0 } else s) s
  (List.range s.part.phases).foldl (fun s n =>
    if s.phBp n = bp then
      ((s.set (F.PH_TRIM_TRIM n) 0).setFlag (F.PH_TRIM_PINNED n) false).modPh n fun x => { x with ofsAny := false, ofsN := 0, ofsSum := 0 }
    else s) s

/-- BP6 after its test: CLAIMS, UNPERMITTED and OVERFLOW from the copy, the causes in edge order, E_avail under NODATA. -/
def State.gaugeRelease (s : State) : State :=
  let b := s.bist
  let add (s : State) (f : Field) (n : Nat) : State := s.set f (satNat 255 (s.get f + n))
  let s := add (add s F.GAUGE_COUNT_UNPERMITTED b.copyUnp) F.GAUGE_COUNT_OVERFLOW b.copyOvf
  let s := (s.set F.GAUGE_RA_CLAIMS b.copy).set F.GAUGE_COUNT_RELEASES (s.get F.GAUGE_COUNT_RELEASES + b.copyRel)
  let s := b.copyCauses.foldl (fun s c => s.raise 47 (causeName 47 c)) s
  let s := { s with
    gauge := { s.gauge with fresh := false, eRaw := 0, eAvail := 0, acc := (if b.copyRel = 0 then s.gauge.acc else 0) },
    bist := { s.bist with copy := 0, copyUnp := 0, copyOvf := 0, copyRel := 0, copyCauses := [] } }
  let s := (s.set F.GAUGE_AVAIL_E_AVAIL 0).set F.GAUGE_AVAIL_E_ESR 0
  (if 0 < b.copy then s.ordinary else s).claimsZero.evalRa

/-- A partition released after its on-demand test; the lines that waited for it are granted first (R432, R435). -/
def State.testRelease (s : State) (bp : Nat) : State :=
  let s := { s with released := s.released ++ s.held, held := [] }
  match bp with
  | 1 =>
    let w := s.flt.waitRouted
    w.foldl State.route { s with flt := { s.flt with waitRouted := [] } }
  | 3 => s.railsRelease 3
  | 4 => (s.railsRelease 4).bridgeEval.evalRa
  | 5 => ((List.range s.part.mons).foldl State.unsettle s).nodesMoved
  | 6 => s.gaugeRelease
  | 9 => s.startJob
  | _ => s.evalRa

/-- The lines that waited for a partition that has failed (R435). -/
def State.heldFail (s : State) (bp : Nat) : State :=
  let w := s.held
  w.foldl (fun s x => s.answer x.port x.line (.failed bp)) { s with held := [] }

/-- FLT_N at its settings of the configuration image, or at their defaults, which it follows while BP1 reports FAILED (R414). -/
def State.fltImage (s : State) : State :=
  let a := Reg.addr .FLT_CTRL
  s.setWord a ((Tab.get (fun _ => none) s.store.image a).getD (resetWord s.part a))

/-- What follows at once from a partition's failure in RUN. An opening of the relay that waits is refused (R22, R151). The claims
and releases that BP0 has counted into its copy during a test of BP6 that fails are dropped, and CLAIMS keeps the count from
before the test: R432 gives the copy to a released BP6 only, R434 does not say (DESIGN CHOICE, assumption 71). -/
def State.testFailed (s : State) (bp : Nat) : State :=
  let s := s.heldFail bp
  match bp with
  | 1 => { s with flt := { s.flt with waitRouted := [], evtPulse := 0 } }.fltImage
  | 4 => ((List.range 8).foldl (fun s k => s.setBal k false) s).dropOpening.bridgeEval.evalRa
  | 5 => ((List.range s.part.mons).foldl State.unsettle s).nodesMoved
  | 7 | 8 => ((s.bpHeads bp).foldl State.linkDown s).evalRa
  | 9 => s.flt.logQ.foldl (fun s _ => s.logDropped) { s with flt := { s.flt with logQ := [] } }
  | 6 => s.dropOpening.evalRa
  | _ => s.evalRa

/-! ### Ends (R433, R434) -/

/-- REASON of an incomplete test. -/
def cutName (k : Nat) : String := ["CONDITION", "CLAIM", "ABORT", "BUFFERSTOP"].getD k "?"

/-- The test queued or running cut short: INCOMPLETE, with the number of patterns applied, a free value once they have
begun. The partition is released as after a pass; one that reports FAILED stays held (R434). -/
def State.cutTest (s : State) (reason : Nat) : State :=
  match s.bist.run with
  | none => s
  | some r =>
    let (n, s) := if r.running then s.drawBelow (bistP r.bp + 1) else (0, s)
    let s := (s.setTest none).setResult r.bp 3 reason n 0#32 r.how.isPowerup
    let s := s.raise 56 "INCOMPLETE" ("BP=" ++ bpName r.bp ++ " PATTERNS=" ++ dec n ++ " REASON=" ++ cutName reason) (some n)
    let s := if r.running && !s.failed r.bp && !r.how.isPowerup then s.testRelease r.bp else s
    s.testDone r.how (s.finNo 22 "REFUSED" "INCOMPLETE")

/-- A claim cuts short a test of BP3, BP4, BP5, BP7 or BP8 (R433). -/
def State.claimCuts (s : State) : State :=
  match s.bist.run with
  | some r => if [3, 4, 5, 7, 8].contains r.bp && !r.how.isPowerup then s.cutTest 1 else s
  | none => s

/-- An on-demand test begins to wait for its check (R426, R431). -/
def State.testQueue (s : State) (bp : Nat) (how : BistBy) : State := s.setTest (some { bp := bp, how := how })

end Sys2Proof.Machine
end

