-- ==== Sys2Proof/Machine/Gauge.lean ====
section
/-! DEFINITION. The commands of the gauge and of right-away (07_gauge_rightaway): claims and releases on the pins and by
command, and the verbs GAUGE, RIGHTAWAY, CLAIM, DONE, BUDGET and CAL GAUGE. -/

namespace Sys2Proof.Machine

/-! ### Claims (R183 to R185) -/

/-- A claim counted (R183): at CLAIMS 4 it overflows. A claim turns a top-up closure into an ordinary one (R156) and cuts
short a test (R433). -/
def State.countClaim (s : State) (permitted : Bool) : State :=
  if 4 ≤ s.claims then (s.bump F.GAUGE_COUNT_OVERFLOW).raise 47 "OVERFLOW"
  else
    let s := (s.set F.GAUGE_RA_CLAIMS (s.claims + 1)).ordinary
    let s := if permitted then s else (s.bump F.GAUGE_COUNT_UNPERMITTED).raise 47 "UNPERMITTED"
    s.claimCuts.evalRa

/-- A claim counted by BP0 while BP6 is under test (R432). -/
def State.copyClaim (s : State) (permitted : Bool) : State :=
  let b := s.bist
  let b :=
    if 4 ≤ b.copy then { b with copyOvf := b.copyOvf + 1, copyCauses := b.copyCauses ++ [3] }
    else if permitted then { b with copy := b.copy + 1 }
    else { b with copy := b.copy + 1, copyUnp := b.copyUnp + 1, copyCauses := b.copyCauses ++ [2] }
  { s with bist := b }

/-- The pins count (R188, R482): not under COMPAT, not without VIO, not while BP6 reports FAILED. -/
def State.pinsCount (s : State) : Bool := !s.compat && s.aon.vioOk && !s.failed 6

/-- PAGE_CLAIM_EDGE (R182, R183): permitted where RIGHTAWAY was high within the 20 µs before. -/
def execPageClaimEdge (sinceFall : Nat) (s : State) : Out :=
  inRun s fun s =>
    let permitted := s.flag F.GAUGE_RA_RIGHTAWAY || (s.gauge.raEver && decide (sinceFall ≤ 20))
    if !s.pinsCount then s else if s.underTest 6 then s.copyClaim permitted else s.countClaim permitted

/-- PAGE_DONE_EDGE (R182, R184). -/
def execPageDoneEdge (s : State) : Out :=
  inRun s fun s =>
    if !s.pinsCount then s
    else if s.underTest 6 then
      let b := s.bist
      if b.copy = 0 then { s with bist := { b with copyCauses := b.copyCauses ++ [4] } }
      else { s with bist := { b with copy := b.copy - 1, copyRel := b.copyRel + 1 } }.overloadRelease
    else s.release

/-! ### Settings and CAL GAUGE (R177 to R179, R194) -/

/-- A change of the gauge's settings from `s` to `t`: what follows from LEARN_N, CAP_NOM, LOAD_SNS and the budget. -/
def State.gaugeWritten (s t : State) : State :=
  let t := (t.set F.GAUGE_PAGE_B_LEARNED t.learnedJ).syncBudget (s.flag F.GAUGE_BUDGET_FORCE) (s.get F.GAUGE_PAGE_B_LEARNED)
  let t := if t.flag F.GAUGE_CFG_LOAD_SNS then t else t.set F.GAUGE_POWER_PLOAD 0
  t.capLow.evalRa

/-- What CAL GAUGE discards (R194). -/
def State.calGauge (s : State) : State :=
  let t := ((s.set F.GAUGE_CAP_CAP_MEAS 0).set F.GAUGE_ESR_ESR_MEAS 0).set F.GAUGE_ESR_ETA_MEAS 0
  s.gaugeWritten { t with gauge := { t.gauge with entries := [] } }

/-- GAUGE_CAL_RUN (R194): the queued calibration at CLAIMS 0. -/
def execGaugeCalRun (s : State) : Out :=
  inRun s fun s =>
    if !s.gauge.calPend ∨ 0 < s.claims ∨ !s.works 6 then s
    else
      let mine := s.owed.filter fun o => o.what == "CAL GAUGE"
      let s := { s.calGauge with owed := s.owed.filter fun o => o.what != "CAL GAUGE" }
      let s := { s with gauge := { s.gauge with calPend := false } }
      mine.foldl (fun s o => s.done o .ok) s

/-! ### Queries (R191, R193) -/

/-- A time in whole seconds, or NONE. -/
def secOut (c : Bool) (t : Option Nat) : String :=
  match t with
  | some n => siOut c 0 "s" 1000000000 n
  | none => "NONE"

/-- GAUGE_QUERY (R191). -/
def execGaugeQuery (p : PortId) (l : Line) (s : State) : Out :=
  verbRow .gauge true anyForm p l s fun s => do
    noArgs l.toks
    s.serves 6
    let c := s.compat
    let m := s.get F.GAUGE_CAP_CAP_MEAS
    pure (s, .ok (fieldsOut
      [("AVAIL", jOut c s.gauge.eAvail), ("RAW", jOut c s.gauge.eRaw), ("ESRLOSS", jOut c (s.get F.GAUGE_AVAIL_E_ESR)),
       ("CAP", capOut c s.capUse 100), ("CAPSRC", if m ≠ 0 ∧ m ≤ s.get F.GAUGE_CAP_CAP_NOM then "MEASURED" else "NOMINAL"),
       ("ESR", ohmOut c (s.esrUse * 100 : Nat)), ("ETA", pctOut c s.etaUse), ("PAGES", dec s.pages), ("FREE", dec s.freePages),
       ("PSTACK", wOut c (s.sget F.GAUGE_POWER_PSTACK * 100)), ("PLOAD", wOut c (s.get F.GAUGE_POWER_PLOAD * 100 : Nat)),
       ("RUNTIME", secOut c s.runtime), ("WAIT", secOut c s.raWait)]))

/-- The names of the active holds. -/
def holdsOut (m : Nat) : List String := (bitsSet m 6).map fun k => holdNames.getD k ""

/-- RIGHTAWAY_QUERY (R193). -/
def execRightawayQuery (p : PortId) (l : Line) (s : State) : Out :=
  verbRow .rightaway true anyForm p l s fun s => do
    noArgs l.toks
    s.serves 6
    let c := s.compat
    let ra := s.flag F.GAUGE_RA_RIGHTAWAY
    let holds := s.holdMask
    let more := if ra ∨ holds ≠ 0 then [] else
      [("DEFICIT", jOut c ((s.need + s.get F.GAUGE_CFG_RA_HYS : Nat) - (s.gauge.eAvail : Int))), ("WAIT", secOut c s.raWait)]
    pure (s, .ok (fieldsOut
      ([("STATE", onOut ra), ("CLAIMS", dec s.claims), ("NEED", jOut c s.need), ("AVAIL", jOut c s.gauge.eAvail),
        ("HOLD", listOut (holdsOut holds))] ++ more)))

/-! ### CLAIM and DONE (R185, R193) -/

/-- Why a CLAIM is refused now: for the first active hold, else for energy. -/
def State.claimRefusal (s : State) : Option Ans :=
  match bitsSet s.holdMask 6 with
  | 0 :: _ => some (.failed (if s.failed 6 then 6 else 4))
  | k :: _ => some (.state ("HOLD=" ++ holdNames.getD k ""))
  | [] =>
    if s.need ≤ s.gauge.eAvail then none
    else some (.no 30 "DEFICIT" (fieldsOut
      [("DEFICIT", jOut s.compat (s.need - s.gauge.eAvail : Nat)), ("WAIT", secOut s.compat (s.waitTo s.need))]))

/-- CLAIM_CMD (R185). -/
def execClaimCmd (p : PortId) (l : Line) (s : State) : Out :=
  verbRow .claim false anyForm p l s fun s => do
    noArgs l.toks
    match s.claimRefusal with
    | some a => throw a
    | none =>
      let t := s.countClaim true
      pure (t, .ok (fieldsOut [("CLAIMS", dec t.claims), ("NEED", jOut t.compat t.need), ("AVAIL", jOut t.compat t.gauge.eAvail)]))

/-- DONE_CMD (R184, R193). -/
def execDoneCmd (p : PortId) (l : Line) (s : State) : Out :=
  verbRow .done false anyForm p l s fun s => do
    noArgs l.toks
    s.serves 6
    let t := s.release
    if s.claims = 0 then pure (t, .state "NOCLAIM") else pure (t, .ok ("CLAIMS=" ++ dec t.claims))

/-! ### BUDGET (R192) -/

/-- A list of heads as a mask, none for an unknown name. -/
def headMask (t : String) : Option Nat :=
  if t = "NONE" then some 0
  else
    let hs := (listItems t).map readHead
    if hs.all Option.isSome then some (maskOf (hs.filterMap id)) else none

/-- The settings and readings that BUDGET reports. -/
def State.budgetFields (s : State) : String :=
  let c := s.compat
  let le := s.get F.GAUGE_PAGE_B_LEARNED
  fieldsOut
    [("SET", jOut c (s.get F.GAUGE_BUDGET_BUDGET)), ("FLOOR", jOut c (s.get F.GAUGE_BUDGET_FLOOR_RES)),
     ("FORCE", onOut (s.flag F.GAUGE_BUDGET_FORCE)), ("PAGET", siOut c 0 "s" 1000000000 (s.get F.GAUGE_CFG_PAGE_T)),
     ("ETA", pctOut c (s.get F.GAUGE_CFG_ETA)), ("HYS", jOut c (s.get F.GAUGE_CFG_RA_HYS)),
     ("HEADS", listOut ((bitsSet (s.get F.GAUGE_CFG_RA_HEADS) 4).map headName)), ("LEARNN", dec (s.get F.GAUGE_CFG_LEARN_N)),
     ("LOADSNS", onOut (s.flag F.GAUGE_CFG_LOAD_SNS)), ("CAPNOM", capOut c (s.get F.GAUGE_CAP_CAP_NOM) 100),
     ("ESR", ohmOut c (s.get F.GAUGE_ESR_ESR_SET * 100 : Nat)), ("INFORCE", jOut c s.budgetInForce),
     ("LEARNED", if s.learnedValid then jOut c le else "NONE"),
     ("SOURCE", if s.flag F.GAUGE_BUDGET_FORCE then "FORCED" else if s.learnedRules then "LEARNED" else "BUDGET"),
     ("PENDING", bitOut (s.flag F.GAUGE_RA_PEND_LOWER))]

/-- The arguments of BUDGET. -/
def budgetKinds : List (String × Kind) :=
  [("SET", kJoule 100 20000), ("FLOOR", kJoule 0 4095), ("FORCE", .switch), ("PAGET", kTime 1000000000 1000000000 1 30),
   ("ETA", kPct 10 70 100), ("HYS", kJoule 0 255), ("HEADS", .raw), ("LEARNN", .num 1 15), ("LOADSNS", .switch),
   ("CAPNOM", kCap 100 65535), ("ESR", kOhm 100 0 4095)]

/-- The settings of the gauge with the arguments given (R192). -/
def State.budgetStored (s : State) (a : Args) (heads : Option Nat) : State :=
  let t := ((s.setArg F.GAUGE_BUDGET_BUDGET (a.nat "SET")).setArg F.GAUGE_BUDGET_FLOOR_RES (a.nat "FLOOR")).setArg
    F.GAUGE_BUDGET_FORCE (a.nat "FORCE")
  let t := ((t.setArg F.GAUGE_CFG_PAGE_T (a.nat "PAGET")).setArg F.GAUGE_CFG_ETA (a.nat "ETA")).setArg F.GAUGE_CFG_RA_HYS (a.nat "HYS")
  let t := ((t.setArg F.GAUGE_CFG_RA_HEADS heads).setArg F.GAUGE_CFG_LEARN_N (a.nat "LEARNN")).setArg F.GAUGE_CFG_LOAD_SNS
    (a.nat "LOADSNS")
  (t.setArg F.GAUGE_CAP_CAP_NOM (a.nat "CAPNOM")).setArg F.GAUGE_ESR_ESR_SET (a.nat "ESR")

/-- BUDGET_CMD (R192). -/
def execBudgetCmd (p : PortId) (l : Line) (s : State) : Out :=
  verbRow .budget false anyForm p l s fun s => do
    nonAbsent l.toks "HEADS" (absentHead s.part)
    let a ← parseArgs s.compat budgetKinds l.toks
    let heads ← match a.txt "HEADS" with
      | none => pure none
      | some t => match headMask t with
        | none => throw (.range "HEADS")
        | some m => pure (some m)
    s.serves 6
    let t := s.budgetStored a heads
    let t := s.gaugeWritten t
    pure (t, .ok t.budgetFields)

/-- BUDGET_QUERY (R192). -/
def execBudgetQuery (p : PortId) (l : Line) (s : State) : Out :=
  verbRow .budget true anyForm p l s fun s => do
    noArgs l.toks
    s.serves 6
    pure (s, .ok s.budgetFields)

/-! ### CAL GAUGE -/

/-- CAL names the gauge. -/
def calsGauge (l : Line) : Bool := objTok l == some "GAUGE"

/-- CAL_GAUGE_CMD (R194). -/
def execCalGaugeCmd (p : PortId) (l : Line) (s : State) : Out :=
  verbRow .cal false calsGauge p l s fun s => do
    noArgs (restToks l)
    s.serves 6
    if 0 < s.claims then
      pure ({ s with gauge := { s.gauge with calPend := true }, owed := s.owed ++ [owe p l "GAUGE"] }, .queued)
    else pure (s.calGauge, .ok "GAUGE")

end Sys2Proof.Machine
end

