-- ==== Sys2Proof/Machine/Harvest.lean ====
section
/-! DEFINITION. The commands of the harvest inputs, of the KEY and of the keep-alive domain (05_harvest, R160, R161). -/

namespace Sys2Proof.Machine

/-! ### Inputs (R117, R120, R121) -/

/-- The tick edge of the next refresh: every 32 ticks at RUN_LVL, every 65,536 at STBY_LVL (R94). -/
def State.refreshEdge (s : State) : Nat :=
  let p := if s.core.stby then 65536 else 32
  (max s.core.refAt s.core.levelAt) / p * p + p

/-- REFERENCE_REFRESH (R94): the next refresh, whole; MPPSET is sampled (R120). -/
def execReferenceRefresh (mpp : List Nat) (s : State) : Out :=
  anyDev s fun s =>
    if s.aon.running then
      let s := s.reach s.refreshEdge
      { s with core := { s.core with refAt := s.ticks } }.mppSample mpp
    else s

/-- FRACTION_PERIOD (R121): an open-circuit sample starts. -/
def execFractionPeriod (i : Fin 4) (s : State) : Out :=
  inRun s fun s =>
    match (s.harv i).nextAt with
    | some t => if s.part.hasHarv i ∧ s.harvMode i = 1 ∧ (s.harv i).voc = .none then (s.reach t).startVoc i else s
    | none => s

/-- FRACTION_DWELL_END (R121): the conversion of VOC is asked for at Freight rank. -/
def execFractionDwellEnd (i : Fin 4) (s : State) : Out :=
  inRun s fun s =>
    match (s.harv i).voc, (s.harv i).dwellAt with
    | .dwell, some t =>
      (((s.reach t).modHarv i fun x => { x with voc := .convert, dwellAt := none }).askFreight (.voc i)).harvState i
    | _, _ => s

/-- INPUT_CLAMP (R117): the input's own comparator clamps it. -/
def execInputClamp (i : Fin 4) (s : State) : Out :=
  anyDev s fun s => if s.part.hasHarv i then s.setClamp i true (s.harv i).clampMon else s

/-- CLAMP_RELEASE (R117): the node is back below; a supervising monitor that reads ABOVE holds the clamp. -/
def execClampRelease (i : Fin 4) (s : State) : Out :=
  anyDev s fun s => if s.part.hasHarv i then s.setClamp i false (s.harv i).clampMon else s

/-! ### The KEY (R125, R133, R159, R413) -/

/-- A KEY hold begins or ends (R413). -/
def State.setHold (s : State) (t : Option Nat) : State :=
  let s := { s with aon := { s.aon with keyHold := t } }
  s.clear 61 "KEY_HOLD"

/-- KEY_PULSE_START (R125): a pulse begins, also before the press has brought VKA to AON_START; a rise during a pulse is part
of it. Any pulse ends a hold, a PRESS begins one (R413). -/
def execKeyPulseStart (press : Bool) (s : State) : Out :=
  anyDev s fun s =>
    if s.aon.keyPulse ≠ .none then s
    else
      let s := s.setHold (if press then some s.ticks else none)
      { s with aon := { s.aon with keyPulse := if press then .press else .release } }

/-- The cold-start shot at the end of a PRESS before the first RUN with the stack empty (R133). -/
def State.coldShot (s : State) (vka : Nat) : State :=
  if 4950 ≤ vka then
    if s.aon.shotOwed then s
    else { s with aon := { s.aon with shotOwed := true }, relay := { s.relay with shot := some (s.ticks + 160) } }.setFlag
      F.HARV_START_SHOT true
  else { s with aon := { s.aon with weakOwed := true } }.setFlag F.HARV_START_KEY_WEAK true

/-- KEY_PULSE_END (R125): in RUN the event and the recovery shot (R159); before the first RUN the cold-start shot. -/
def execKeyPulseEnd (vka stack : Nat) (s : State) : Out :=
  anyDev s fun s =>
    let k := s.aon.keyPulse
    let s := { s with aon := { s.aon with keyPulse := .none } }
    match k with
    | .none => s
    | .release => if s.dev = .run then s.raise 40 "KEY_RELEASE" else s
    | .press =>
      if s.dev = .run then
        let s := s.raise 40 "KEY_PRESS"
        if stack < 1000 ∧ s.get F.RELAY_STATUS_STATE ≠ 2 ∧ !s.flag F.BR_STATUS_MAINS_Q then
          s.relayRequest { set := true, why := .recovery }
        else s
      else if !s.aon.leftReset ∧ stack < 1000 then s.coldShot vka
      else s

/-! ### The keep-alive source (R127, R160) -/

/-- No relay pulse waits or runs. -/
def State.relayIdle (s : State) : Bool := s.relay.wait.isNone && s.relay.run.isNone && s.relay.shot.isNone

/-- RES_ON_FALL (R127): VKA is below the level that harvest must hold, and the feed takes it, provided the stack can feed. -/
def execResOnFall (vka stack : Nat) (s : State) : Out :=
  anyDev s fun s =>
    if !s.aon.running ∨ s.aon.drain ∨ s.holdLevel ≤ vka ∨ s.get F.HARV_START_SOURCE ≠ 0 ∨ stack < (if s.aon.feedLow then 1050 else 1000) then s
    else { s with aon := { s.aon with feedLow := false } }.setSource 1

/-- RES_OFF_RISE (R127, R160): VKA has risen to RES_OFF and harvest takes it back, from RESERVOIR with no relay pulse waiting
or running, so that the feed holds its normal target. -/
def execResOffRise (vka : Nat) (s : State) : Out :=
  anyDev s fun s =>
    if s.get F.HARV_KA_RES_OFF * 25 ≤ vka ∧
        (s.get F.HARV_START_SOURCE = 2 ∨ (s.get F.HARV_START_SOURCE = 1 ∧ s.relayIdle)) then (s.qualified vka).setSource 0
    else s

/-- RES_OFF_HOLD_TIMER (R127): VKA has stood at RES_OFF for 64 ticks with the feed delivering nothing. -/
def execResOffHoldTimer (s : State) : Out :=
  anyDev s fun s =>
    if s.get F.HARV_START_SOURCE = 1 ∧ s.relayIdle then (s.qualified (s.get F.HARV_KA_RES_OFF * 25)).setSource 0 else s

/-- STACK_FEED_LOW (R127): the feed stops and the source becomes HARVEST. -/
def execStackFeedLow (vka : Nat) (s : State) : Out :=
  anyDev s fun s =>
    if s.get F.HARV_START_SOURCE = 1 then
      { s.qualified vka with aon := { (s.qualified vka).aon with feedLow := true } }.setSource 0
    else s

/-- STACK_FEED_RECOVER (R127, R160): the stack has reached 1.05 V, and from HARVEST with VKA below the level that applies. -/
def execStackFeedRecover (vka : Nat) (s : State) : Out :=
  anyDev s fun s =>
    if s.aon.drain then s
    else if s.get F.HARV_START_SOURCE = 2 ∨ (s.get F.HARV_START_SOURCE = 0 ∧ s.aon.feedLow ∧ vka < s.holdLevel) then
      { s with aon := { s.aon with feedLow := false } }.setSource 1
    else s

/-- BK_ON_FALL (R160): VKA has fallen to BK_ON with a cell present. -/
def execBkOnFall (vka : Nat) (s : State) : Out :=
  anyDev s fun s =>
    if s.aon.running ∧ !s.aon.drain ∧ vka ≤ s.bkOn ∧ s.flag F.BACKUP_STATUS_PRESENT then s.setSource 2 else s

/-! ### Trickle and clamp (R126, R128) -/

/-- TRICKLE_START (R128): VKA has reached TRICKLE_ON, the source is HARVEST, no relay pulse waits, the stack is below full. -/
def execTrickleStart (vka : Nat) (s : State) : Out :=
  anyDev s fun s =>
    if s.get F.HARV_KA_TRICKLE_ON * 25 ≤ vka ∧ s.aon.running ∧ !s.aon.drain ∧ s.get F.HARV_START_SOURCE = 0 ∧ s.relay.wait.isNone ∧ !s.atFull then
      s.setFlag F.HARV_START_TRICKLE true
    else s

/-- TRICKLE_STOP (R128): the burst ends and its energy is added, wrapping; so is that of a burst that the full level, the source
or a relay request has ended. -/
def execTrickleStop (mJ : Nat) (s : State) : Out :=
  anyDev s fun s =>
    if s.aon.running then
      (s.setFlag F.HARV_START_TRICKLE false).set F.HARV_TRICKLE_ENERGY (s.get F.HARV_TRICKLE_ENERGY + mJ)
    else s

/-- VKA_CLAMP (R126): every harvest converter stops. -/
def execVkaClamp (s : State) : Out :=
  anyDev s fun s => { s with aon := { s.aon with vkaClamp := true } }.harvStates

/-- VKA_CLAMP_RELEASE (R126): the converters resume. -/
def execVkaClampRelease (s : State) : Out :=
  anyDev s fun s => { s with aon := { s.aon with vkaClamp := false } }.harvStates

/-! ### The backup cell (R161) -/

/-- BACKUP_EMPTY (R161): the cell has fallen below 1.900 V. -/
def execBackupEmpty (s : State) : Out :=
  anyDev s fun s =>
    if !s.aon.running ∨ s.flag F.BACKUP_STATUS_EMPTY then s
    else (s.setFlag F.BACKUP_STATUS_EMPTY true).raise 45 "EMPTY"

/-- BACKUP_UPDATE (R161, R164): the cell's voltage, the energy drawn, and LOW, EMPTY and PRESENT. A cell that counts as not
fitted is neither the source nor LOW. -/
def execBackupUpdate (code used : Nat) (s : State) : Out :=
  anyDev s fun s =>
    if !s.aon.running then s
    else
      let v := 3 * code
      let fitted := decide (2000 ≤ v)
      let low := fitted && decide (v < 4200)
      let was := s.flag F.BACKUP_STATUS_LOW
      let s := (s.set F.BACKUP_STATUS_VBACKUP (satNat 4095 code)).set F.BACKUP_STATUS_USED
        (satNat 65535 (s.get F.BACKUP_STATUS_USED + used))
      let s := (s.setFlag F.BACKUP_STATUS_PRESENT fitted).setFlag F.BACKUP_STATUS_LOW low
      let s := if fitted then s.clear 45 "MISSING" else s
      let s := if low && !was then s.raise 45 "LOW" else s
      let s := if 4300 < v then s.clear 45 "LOW" else s
      let s := if 4000 < v then (s.setFlag F.BACKUP_STATUS_EMPTY false).clear 45 "EMPTY" else s
      if !fitted ∧ s.get F.HARV_START_SOURCE = 2 then s.setSource 0 else s

end Sys2Proof.Machine
end

