-- ==== Sys2Proof/Machine/Heads.lean ====
section
/-! DEFINITION. The commands of the heads that come with time or by register (13_exposure_dose): the scrubs of the trims
(R361, R362), VOFS (R374), and the light gate (R379 to R386). -/

namespace Sys2Proof.Machine

/-! ### Scrubs (R361, R362) -/

/-- A double-bit error: counted and raised once for a word, which then waits for its repair by two TRIM_RD requests
(R361). -/
def State.doubleError (s : State) (h k : Nat) : State :=
  if (s.head h).bad.contains k then s
  else
    let s := (s.bump (F.HEAD_CNT2_ECC_UNCORR h)).modHead h fun x => { x with bad := x.bad ++ [k] }
    let s := (s.trimReason h).raiseDose h "ECC_UNCORR" ("ENTRY=" ++ dec (8 * k)) (some (8 * k))
    if s.framesRun h then s else s.sideNext h

/-- SCRUB_MIRROR_WORD (R361): the scrub pauses during a light-gate run (R385). -/
def execScrubMirrorWord (h : Fin 4) (k : Nat) (err : EccFinding) (s : State) : Out :=
  freight s fun s =>
    if !s.headLive h ∨ !(s.head h).attached ∨ s.lgRunning h ∨ 3968 ≤ k then s
    else
      let s := match err with
        | .clean => s
        | .single => s.bump (F.HEAD_CNT_ECC_CORR h)
        | .double => s.doubleError h k
      (if k = 3967 then s.jobDone 1 h else s).evalRa

/-- The pulses of a line are being given: the gap between lines has not begun (R87). -/
def State.lineBusy (s : State) (h : Nat) : Bool := (s.head h).cur.isSome

/-- SCRUB_TRIM_REQUEST (R362): a request for the next four trims, where no other is outstanding, no verify pass runs and
no light-gate run does (R385). -/
def execScrubTrimRequest (h : Fin 4) (s : State) : Out :=
  freight s fun s =>
    let x := s.head h
    if !s.headLive h ∨ s.link h ≠ 3 ∨ s.lineBusy h ∨ s.lgRunning h ∨ x.side.isSome ∨ x.verify.isSome ∨ !x.bad.isEmpty then s
    else
      let k := x.scrubAt
      let s := s.ask h { write := false, chip := k / 32, idx := k % 32, why := .scrub }
      let s := s.modHead h fun x => { x with scrubAt := (k + 1) % 7936 }
      if k = 7935 then s.jobDone 2 h else s

/-! ### VOFS (R374) -/

/-- CAL_HEADSNS_SAMPLE (R374): VOFS moved by a quarter of the difference from the rail reference. -/
def execCalHeadsnsSample (h : Fin 4) (vhead : Nat) (s : State) : Out :=
  freight s fun s =>
    if !s.headLive h ∨ s.link h ≠ 3 ∨ s.lineBusy h then s
    else
      let v := s.sget (F.HEAD_VOFS_VOFS h)
      let d := roundDiv ((vhead : Int) * 20000 - s.vRefU h - v * 20000) 80000
      (s.putVofs h (v + d)).jobDone 5 h

/-- CAL written 1 runs CAL HEADn, or queues it while a sheet is claimed (R386, R388). -/
def State.headCalWritten (s : State) (h : Nat) : State :=
  if !s.headLive h ∨ s.flag (F.HEAD_CAL_CAL_PEND h) then s
  else if 0 < s.claims then (s.setFlag (F.HEAD_CAL_CAL h) true).setFlag (F.HEAD_CAL_CAL_PEND h) true
  else (s.calHeadRun h).1

/-- HEAD_CAL_REQUEST (R386, R388). -/
def execHeadCalRequest (h : Fin 4) (s : State) : Out := inRun s fun s => s.headCalWritten h

/-- HEAD_RESUME_REQUEST (R377). -/
def execHeadResumeRequest (h : Fin 4) (s : State) : Out :=
  inRun s fun s => if s.headLive h then s.resumeWritten h else s

/-! ### The light gate (R379 to R386) -/

/-- START written 1 asks for a run; one refused is not queued (R379, R388). -/
def State.lgStartWritten (s : State) (h : Nat) : State :=
  if !s.headLive h ∨ (s.head h).lg.isSome ∨ (s.lgRefusal h).isSome then s else (s.lgQueue h none).evalRa

/-- ABORT written 1 (R385). -/
def State.lgAbortWritten (s : State) (h : Nat) : State := if s.headLive h then (s.lgAbort h "ABORT").evalRa else s

/-- HEAD_LG_START (R379, R388). -/
def execHeadLgStart (h : Fin 4) (parked : Bool) (s : State) : Out := inRun s fun s => (s.setPark h parked).lgStartWritten h

/-- HEAD_LG_ABORT (R385). -/
def execHeadLgAbort (h : Fin 4) (s : State) : Out := inRun s fun s => s.lgAbortWritten h

/-- HPARK_FALL (R385): a running run is aborted. -/
def execHparkFall (h : Fin 4) (s : State) : Out :=
  anyDev s fun s =>
    let s := s.setPark h false
    if s.lgRunning h then (s.lgAbort h "MOVED").evalRa else s

/-- The run starts (R380): the dead list is set aside, and every raised emitter stands at its base. -/
def State.lgBegin (s : State) (h : Nat) (l : LgRun) : State :=
  let chips := s.raisedChips h
  let s := s.modHead h fun x =>
    { (x.putDead []) with deadSaved := x.dead, lg := some { l with running := true }, side := none, got := [] }
  let s := if chips.isEmpty then s.trimNext h else s.writeTrims h chips
  ((s.setLg h 2).set (F.HEAD_LGSTAT_EMITTER h) 0).setFails h

/-- LG_RUN_START (R379, R386): a queued run starts at CLAIMS 0, or ends as its command would have been refused. -/
def execLgRunStart (h : Fin 4) (parked : Bool) (s : State) : Out :=
  inRun s fun s =>
    let s := s.setPark h parked
    match (s.head h).lg with
    | none => s
    | some l =>
      if l.running ∨ !s.headLive h ∨ 0 < s.claims then s
      else match s.lgRefusal h with
        | some (c, n, d) =>
          let s := ((s.modHead h fun x => { x with lg := none }).setLg h 0).doneOpt l.owed (s.finNo c n d)
          (s.lgReason h).evalRa
        | none => s.lgBegin h l

/-- Twice the median of a chip's responses: the sum of the two in the middle. -/
def median2 (rs : List Int) : Int :=
  let t := rs.mergeSort
  t.getD (t.length / 2 - 1) 0 + t.getD (t.length / 2) 0

/-- The failed emitters among a chip's responses, in order (R382): RESP is the relative response in 1/256. -/
def State.judgeChip (s : State) (h chip : Nat) (rs : List Int) : List DeadEntry :=
  let m2 := median2 rs
  let below (r : Int) (pct : Nat) : Bool := decide (200 * r < pct * m2)
  (rs.zipIdx).filterMap fun (r, i) =>
    if below r (s.get (F.HEAD_LG_WEAK_PCT h)) then
      some { e := 128 * chip + i, dead := below r (s.get (F.HEAD_LG_DEAD_PCT h)),
             resp := (clampInt 0 255 (roundDiv (512 * r) m2.toNat)).toNat }
    else none

/-- A test line's response taken (R381, R382): the last emitter of a chip has its chip judged. LGATEn converts at 0.5 mV a
code, so that 40 mV is 80 codes. -/
def State.lgTake (s : State) (h : Nat) (l : LgRun) (r : Int) : State :=
  let rs := r :: l.resps
  let next : LgRun := { l with j := l.j + 1, again := false, resps := rs }
  let s := s.set (F.HEAD_LGSTAT_EMITTER h) (min 31743 (l.j + 1))
  if rs.length < 128 then s.modHead h fun x => { x with lg := some next }
  else
    let rs := rs.reverse
    if median2 rs < 160 then (s.lgAbort h "DARK").evalRa
    else s.modHead h fun x => { x with lg := some { next with resps := [], found := l.found ++ s.judgeChip h (l.j / 128) rs } }

/-- The REPORT of test line `j`, where one has come whole. -/
def testReport (j : Nat) (rep : Option (List Nat)) : Option Report :=
  match rep with
  | some cs => (reportOf cs).filter fun r => r.line == j % 65536
  | none => none

/-- LG_TEST_LINE (R380): a test line with its report, its frame and its two conversions. A report that is missing, fails its
CRC or does not find the one emitter lit has the line run once more; a second such report aborts the run. -/
def execLgTestLine (h : Fin 4) (dark lit : Nat) (rep : Option (List Nat)) (s : State) : Out :=
  inRun s fun s =>
    match (s.head h).lg with
    | none => s
    | some l =>
      if !l.running ∨ !s.headLive h ∨ emitters ≤ l.j then s
      else
        let s := (s.adopt (21 + h)).openBlank (17 + h)
        let r := testReport l.j rep
        let f := s.testFrame h (l.j % 65536) (r.map Report.lits)
        let s := s.modHead h fun x => x.send f.bytes
        let s := if rep.any fun cs => (upFrame cs).isNone then s.badFrame h else s
        let good := match r with | some r => r.lits.headD 0 == 1 | none => false
        let s := match r with | some r => s.judgeTemp h r.tseg l.j | none => s
        if !s.lgRunning h then s.evalRa
        else if good then s.lgTake h l ((lit : Int) - dark)
        else if l.again then (s.lgAbort h "PATTERN").evalRa
        else s.modHead h fun x => { x with lg := some { l with again := true } }

/-- The result of a run (R384): dead list, flags, limited raises, FAILS and ADJACENT. -/
def State.lgResult (s : State) (h : Nat) (found : List DeadEntry) : State :=
  let s := (s.modHead h fun x => { (x.putDead (found.take 64)) with deadSaved := [], lg := none }).setFails h
  let s := s.writeTrims h (s.raisedChips h)
  let limited := ((raisedBy (s.head h).dead).filter fun e => 63 < s.raisedAt h e).length
  let s := s.set (F.HEAD_CNT2_TRIM_LIM h) (satNat 255 (s.get (F.HEAD_CNT2_TRIM_LIM h) + limited))
  s.setFlag (F.HEAD_LGSTAT_ADJACENT h) (found.any fun d => found.any fun x => x.e == d.e + 1)

/-- LG_RUN_DONE (R384): the dead list and the trims are written, and the result is judged. Where it is unfit for both
reasons the event carries MAX. -/
def execLgRunDone (h : Fin 4) (s : State) : Out :=
  inRun s fun s =>
    match (s.head h).lg with
    | none => s
    | some l =>
      if !l.running ∨ !s.headLive h ∨ l.j < emitters then s
      else
        let s := ((s.lgResult h l.found).setLg h 3)
        let n := (s.head h).dead.length
        let s := s.raiseDose h "LG_DONE" ("FAILS=" ++ dec n) (some n)
        let s :=
          if s.get (F.HEAD_LG_DEAD_MAX h) < l.found.length then s.raiseDose h "LG_UNFIT" "REASON=MAX" none
          else if s.flag (F.HEAD_LGSTAT_ADJACENT h) then s.raiseDose h "LG_UNFIT" "REASON=ADJACENT" none
          else s.clear (52 + h) "LG_UNFIT"
        (((s.doneOpt l.owed .ok).lgReason h).sideNext h).evalRa

end Sys2Proof.Machine
end

