-- ==== Sys2Proof/Machine/GrantOps.lean ====
section
/-! DEFINITION. One grant of the collector's arbiter (14_faults_junction): the choice among simultaneous causes (R397), the
record (R398), FLT_N (R408), and the actions of DANGER (R403) and BUFFER-STOP (R404). -/

namespace Sys2Proof.Machine

/-! ### The choice (R397, R399, R502) -/

/-- The causes that are simultaneous now: those held before RUN, else those that came before the previous grant, else
all. -/
def State.simultaneous (s : State) : List Cause :=
  let cs := s.flt.causes
  let held := cs.filter fun c => c.epoch == 0
  let old := cs.filter fun c => c.epoch ≤ s.flt.grants
  if !held.isEmpty then held else if !old.isEmpty then old else cs

/-- `a` is granted before `b`, which came first: by class, source and cause number. -/
def State.before (s : State) (a b : Cause) : Bool :=
  let x := s.effClass a
  let y := s.effClass b
  decide (y < x ∨ (x = y ∧ (a.src < b.src ∨ (a.src = b.src ∧ a.no < b.no))))

/-- The cause granted next. -/
def State.nextCause (s : State) : Option Cause :=
  match s.simultaneous with
  | [] => none
  | c :: cs => some (cs.foldl (fun b a => if s.before a b then a else b) c)

/-! ### The record (R398) -/

/-- A grant stamped into its source, FAULT_FIRST and FAULT_LAST. -/
def State.record (s : State) (c : Cause) (cls : Nat) : State :=
  let s := s.setLatched c.src true
  let s := s.modSrc c.src fun r =>
    { count := satNat 255 (r.count + 1), first := if r.count = 0 then c.no else r.first, last := c.no, lclass := cls, tick := s.stamp }
  let s :=
    if 1 ≤ cls ∧ !s.flag F.FAULT_FIRST_VALID then
      ((((s.set F.FAULT_FIRST_SRC c.src).setFlag F.FAULT_FIRST_VALID true).set F.FAULT_FIRST_CAUSE c.no).set F.FAULT_FIRST_CLASS cls).set
        F.FAULT_FIRST_T_TICK s.stamp
    else s
  (((s.set F.FAULT_LAST_SRC c.src).set F.FAULT_LAST_CAUSE c.no).set F.FAULT_LAST_CLASS cls).set F.FAULT_LAST_T_TICK s.stamp

/-- The log record of a grant; a first numeric field whose recorded unit the spec does not give is a free value. -/
def State.logRec (s : State) (c : Cause) (cls : Nat) : LogRec × State :=
  let (n, s) := match c.num with
    | some n => (n, s)
    | none => let (w, s) := s.draw; (w.toNat, s)
  let byte (k : Nat) : Byte := BitVec.ofNat 8 k
  ({ typ := 1, src := c.src, tick := s.stamp, cls := cls,
     payload := [byte c.no, byte cls, byte (n / 16777216), byte (n / 65536), byte (n / 256), byte n] }, s)

/-- The record queued where the cause is logged (R396, R401, R405). -/
def State.logGrant (s : State) (c : Cause) (cls : Nat) : State :=
  if c.kind ≠ .unlogged ∧ (1 ≤ cls ∨ c.kind = .logOnly ∨ s.flag (F.ROUTE_LOG c.src)) then
    let (r, s) := s.logRec c cls
    s.pushLog r
  else s

/-- FLT_N asserted by a qualifying grant (R401, R408). -/
def State.fltAssert (s : State) (c : Cause) (cls : Nat) : State :=
  if c.kind ≠ .logOnly ∧ (1 ≤ cls ∨ s.flag (F.ROUTE_FLT c.src)) then
    { s with flt := { s.flt with fltMin := true, fltHeld := true, fltRel := false } }
  else s

/-! ### DANGER (R403) -/

/-- A timetable that holds for TT4 ends where TT4 cannot start. -/
def State.endHeld (s : State) : State :=
  match s.tt.run with
  | some r => if r.wait = .held then s.ttEnd else s
  | none => s

/-- A rail and every rail that depends on it taken down at once, its dependents shed by it (R215, R403). -/
def State.takeBoth (s : State) (r : Nat) : State :=
  let deps := s.dependents r
  let s := (s.takeOne r).shedBits deps "SHED" none ("RAIL=" ++ railName r)
  deps.foldl State.takeOne s

/-- A DANGER grant: the affected rails and their dependents taken down, TT4 started; where TT4 cannot start every enabled
rail is taken down, with NOTT4. -/
def State.danger (s : State) (e : Nat) : State :=
  let s := ((bitsSet (s.get (F.ROUTE_AFFECT e)) 6).filter s.part.hasRail).foldl State.takeBoth s
  if s.tt4Ok then (s.ttRequest 4 .fault).rodCheck
  else
    let s := (s.part.railList.filter s.enabled).foldl State.takeBoth s
    let s := if s.failed 2 then s.ttRequest 4 .fault else s
    (s.raise 62 "NOTT4").endHeld.rodCheck

/-! ### BUFFER-STOP (R404, R412) -/

/-- The record of a BUFFER-STOP grant, ahead of every queued record. -/
def State.logFront (s : State) (c : Cause) (cls : Nat) : State :=
  let (r, s) := s.logRec c cls
  if s.failed 9 then s.logDropped
  else
    let q := s.flt.logQ
    let (q, s) := if q.length < 32 then (q, s) else ((dropNewestNotice q).getD q.dropLast, s.logDropped)
    { s with flt := { s.flt with logQ := r :: q } }

/-- Everything that BUFFER-STOP stops; VCORE goes to 0.90 V (R66), at once in the model (assumption 20). -/
def State.enterBufferStop (s : State) : State :=
  let s := { s with dev := .bufferStop }.cutTest 3
  let s := ({ s with core := { s.core with stby := false, lowAt := none } }.setVcore 900).setFlag F.SYS_VCORE_GOOD true
  let s := (List.range s.part.phases).foldl State.triPhase s
  let s := (s.setMode 0).relayRequest { set := false, why := .bufferStop }
  let s := (s.set F.GAUGE_RA_CLAIMS 0).setFlag F.GAUGE_RA_RIGHTAWAY false
  let s := (List.range s.part.heads).foldl (fun s h => s.modHead h fun x => { x with fixed := [], cur := none, go := .low }) s
  let s := s.ttAbandon "STOP"
  { s.set F.SIG_STAT_BY 0 with tt := { s.tt with sigPulseAt := none } }

/-! ### A grant -/

/-- One cause granted. In BUFFER-STOP a grant is latched and counted only. -/
def State.grant (s : State) (c : Cause) : State :=
  let s := { s with flt := { s.flt with causes := s.flt.causes.erase c, grants := s.flt.grants + 1 } }
  let cls := s.effClass c
  let s := s.record c cls
  if s.dev = .bufferStop then s
  else
    let s := s.fltAssert c cls
    if cls = 3 then ((s.logFront c 3).enterBufferStop).startJob
    else
      let s := if cls = 2 then s.danger c.src else s
      ((s.routeOrWait { c with cls := clsOf cls }).logGrant c cls).startJob

end Sys2Proof.Machine
end

