-- ==== Sys2Proof/Machine/Junction.lean ====
section
/-! DEFINITION. The commands of the collector, of FLT_N and the EVT pins, and of the signal line (14_faults_junction). -/

namespace Sys2Proof.Machine

/-- CAUSE_GRANT (R397, R398). -/
def execCauseGrant (s : State) : Out :=
  anyDev s fun s =>
    match s.nextCause with
    | some c => s.grant c
    | none => s

/-- FLT_MIN_EXPIRY (R408): a RELEASE written while MIN ran takes effect now. -/
def execFltMinExpiry (s : State) : Out :=
  anyDev s fun s =>
    { s with flt := { s.flt with fltMin := false, fltHeld := s.flt.fltHeld && !s.flt.fltRel, fltRel := false } }

/-- RELEASE written 1 (R408): it acts under LATCH, once MIN has run. -/
def State.fltRelease (s : State) : State :=
  if s.get F.FLT_CTRL_MODE ≠ 1 then s
  else if s.flt.fltMin then { s with flt := { s.flt with fltRel := true } }
  else { s with flt := { s.flt with fltHeld := false } }

/-- FLT_RELEASE_WRITE (R408). -/
def execFltReleaseWrite (s : State) : Out := inRun s State.fltRelease

/-- FAULT_LATCH_CLEAR (R400): a 1 written to the source's LATCHED bit; that of an absent source is ignored (R473). -/
def execFaultLatchClear (e : Fin 64) (s : State) : Out := inRun s fun s => if sourceAbsent s.part e then s else s.clearSource e

/-- EVT_PULSE_END (R406). -/
def execEvtPulseEnd (m : Fin 4) (s : State) : Out :=
  anyDev s fun s => { s with flt := { s.flt with evtPulse := maskMinus s.flt.evtPulse (2 ^ m.val) } }

/-- SIGNAL_FALL (R206, R230, R411): a fall is recognised in RUN, while the device does not pull. -/
def execSignalFall (s : State) : Out :=
  anyDev s fun s =>
    let s := { s with flt := { s.flt with sigHigh := false } }
    if s.dev ≠ .run ∨ s.sigPull then s
    else
      let s := { s with flt := { s.flt with sigFallen := true, stuckAt := some (s.ticks + 2 ^ s.get F.SIG_CTRL_STUCK_K) } }
      ((s.bump F.SIG_STAT_FALLS).raise 59 "FALL").ttRequest 4 .signal

/-- SIGNAL_STUCK_LOW (R411). -/
def execSignalStuckLow (s : State) : Out :=
  inRun s fun s =>
    match s.flt.stuckAt with
    | some t =>
      let s := { s.reach t with flt := { s.flt with stuckAt := none } }
      (s.setFlag F.SIG_STAT_STUCK true).raise 59 "STUCK_LOW"
    | none => s

/-- SIGNAL_RISE (R411): the line goes high; RELEASED ends a fall. -/
def execSignalRise (s : State) : Out :=
  anyDev s fun s =>
    let was := s.flt.sigFallen
    let s := { s with flt := { s.flt with sigHigh := true, sigFallen := false, stuckAt := none } }
    let s := ((s.setFlag F.SIG_STAT_STUCK false).clear 59 "FALL").clear 59 "STUCK_LOW"
    if was ∧ s.dev = .run then s.raise 59 "RELEASED" else s

end Sys2Proof.Machine
end

