-- ==== Sys2Proof/Machine/Lines.lean ====
section
/-! DEFINITION. The commands of line timing (12_line_timing): the encoder, the pulses of a line, reports and frames, and the
verbs ENC, REG and STROBE. -/

namespace Sys2Proof.Machine

/-! ### The encoder (R333 to R337) -/

/-- An illegal transition: the fourth within 32 ticks sets ENC_FAULT (R333). -/
def State.encIllegal (s : State) (h : Nat) : State :=
  let at_ := (s.ticks :: (s.head h).illAt.filter fun t => s.ticks ≤ t + 32).take 4
  let s := (s.bump (F.LINE_STAT_ILLEGAL h)).modHead h fun x => { x with illAt := at_ }
  if at_.length < 4 ∨ s.flag (F.LINE_STAT_ENC_FAULT h) then s
  else ((s.setFlag (F.LINE_STAT_ENC_FAULT h) true).raiseLine h "ENC_FAULT" "").evalRa

/-- ENC_COUNT (R333): one count, its sense inverted by DIR. -/
def execEncCount (h : Fin 4) (mv : EncMove) (t : Nat) (s : State) : Out :=
  inRun s fun s =>
    if !s.headLive h ∨ !s.aon.vioOk then s
    else match mv, s.flag (F.LINE_CTRL_DIR h) with
    | .illegal, _ => s.encIllegal h
    | .forward, false | .backward, true => s.countUp h t
    | .backward, false | .forward, true => s.countDown h t

/-- ENC_INDEX (R333): the position at the index. -/
def execEncIndex (h : Fin 4) (s : State) : Out :=
  inRun s fun s =>
    if s.headLive h ∧ s.aon.vioOk then s.set (F.LINE_ZPOS_ZPOS h) (s.get (F.LINE_POS_POS h)) else s

/-! ### Pulses (R339) -/

/-- A line taken out of the pulses to come. -/
def State.noLine (s : State) (h k : Nat) : State :=
  s.modHead h fun x => { x with fixed := x.fixed.filter (·.line != k), next := if x.next.1 = k then (k + 1, 0) else x.next }

/-- A line dropped (R339). -/
def State.dropLine (s : State) (h k : Nat) : State :=
  ((s.noLine h k).bump (F.LINE_CNT_DROPPED h)).modHead h fun x => { x with clean := 0 }

/-- The strobe of group `g` begins at rod time `t` (R288, R332): the rail's base current is no longer that of the time before. -/
def State.strobeBegins (s : State) (h g t : Nat) : State :=
  (s.modHead h fun x => { x with strobeEnd := max x.strobeEnd (t + x.curStrobe.getD g 0) }).modRail h fun x => { x with baseSet := 0 }

/-- The line placed, its pulses later by `delay` taps (R329, R339). -/
def State.placeLine (s : State) (h k t delay : Nat) : State :=
  let miss := !(s.head h).accepted.contains (k % 65536)
  let s := (s.set (F.LINE_LINE_LINE h) k).modHead h fun x => { x with
    fixed := (x.fixed.filter fun p => !(p.line == k && p.group == 0)).map fun p => if p.line = k then { p with t := p.t + delay } else p,
    cur := some (k, delay), lastGo := some t, go := .group0, curStrobe := x.sentStrobe,
    clean := (if delay = 0 then satNat 1024 (x.clean + 1) else 0), missRun := (if miss then x.missRun + 1 else 0) }
  let s := (((s.strobeBegins h 0 t).adopt (17 + h)).openBlank (17 + h)).railLine h
  let s := if 1024 ≤ (s.head h).clean then s.clear (48 + h) "OVERSPEED" else s
  if 4 ≤ (s.head h).missRun then s.linkLost h "REPORTS" else s

/-- The frame of line `k` has been committed at least 2.0 µs before a rising edge (R343). -/
def HeadX.committedFor (x : HeadX) (k edge : Nat) : Bool :=
  match x.committed with | some (n, t) => n == k && decide (t + tapsOf 2000 ≤ edge) | none => false

/-- LINE_GO_RISE (R339): the line starts, is delayed whole, is dropped, or is inhibited. -/
def execLineGoRise (h : Fin 4) (t : Nat) (s : State) : Out :=
  inRun s fun s =>
    match (s.head h).fixed.find? (·.group == 0) with
    | none => s
    | some p =>
      let s := s.resumeCheck h
      let x := s.head h
      let due := match x.lastGo with | some g => max p.t (g + lineMin) | none => p.t
      let delay := due - p.t
      if !s.headLive h ∨ s.link h ≠ 3 then s.dropLine h p.line
      else if s.flag (F.HEAD_STATUS_STOPPED h) then ((s.noLine h p.line).bump (F.LINE_CNT_INHIBITED h)).evalRa
      else if (s.lPred h).getD 0 < 8 * delay then (s.dropLine h p.line).raiseLine h "OVERSPEED" ("LINE=" ++ dec p.line) (some p.line)
      else if !x.committedFor p.line due then s.dropLine h p.line
      else (s.placeLine h p.line (max t due) delay).evalRa

/-- GROUP_PULSE_RISE (R339): the next pulse of the line in progress; none is given once the link is lost (R329). -/
def execGroupPulseRise (h : Fin 4) (s : State) : Out :=
  inRun s fun s =>
    match (s.head h).cur with
    | none => s
    | some (k, _) =>
      match (s.head h).fixed with
      | p :: rest =>
        if p.line = k ∧ s.headLive h ∧ s.link h = 3 then
          ((s.modHead h fun x => { x with fixed := rest, go := .later }).strobeBegins h p.group p.t).openBlank (17 + h)
        else s
      | [] => s

/-- PULSE_FALL (R339): the pair is low again; after the last pulse of the line no timed edge is outstanding (R78). -/
def execPulseFall (h : Fin 4) (s : State) : Out :=
  anyDev s fun s =>
    let s := s.modHead h fun x => { x with go := .low }
    match (s.head h).cur with
    | some (k, _) =>
      if (s.head h).fixed.any (·.line == k) ∨ (s.head h).next.1 = k then s
      else (s.modHead h fun x => { x with cur := none }).adopt (17 + h)
    | none => s

/-! ### Reports (R342) -/

/-- A report discarded. -/
def State.reportMiss (s : State) (h : Nat) : State := s.bump (F.LINE_CNT_REPORT_MISS h)

/-- The report is the one expected for line `n`, in time (R342). -/
def State.reportOk (s : State) (h n : Nat) (rep : Report) (t : Nat) : Bool :=
  let x := s.head h
  let done := x.accepted.contains (n % 65536)
  let inTime := match x.lastGo with
    | some g => !(s.get (F.LINE_LINE_LINE h) % 65536 == (n + 65535) % 65536) || decide (t + tapsOf 30000 ≤ g + (s.lPred h).getD 0)
    | none => true
  rep.line % 65536 == n % 65536 && !done && inTime

/-- FRAME_BAD and ECHO_MISMATCH of a report (R329, R349): the line missed is the one whose frame the head judged. -/
def State.frameJudge (s : State) (h : Nat) (rep : Report) : State :=
  if !rep.frameBad && !rep.echoMismatch then s.modHead h fun x => { x with badRun := 0 }
  else
    let k := (rep.line + 65535) % 65536
    let s := (s.bump (F.LINE_LSTAT_FRAME_BAD h)).modHead h fun x => { x with badRun := x.badRun + 1 }
    s.raiseLine h "LINE_MISSED" ("LINE=" ++ dec k ++ " REASON=" ++ (if rep.frameBad then "FRAME_BAD" else "ECHO_MISMATCH")) (some k)

/-- A report accepted for line `n` (R288, R342, R364, R375). -/
def State.acceptReport (s : State) (h n : Nat) (rep : Report) : State :=
  let s := (s.modHead h fun x => { x with accepted := (n % 65536 :: x.accepted).take 4 }).frameJudge h rep
  let s := s.sideReply h rep.side
  let s := if s.works (railBp h) then s.railReport h rep else s
  let s := (s.computeWidths h n (some rep)).judgeTemp h rep.tseg n
  (if 8 ≤ (s.head h).badRun then s.linkLost h "FRAMES" else s).evalRa

/-- A REPORT that has come whole (R342): accepted, or discarded. During a light-gate run it only gives the temperature. -/
def State.takeReport (s : State) (h : Nat) (rep : Report) (t : Nat) : State :=
  if s.lgRunning h then (s.judgeTemp h rep.tseg rep.line).evalRa
  else match (s.head h).expected with
  | some n => if s.link h = 3 ∧ s.lineEn h ∧ s.reportOk h n rep t then s.acceptReport h n rep else s.reportMiss h
  | none => s.reportMiss h

/-- REPORT_RECEIVED (R342): accepted, or discarded and counted; a frame that is no good counts in CRC_UP too (R322, R350). One
of another type is no REPORT and does nothing here. -/
def execReportReceived (h : Fin 4) (chars : List Nat) (t : Nat) (s : State) : Out :=
  inRun s fun s =>
    if !s.headLive h then s
    else match upFrame chars with
    | none => (s.badFrame h).reportMiss h
    | some (.report rep) => s.takeReport h rep t
    | some _ => s

/-- REPORT_DUE (R342): no report by DUE; rail and dose fall back together (R24). -/
def execReportDue (h : Fin 4) (s : State) : Out :=
  inRun s fun s =>
    let n := (s.head h).dueLine
    if s.headLive h ∧ s.framesRun h ∧ !(s.head h).ready n then ((s.railMissed h).computeWidths h n none).evalRa else s

/-! ### Frames (R343, R344) -/

/-- A frame on the lanes, its last character and a commit margin: 20.1 µs and 2.0 µs (R324, R343). -/
def frameLead : Nat := tapsOf 22100

/-- A frame of line `n` begun at rod time `t` could not be committed 2.0 µs before its LINE_GO, where that is fixed (R343). -/
def HeadX.tooLate (x : HeadX) (n t : Nat) : Bool := x.edges.any fun e => e.1 == n && decide (e.2 < t + frameLead)

/-- The LINE frame of a line's widths on the lanes, with the sideband request that waits (R324, R326). -/
def State.sendWidths (s : State) (h : Nat) (w : Widths) : State :=
  let s := s.sideNext h
  let side := match (s.head h).side with | some r => r.word | none => 0
  let f := s.widthFrame h w side
  let t := s.strobes h w
  (s.modHead h fun x => { x.send f.bytes with
    frame := some (w.line, false), sentStrobe := t, side := x.side.map fun r => { r with out := true } }).setFlag
    (F.HEAD_STATUS_FALLBACK h) w.fb

/-- FRAME_SEND_START (R343, R344): nothing where the frame of the next line has been sent; a NUMBER_ONLY frame where the
numbering has a gap; else the frame of the next line when its widths are ready and it can still be committed in time. -/
def execFrameSendStart (h : Fin 4) (t : Nat) (s : State) : Out :=
  inRun s fun s =>
    let x := s.head h
    let n := x.nextLine
    if !s.headLive h ∨ !s.framesRun h ∨ x.frame.isSome ∨ x.sent = some (n % 65536) then s
    else
      let below := (n + 65535) % 65536
      if x.sent ≠ some below then
        let f := s.numberFrame h below (s.get (F.LINE_CTRL_NGRP h))
        s.modHead h fun x => { x.send f.bytes with frame := some (below, true) }
      else match x.widths with
      | some w => if w.line = n ∧ !x.tooLate n t then s.sendWidths h w else s
      | none => s

/-- FRAME_COMMITTED (R343): the frame has left the device. -/
def execFrameCommitted (h : Fin 4) (t : Nat) (s : State) : Out :=
  inRun s fun s =>
    match (s.head h).frame with
    | some (k, number) =>
      if !s.headLive h ∨ s.link h ≠ 3 then s
      else s.modHead h fun x => { x with
        frame := none, sent := some (k % 65536), committed := if number then x.committed else some (k, t) }
    | none => s

/-! ### ENC (R352) -/

/-- What a write of LINEn_CTRL starts: EN written 1, EN from 1 to 0, and training where AUTO_TRAIN finds a DOWN link with upstream
lock (R327). -/
def State.lineCtrlDone (s t : State) (h : Nat) (en : Option Bool) : State :=
  let t := match en with
    | some true => t.enOn h
    | some false => if s.lineEn h then t.enOff h else t
    | none => t
  if t.link h = 0 ∧ t.flag (F.LINE_LSTAT_LOCKUP h) ∧ t.flag (F.LINE_CTRL_AUTO_TRAIN h) ∧ t.headLive h then t.train h else t

/-- The settings ENC reports. -/
def State.encFields (s : State) (h : Nat) : String :=
  headName h ++ " " ++ fieldsOut
    [("EN", onOut (s.lineEn h)), ("CPL", dec (s.get (F.LINE_CTRL_CPL h))),
     ("DIR", if s.flag (F.LINE_CTRL_DIR h) then "REVERSED" else "NORMAL"), ("BACKLASH", dec (s.get (F.LINE_CTRL_BACKLASH h)))]

/-- The arguments of ENC. -/
def encKinds : List (String × Kind) :=
  [("EN", .switch), ("CPL", .num 8 64), ("DIR", .enum ["NORMAL", "REVERSED"]), ("BACKLASH", .num 0 15)]

/-- The settings of the encoder with the arguments given (R352). -/
def State.encStored (s : State) (h : Nat) (a : Args) : State :=
  let t := ((s.setArg (F.LINE_CTRL_CPL h) (a.nat "CPL")).setArg (F.LINE_CTRL_DIR h) (a.nat "DIR")).setArg
    (F.LINE_CTRL_BACKLASH h) (a.nat "BACKLASH")
  t.setArg (F.LINE_CTRL_EN h) (a.nat "EN")

/-- ENC_CMD (R352). -/
def execEncCmd (p : PortId) (l : Line) (s : State) : Out :=
  verbRow .enc false anyForm p l s fun s => do
    let h ← objHead s.part l
    let a ← parseArgs s.compat encKinds (restToks l)
    s.serves (headBp h)
    if s.lineEn h ∧ (a.has "CPL" ∨ a.has "DIR") then throw (.state "RUNNING")
    let t := s.lineCtrlDone (s.encStored h a) h ((a.nat "EN").map (· == 1))
    pure (t, .ok (t.encFields h))

/-- A signed number. -/
def intText (v : Int) : String := intOut v 1

/-- ENC_QUERY (R352). -/
def execEncQuery (p : PortId) (l : Line) (s : State) : Out :=
  verbRow .enc true anyForm p l s fun s => do
    let h ← objHead s.part l
    noArgs (restToks l)
    s.serves (headBp h)
    pure (s, .ok (s.encFields h ++ " " ++ fieldsOut
      [("POS", intText (s.sget (F.LINE_POS_POS h))), ("HWM", intText (s.sget (F.LINE_HWM_HWM h))),
       ("ZPOS", intText (s.sget (F.LINE_ZPOS_ZPOS h))), ("LINE", dec (s.get (F.LINE_LINE_LINE h))),
       ("LPRED", siOut s.compat 0 "ns" 1 (s.get (F.LINE_TIME_LPRED h) * 4)), ("RUN", bitOut (s.lineRun h)),
       ("WAITHWM", bitOut (s.flag (F.LINE_STAT_WAIT_HWM h))), ("DROPPED", dec (s.get (F.LINE_CNT_DROPPED h))),
       ("INHIBITED", dec (s.get (F.LINE_CNT_INHIBITED h))), ("REPORTMISS", dec (s.get (F.LINE_CNT_REPORT_MISS h))),
       ("BACKLASHCNT", dec (s.get (F.LINE_CNT_BACKLASH_CNT h))), ("REVERSE", dec (s.get (F.LINE_STAT_REVERSE h))),
       ("ILLEGAL", dec (s.get (F.LINE_STAT_ILLEGAL h)))]))

/-! ### REG and STROBE (R353) -/

/-- The offset REG reports. -/
def State.regFields (s : State) (h : Nat) : String := headName h ++ " OFFSET=" ++ intText (s.sget (F.LINE_REG_REG h))

/-- REG_CMD (R338, R353). -/
def execRegCmd (p : PortId) (l : Line) (s : State) : Out :=
  verbRow .reg false anyForm p l s fun s => do
    let h ← objHead s.part l
    let a ← parseArgs s.compat [("OFFSET", .num (-32768) 32767)] (restToks l) (needs ["OFFSET"])
    s.serves (headBp h)
    let t := s.sset (F.LINE_REG_REG h) ((a.int "OFFSET").getD 0)
    if !s.changeOk t (.LINE_REG h) then throw (.state "RUNNING")
    let t := t.regMoved h
    pure (t, .ok (t.regFields h))

/-- REG_QUERY (R353). -/
def execRegQuery (p : PortId) (l : Line) (s : State) : Out :=
  verbRow .reg true anyForm p l s fun s => do
    let h ← objHead s.part l
    noArgs (restToks l)
    s.serves (headBp h)
    pure (s, .ok (s.regFields h))

/-- The groups STROBE reports. -/
def State.strobeFields (s : State) (h : Nat) : String :=
  headName h ++ " " ++ fieldsOut
    [("GROUPS", dec (s.groups h)), ("OFF1", dec (s.get (F.LINE_GROUP_GOFF1 h))), ("OFF2", dec (s.get (F.LINE_GROUP_GOFF2 h))),
     ("OFF3", dec (s.get (F.LINE_GROUP_GOFF3 h)))]

/-- The arguments of STROBE. -/
def strobeKinds : List (String × Kind) :=
  [("GROUPS", .enum ["1", "2", "4"]), ("OFF1", .num 0 255), ("OFF2", .num 0 255), ("OFF3", .num 0 255)]

/-- The groups of a head with the arguments given (R353). -/
def State.strobeStored (s : State) (h : Nat) (a : Args) : State :=
  let t := ((s.setArg (F.LINE_CTRL_NGRP h) (a.nat "GROUPS")).setArg (F.LINE_GROUP_GOFF1 h) (a.nat "OFF1")).setArg
    (F.LINE_GROUP_GOFF2 h) (a.nat "OFF2")
  t.setArg (F.LINE_GROUP_GOFF3 h) (a.nat "OFF3")

/-- STROBE_CMD (R340, R353). -/
def execStrobeCmd (p : PortId) (l : Line) (s : State) : Out :=
  verbRow .strobe false anyForm p l s fun s => do
    let h ← objHead s.part l
    let a ← parseArgs s.compat strobeKinds (restToks l)
    let t := s.strobeStored h a
    if !t.groupsOk h then throw (.range (((["OFF1", "OFF2", "OFF3", "GROUPS"].find? a.has)).getD ""))
    s.serves (headBp h)
    if s.lineEn h then throw (.state "RUNNING")
    pure (t, .ok (t.strobeFields h))

/-- STROBE_QUERY (R353). -/
def execStrobeQuery (p : PortId) (l : Line) (s : State) : Out :=
  verbRow .strobe true anyForm p l s fun s => do
    let h ← objHead s.part l
    noArgs (restToks l)
    s.serves (headBp h)
    pure (s, .ok (s.strobeFields h ++ " WMAX=" ++ siOut s.compat 0 "ns" 1 (s.get (F.LINE_TIME_WMAX h) * 4)))

end Sys2Proof.Machine
end

