-- ==== Sys2Proof/Machine/Ports.lean ====
section
/-! DEFINITION. The command ports (02_felten): bytes in, editing and echo, the terminator, bytes out, breaks, the SPI
frame, and the verbs PORT, SUB and UNSUB. -/

namespace Sys2Proof.Machine

/-! ### Settings of the configuration image (R46, R50, R451) -/

/-- BAUD values in the order of R51. -/
def bauds : List Nat := [115200, 230400, 460800, 921600, 1000000, 2000000, 3000000, 4000000, 6000000]

/-- A port's number in R451. -/
def portIdx : PortId → Nat
  | .host => 0
  | .service => 1
  | .spi => 2

/-- The port word at offset `k` of the loaded image, none where the image has none. -/
def State.portWord (s : State) (p : PortId) (k : Nat) : Option Word :=
  Tab.get (fun _ => none) s.store.image (0xFF00 + 16 * portIdx p + 4 * k)

/-- Mode, baud rate and flow control by the image (R50, R54). -/
def State.portDefault (s : State) (p : PortId) : PortSet :=
  match s.portWord p 0 with
  | some w => { strict := p == .spi || bitAt w.toNat 0, baud := bauds.getD (bitsOf w 4 4) 115200, flow := bitAt w.toNat 1 }
  | none => PortSet.init (p == .spi)

/-- Subscriptions by the image (R46). -/
def State.subsDefault (s : State) (p : PortId) : Subs :=
  let i := Subs.init (p == .spi)
  let lo := s.portWord p 1
  let hi := s.portWord p 2
  let mask := (match lo with | some w => w.toNat | none => 0) + (match hi with | some w => w.toNat * 2 ^ 32 | none => 0)
  match s.portWord p 3 with
  | some w => { mask := mask, clsEn := bitAt w.toNat 3, cls := bitsOf w 0 2, pull := bitAt w.toNat 2 }
  | none => { i with mask := mask }

/-- The ports as they enter RUN: settings and subscriptions of the image, nothing waiting, and a line still in progress
discarded up to its terminator (R11, R41, R46, R50). -/
def State.openPort (s : State) (p : PortId) : State :=
  let d := s.portDefault p
  let b := s.subsDefault p
  s.modPort p fun x => { set := d, subs := b, rts := true, cts := x.cts, cr := x.cr, skip := x.skip || !x.rx.isEmpty }

/-! ### Bytes in (R30 to R32, R49, R53) -/

/-- The line in progress emptied. -/
def PortX.clearLine (x : PortX) : PortX := { x with rx := [], extra := 0, bad := false, skip := false, overrun := false }

/-- Rows 2 and 3 of R35 for a line of text. Under COMPAT there is no check, and a line that holds `*` fails row 3 (R64). -/
def lineRows (compat strict : Bool) (bytes : List Byte) : Except (Nat × String) Parsed :=
  let cs := bytes.map fun b => Char.ofNat b.toNat
  if compat then parseRow compat cs
  else match checkRow strict cs with
  | .error e => .error e
  | .ok cs => parseRow compat cs

/-- The verb of a parsed line in a form it takes (R35 row 4, R63); CLAIM and DONE are no verbs under COMPAT (R64). A known verb
in a form that R63 does not list, such as CAPS as a command, fails this row too: the spec gives it no code, and the model
answers NO 14 VERB (DEDUCED, assumption 32). -/
def verbRow4 (compat : Bool) (x : Parsed) : Option Verb :=
  match verbEntry x.verb with
  | some (v, cmd, qry) =>
    if compat && (v == .claim || v == .done) then none else if (if x.query then qry else cmd) then some v else none
  | none => none

/-- A complete line judged by rows 1 to 4 of R35, then answered at once or put in the queue (R57, R60). -/
def State.acceptLine (s : State) (p : PortId) (x : PortX) : State :=
  let no (s : State) (c : Nat) (n : String) : State := s.reply p (noText s.compat c n "")
  if x.overrun then no s 23 "OVERRUN"
  else if x.skip then s
  else if 0 < x.extra then no s 11 "LONG"
  else if x.bad then no s 12 "CHARSET"
  else if x.rx.isEmpty then s
  else match lineRows s.compat (s.strict p) x.rx with
  | .error (c, n) => no s c n
  | .ok l =>
    if 8 ≤ (s.waiting p).length then s.reply p (ansText s.compat "" l.tag (retry s.queue.length))
    else match verbRow4 s.compat l with
    | none => s.reply p (noText s.compat 14 "VERB" l.verb ++ tagOut s.compat l.tag)
    | some v =>
      { s with queue := s.queue ++ [⟨p, { verb := v, query := l.query, prio := l.prio, toks := l.toks, tag := l.tag,
                                           len := x.rx.length }, s.grants⟩] }

/-- A terminator (R30): outside RUN, and while BP1 reports FAILED, the line is discarded without a reply (R11, R414). -/
def State.terminator (s : State) (p : PortId) : State :=
  let x := s.port p
  let s := s.modPort p PortX.clearLine
  if s.canSend then ((s.echo p crlf).acceptLine p x).rts p else s

/-- A character kept (R31), and echoed on a TYPED port (R49). -/
def State.keepChar (s : State) (p : PortId) (b : Byte) : State :=
  (s.modPort p fun x => if x.rx.length < 160 then { x with rx := x.rx ++ [b] } else { x with extra := x.extra + 1 }).echo p
    (textOf [b])

/-- The line in progress given up because a byte came while the buffer was full (R53). -/
def State.overrun (s : State) (p : PortId) : State :=
  (s.modPort p fun x => { x with rx := [], skip := true, overrun := true }).raise 58 "OVERRUN" ("PORT=" ++ portName p)

/-- BS or DEL on a TYPED port (R49). -/
def State.rubOut (s : State) (p : PortId) : State :=
  let x := s.port p
  let bs := String.ofList [Char.ofNat 8, ' ', Char.ofNat 8]
  if 0 < x.extra then (s.modPort p fun x => { x with extra := x.extra - 1 }).echo p bs
  else if x.rx.isEmpty then s
  else (s.modPort p fun x => { x with rx := x.rx.dropLast }).echo p bs

/-- One byte that arrives on a port (R30 to R32, R49, R53). A TAB is kept and echoed as the byte it is, so that a check covers
it as received (R39). Bytes that R32 forbids and those of a discarded line are not echoed: R49 does not say (DESIGN CHOICE,
assumption 31). -/
def State.byteIn (s : State) (p : PortId) (b : Byte) : State :=
  let n := b.toNat
  if n = 0 then s
  else if n = 10 ∧ (s.port p).cr then s.modPort p fun x => { x with cr := false }
  else
    let s := s.modPort p fun x => { x with cr := n == 13 }
    if n = 13 ∨ n = 10 then s.terminator p
    else if s.dev ≠ .run ∨ s.failed 1 then s.modPort p fun x => { x with skip := true }
    else if (s.port p).skip then s
    else if 256 ≤ s.held256 p then s.overrun p
    else if s.typed p ∧ (n = 8 ∨ n = 127) then (s.rubOut p).rts p
    else if s.typed p ∧ n = 21 then ((s.modPort p PortX.clearLine).echo p crlf).rts p
    else if n ≠ 9 ∧ (n < 32 ∨ 126 < n) then s.modPort p fun x => { x with bad := true }
    else (s.keepChar p b).rts p

/-- BYTE_RECEIVED (R49): a UART byte; while VIO is absent the UART inputs read idle (R482). -/
def execByteReceived (p : PortId) (b : Byte) (s : State) : Out :=
  anyDev s fun s => if p = .spi ∨ !s.aon.vioOk then s else s.byteIn p b

/-- LINE_TERMINATOR (R57): a CR arrives on a port. -/
def execLineTerminator (p : PortId) (s : State) : Out :=
  anyDev s fun s => if !s.aon.vioOk then s else (s.modPort p fun x => { x with cr := true }).terminator p

/-- UART_BREAK (R54): the port returns to the image's mode, baud rate and flow control, and a partial line is discarded. -/
def execUartBreak (p : PortId) (s : State) : Out :=
  anyDev s fun s =>
    if p = .spi ∨ !s.aon.vioOk ∨ s.dev ≠ .run then s
    else
      let d := s.portDefault p
      ((s.modPort p fun x => { x.clearLine with set := d }).rts p).raise 58 "BREAK" ("PORT=" ++ portName p)

/-- CTS_CHANGE (R52): the level that gates transmission on HOST. -/
def execCtsChange (asserted : Bool) (s : State) : Out :=
  anyDev s fun s => if !s.aon.vioOk then s else { s with host := { s.host with cts := asserted } }

/-! ### Bytes out (R47, R50, R52, R55) -/

/-- The items of an output sequence after the first line in it, with that line. -/
def popLine : List OutItem → Option (OutItem × List OutItem)
  | [] => none
  | i :: is => if i.kind = .echo then popLine is else some (i, is)

/-- The first line of a port's output leaves it; a pending mode or baud rate takes effect (R50). -/
def State.sendLine (s : State) (p : PortId) : State :=
  match popLine (s.port p).out with
  | none => s.modPort p fun x => { x with out := [] }
  | some (i, rest) =>
    let t := lineOut (s.strict p) i.text
    let s := s.modPort p fun x => { x with out := rest, clocked := 0, sent := t }
    match i.apply with
    | some (q, c) => s.portChange q c
    | none => s

/-- REPLY_SENT (R50): the last stop bit of a line leaves the port. With RTSCTS and CTS deasserted no character starts
(R52). -/
def execReplySent (p : PortId) (s : State) : Out :=
  inRun s fun s =>
    if !s.canSend ∨ (p = .host ∧ s.host.set.flow ∧ !s.host.cts) then s else s.sendLine p

/-- NOTIFY_QUEUE_SPACE (R48): the count of dropped notifications is sent. -/
def execNotifyQueueSpace (p : PortId) (s : State) : Out := inRun s fun s => s.flushLost p

/-- The bytes of a text line with CR LF. -/
def lineBytes (t : String) : List Byte := (t.toList.map fun c => BitVec.ofNat 8 c.toNat) ++ [0x0D#8, 0x0A#8]

/-- Every output byte waiting on SPI (R55). -/
def State.spiBytes (s : State) : List Byte :=
  ((s.spi.out.map fun i => lineBytes (lineOut (s.strict .spi) i.text)).flatten).drop s.spi.clocked

/-- `n` output bytes clocked out on MISO: lines wholly clocked leave the port. -/
def State.clockOut : Nat → Nat → State → State
  | 0, _, s => s
  | fuel + 1, n, s =>
    match s.spi.out with
    | [] => s
    | i :: _ =>
      let left := (lineBytes (lineOut (s.strict .spi) i.text)).length - s.spi.clocked
      if left ≤ n then State.clockOut fuel (n - left) (s.sendLine .spi)
      else { s with spi := { s.spi with clocked := s.spi.clocked + n } }

/-- SPI_FRAME (R55): MISO carries the count of bytes waiting at CS_N fall, then those bytes, then 0x00; MOSI carries line
text. While VIO is absent there are no edges (R482). -/
def execSpiFrame (mosi : List Byte) (s : State) : Out :=
  anyDev s fun s =>
    if !s.aon.vioOk then s
    else
      let out := if s.canSend then s.spiBytes else []
      let n := mosi.length - 1
      let first : Byte := BitVec.ofNat 8 (min out.length 255)
      let rest := out.take n
      let miso := if mosi.isEmpty then [] else first :: (rest ++ List.replicate (n - rest.length) 0x00#8)
      let s := { s with spi := { s.spi with miso := miso } }
      let s := if s.canSend then State.clockOut (s.spi.out.length) rest.length s else s
      mosi.foldl (fun s b => s.byteIn .spi b) s

/-! ### PORT (R50 to R53) -/

/-- The fields PORT and PORT? report. SPI has no baud rate and reports BAUD=NONE (DESIGN CHOICE, assumption 33). -/
def portFields (compat : Bool) (p : PortId) (d : PortSet) : String :=
  portName p ++ " " ++ fieldsOut
    [("MODE", if d.strict && !compat then "STRICT" else "TYPED"), ("BAUD", if p = .spi then "NONE" else dec d.baud),
     ("FLOW", if d.flow then "RTSCTS" else "NONE")]

/-- The port a PORT line names, its own without an object (R50). -/
def portObj (p : PortId) (l : Line) : Except Ans (PortId × List String) :=
  match l.toks with
  | t :: ts =>
    match ["HOST", "SERVICE", "SPI"].findIdx? (· == t) with
    | some 0 => .ok (.host, ts)
    | some 1 => .ok (.service, ts)
    | some _ => .ok (.spi, ts)
    | none => if (cutEq t.toList).isSome then .ok (p, t :: ts) else .error (.object t)
  | [] => .ok (p, [])

/-- The arguments of PORT. -/
def portKinds : List (String × Kind) :=
  [("MODE", .enum ["TYPED", "STRICT"]), ("BAUD", .num 0 100000000), ("FLOW", .enum ["NONE", "RTSCTS"])]

/-- The settings of a port once the changes that wait in the output sequences have taken effect (R50). -/
def State.portNext (s : State) (q : PortId) : PortSet :=
  ((s.host.out ++ s.service.out ++ s.spi.out).filterMap fun i => i.apply).foldl
    (fun d x => if x.1 = q then d.after x.2 else d) (s.port q).set

/-- PORT_CMD (R50): settings that take effect when the reply has been sent. BAUD, and FLOW=RTSCTS, of the SPI port are answered
NO 17 RANGE, as R51 and R52 answer them of a port that lacks them (DESIGN CHOICE, assumption 33). -/
def execPortCmd (p : PortId) (l : Line) (s : State) : Out :=
  verbRow .port false anyForm p l s fun s => do
    let (q, ts) ← portObj p l
    let a ← parseArgs s.compat portKinds ts
    match a.nat "BAUD" with
    | some b => if (q = .host ∧ b ∈ bauds) ∨ (q = .service ∧ b = 115200) then pure () else throw (.range "BAUD")
    | none => pure ()
    if a.nat "FLOW" = some 1 ∧ q ≠ .host then throw (.range "FLOW")
    if a.nat "MODE" = some 0 ∧ q = .spi ∧ !s.compat then throw (.state "MODE")
    if a.nat "MODE" = some 1 ∧ s.compat then throw (.state "MODE")
    let c : PortChange :=
      { strict := if s.compat then none else (a.nat "MODE").map (· == 1)
        baud := a.nat "BAUD"
        flow := (a.nat "FLOW").map (· == 1) }
    pure (s, .port (portFields s.compat q ((s.portNext q).after c)) q c)

/-- PORT_QUERY (R50). -/
def execPortQuery (p : PortId) (l : Line) (s : State) : Out :=
  verbRow .port true anyForm p l s fun s => do
    let (q, ts) ← portObj p l
    noArgs ts
    pure (s, .ok (portFields s.compat q (s.port q).set))

/-! ### SUB and UNSUB (R46) -/

/-- A selection of events. -/
inductive Sel where
  | mask (m : Nat)
  | cls (c : Nat)
deriving DecidableEq, Repr

/-- A source by number, by EVn or by name. -/
def readSource (t : String) : Option Nat :=
  match parseNat t with
  | some n => if n < 64 then some n else none
  | none =>
    match readUnit "EV" 64 t with
    | some n => some n
    | none => (List.range 64).find? fun e => srcName e == t && !(13 ≤ e && e ≤ 15)

/-- A token cut at its first minus sign. -/
def cutDash : List Char → Option (List Char × List Char)
  | [] => none
  | c :: cs => if c = '-' then some ([], cs) else (cutDash cs).map fun x => (c :: x.1, x.2)

/-- One selection of SUB EV: a class and up, a range, or a source. -/
def readSel (t : String) : Option Sel :=
  match t.toList.reverse with
  | '+' :: r => (["NOTICE", "CAUTION", "DANGER", "BUFFERSTOP"].findIdx? (· == String.ofList r.reverse)).map Sel.cls
  | _ =>
    match readSource t with
    | some e => some (.mask (2 ^ e))
    | none =>
      match cutDash t.toList with
      | some (a, b) =>
        match readSource (String.ofList a), readSource (String.ofList b) with
        | some x, some y => if x ≤ y then some (.mask (2 ^ (y + 1) - 2 ^ x)) else none
        | _, _ => none
      | none => none

/-- One selection added or taken away. -/
def Subs.apply (on : Bool) (b : Subs) : Sel → Subs
  | .mask m => { b with mask := if on then Nat.lor b.mask m else maskMinus b.mask m }
  | .cls c => if on then { b with clsEn := true, cls := if b.clsEn then min b.cls c else c } else { b with clsEn := false }

/-- The runs of consecutive sources among rising ones, as (first, last). -/
def evRuns : List Nat → List (Nat × Nat)
  | [] => []
  | e :: es =>
    match evRuns es with
    | (a, b) :: rs => if a = e + 1 then (e, b) :: rs else (e, e) :: (a, b) :: rs
    | [] => [(e, e)]

/-- A run of sources as SUB? lists it: one source, or a range with its second number bare, so that the longest selection
fits the 240 characters of R40. -/
def runOut (r : Nat × Nat) : String := "EV" ++ dec r.1 ++ (if r.1 = r.2 then "" else "-" ++ dec r.2)

/-- The selection as SUB, UNSUB and SUB? report it: R46 gives the reply no fields, and these are the model's own (DESIGN
CHOICE, assumption 32). -/
def subFields (b : Subs) : String :=
  fieldsOut [("EV", listOut ((evRuns (bitsSet b.mask 64)).map runOut)),
    ("CLASS", if b.clsEn then clsName b.cls ++ "+" else "NONE"), ("PULL", onOut b.pull)]

/-- A selection token names a source that the part lacks (R4), alone or as a bound of a range. -/
def absentSel (p : Part) (t : String) : Bool :=
  let lacks (t : String) : Bool := match readSource t with | some e => sourceAbsent p e | none => false
  lacks t || (match cutDash t.toList with
    | some (a, b) => lacks (String.ofList a) || lacks (String.ofList b)
    | none => false)

/-- The subscription a SUB or UNSUB line leaves. SUB ALL selects what UNSUB ALL clears, every event and PULL: R63 lists ALL for
both verbs, R46 says only what UNSUB ALL does (DEDUCED, assumption 32). -/
def subLine (part : Part) (on : Bool) (b : Subs) (toks : List String) : Except Ans Subs :=
  match toks with
  | [] => .error (.object "")
  | "PULL" :: ts => (noArgs ts).map fun _ => { b with pull := on }
  | "ALL" :: ts => (noArgs ts).map fun _ => if on then { b with clsEn := true, cls := 0, pull := true } else {}
  | "EV" :: ts =>
    if ts.any (absentSel part) then .error .absent
    else if ts.isEmpty then .error (.arg "EV")
    else ts.foldlM (fun b t => match readSel t with | some x => .ok (b.apply on x) | none => .error (.range t)) b
  | t :: _ => .error (.object t)

/-- SUB_CMD (R46). -/
def execSubCmd (p : PortId) (l : Line) (s : State) : Out :=
  verbRow .sub false anyForm p l s fun s => do
    let b ← subLine s.part true (s.port p).subs l.toks
    pure (s.modPort p fun x => { x with subs := b }, .ok (subFields b))

/-- UNSUB_CMD (R46). -/
def execUnsubCmd (p : PortId) (l : Line) (s : State) : Out :=
  verbRow .unsub false anyForm p l s fun s => do
    let b ← subLine s.part false (s.port p).subs l.toks
    pure (s.modPort p fun x => { x with subs := b }, .ok (subFields b))

/-- SUB_QUERY (R46). -/
def execSubQuery (p : PortId) (l : Line) (s : State) : Out :=
  verbRow .sub true anyForm p l s fun s => do
    noArgs l.toks
    pure (s, .ok (subFields (s.port p).subs))

end Sys2Proof.Machine
end

