-- ==== Sys2Proof/Machine/Store.lean ====
section
/-! DEFINITION. The commands of the store's controller (16_nv_store): the end of a slot write, the token bucket, the scrub
of one slot, and the save of the configuration. -/

namespace Sys2Proof.Machine

/-! ### The end of a slot write (R441, R442, R446, R448, R459) -/

/-- The record in the slot just written is the newest. -/
def State.recWritten (s : State) (j : SlotJob) : State :=
  { s with store := { s.store with empty := false } }.set F.NV_LOG_NEWEST (beNat (j.bytes.take 2))

/-- A pass of the ring counted by its LAP record; WEAR at 90,000. -/
def State.lapWritten (s : State) (j : SlotJob) : State :=
  let n := beNat ((j.bytes.drop 10).take 4)
  let s := (s.recWritten j).set F.NV_LAPS_LAPS n
  if n = 90000 then s.raise 57 "WEAR" "REGION=LOG" else s

/-- TT_BEGIN stands, or is lost: the slots follow. -/
def State.commitBegun (s : State) : State :=
  { s with tt := { s.tt with commit := s.tt.commit.map fun c => { c with begun := true } } }

/-- One slot of a commit is behind; after the last the RAM copy takes the new area (R456). -/
def State.commitSlot (s : State) : State :=
  match s.tt.commit with
  | none => s
  | some c =>
    let s := { s with tt := { s.tt with commit := some { c with slot := c.slot + 1 } } }
    if c.stop ≤ c.slot + 1 then s.applyArea c.area else s

/-- The save ends: SAVE and SAVE_PEND clear, and its line is answered. -/
def State.saveEnd (s : State) (r : Fin_) : State :=
  match s.store.save with
  | none => s
  | some v =>
    let s := { s with store := { s.store with save := none } }
    ((s.setFlag F.NV_CTRL_SAVE false).setFlag F.NV_STAT_SAVE_PEND false).doneOpt v.owed r

/-- VALID0 or VALID1. -/
def State.setBankValid (s : State) (bank : Nat) (b : Bool) : State :=
  s.setFlag (if bank = 0 then F.NV_STAT_VALID0 else F.NV_STAT_VALID1) b

/-- The validity of a bank by its bytes (R450). -/
def State.judgeBank (s : State) (bank : Nat) : State := s.setBankValid bank (bankValid (s.bankBytes bank))

/-- The written bank becomes the one in use: SAVED, and WEAR at generation 180,000 (R452, R459). -/
def State.bankWritten (s : State) (v : SaveJob) : State :=
  let s := ((s.setBankValid v.bank true).set F.NV_STAT_BANK v.bank).set F.NV_GEN_GEN v.gen
  let s := { s with store := { s.store with bank := v.bytes, image := imageOf (bankImage v.bytes) } }
  let s := s.raise 57 "SAVED" ("GEN=" ++ dec v.gen) (some v.gen)
  (if v.gen = 180000 then s.raise 57 "WEAR" "REGION=CONFIG" else s).saveEnd .ok

/-- One slot of a save has been written. -/
def State.saveSlot (s : State) : State :=
  match s.store.save with
  | none => s
  | some v =>
    if v.next = 63 then s.bankWritten v
    else { s with store := { s.store with save := some { v with next := v.next + 1 } } }

/-- What follows from a slot written and verified. -/
def State.slotGood (s : State) (j : SlotJob) : State :=
  match j.why with
  | .log => s.recWritten j
  | .lap => s.lapWritten j
  | .ttBegin => (s.recWritten j).commitBegun
  | .ttEnd => (s.recWritten j).endCommit
  | .commit => s.commitSlot
  | .save => s.saveSlot
  | .scrub => s

/-- What follows from a slot that failed twice: a save ends refused; a commit goes on. -/
def State.slotBad (s : State) (j : SlotJob) : State :=
  match j.why with
  | .log | .lap | .scrub => s
  | .ttBegin => s.commitBegun
  | .ttEnd => s.endCommit
  | .commit => s.commitSlot
  | .save => s.saveEnd (s.finNo 22 "REFUSED" "WRITE")

/-- SLOT_WRITE_DONE (R441): a mismatch repeats the write once; the second raises WRITE_FAIL and loses the content. -/
def execSlotWriteDone (verifyOk : Bool) (s : State) : Out :=
  anyDev s fun s =>
    match s.store.job with
    | none => s
    | some j =>
      let t := s.setJob none
      if verifyOk then ((t.putSlot j.slot j.bytes).slotGood j).startJob
      else if !j.again then s.setJob (some { j with again := true })
      else (((t.loseSlot j.slot).raise 57 "WRITE_FAIL" ("SLOT=" ++ dec j.slot) (some j.slot)).slotBad j).startJob

/-- TOKEN_GAIN (R449). -/
def execTokenGain (s : State) : Out :=
  anyDev s fun s => if s.failed 9 then s else s.set F.NV_LOG2_TOKENS (satNat 256 (s.get F.NV_LOG2_TOKENS + 1))

/-! ### Scrub (R458) -/

/-- The slot rewritten by the controller, with SCRUB_FIX. -/
def State.scrubFix (s : State) (k : Nat) : State :=
  let s := { s with store := { s.store with refresh := s.store.refresh ++ [k] } }
  ((s.bump F.NV_SCRUB_FIXED).raise 57 "SCRUB_FIX" ("SLOT=" ++ dec k) (some k)).startJob

/-- A log slot no longer intact: free bytes whose CRC does not match. -/
def State.spoilRecord (s : State) (k : Nat) : State :=
  let (bs, s) := s.drawSlot
  let (d, s) := s.drawBelow 65535
  let b := bs.take 14
  s.putSlot k (b ++ beBytes 2 ((crc16 b + 1 + d) % 65536))

/-- The slot holds part of the bank in use. -/
def State.inBankInUse (s : State) (k : Nat) : Bool :=
  !s.store.bank.isEmpty && 128 ≤ k && k < 256 && (k - 128) / 64 == s.get F.NV_STAT_BANK

/-- What the scrub does with one slot: an erased log slot holds no record to judge. -/
def State.scrubSlot (s : State) (k : Nat) (normalOk marginOk : Bool) : State :=
  let bs := s.slot k
  if 256 ≤ k then
    if slotErased bs then s
    else if normalOk && slotIntact bs then (if marginOk then s else s.scrubFix k)
    else
      let s := if slotIntact bs then s.spoilRecord k else s
      (s.bump F.NV_SCRUB_LOST).raise 57 "SCRUB_LOSS" ("SLOT=" ++ dec k) (some k)
  else if normalOk then (if marginOk then s else s.scrubFix k)
  else if k < 128 || s.inBankInUse k then (s.loseSlot k).scrubFix k
  else (s.loseSlot k).judgeBank ((k - 128) / 64)

/-- NV_SCRUB_SLOT (R87, R458, R460): the next slot read; the last of 512 ends a pass. -/
def execNvScrubSlot (normalOk marginOk : Bool) (s : State) : Out :=
  freight s fun s =>
    if !s.flag F.NV_CTRL_SCRUB_EN ∨ !s.works 9 then s
    else
      let k := s.store.scrubAt
      let s := { s with store := { s.store with scrubAt := (k + 1) % 512 } }.scrubSlot k normalOk marginOk
      if k = 511 then (s.wrap F.NV_SCRUB_PASSES).jobDone 7 0 else s

/-! ### Saves (R450 to R452, R465) -/

/-- The port words of a port as they stand, with their addresses. -/
def State.portWords (s : State) (p : PortId) : List (Nat × Nat) :=
  let x := s.port p
  let a := 0xFF00 + 16 * portIdx p
  let bit (b : Bool) (n : Nat) : Nat := if b then n else 0
  [(a, bit x.set.strict 1 + bit x.set.flow 2 + 16 * (bauds.findIdx? (· == x.set.baud)).getD 0),
   (a + 4, x.subs.mask % 2 ^ 32), (a + 8, x.subs.mask / 2 ^ 32 % 2 ^ 32),
   (a + 12, x.subs.cls + bit x.subs.pull 4 + bit x.subs.clsEn 8)]

/-- The port words of a port without an image. -/
def portWords0 (p : PortId) : List (Nat × Nat) :=
  let a := 0xFF00 + 16 * portIdx p
  [(a, if p = .spi then 1 else 0), (a + 4, 0), (a + 8, 0), (a + 12, if p = .spi then 0 else 9)]

/-- The CFG bits of the register at an address, 0 for none. -/
def cfgMask (p : Part) (a : Nat) : Nat :=
  match regAt a with
  | some r => if r.absent p then 0 else r.cfg
  | none => 0

/-- The entries of an image: registers, then port words, that differ from their no-image default (R451, R452). -/
def State.saveEntries (s : State) : List (Nat × Nat) :=
  let regs := (List.range 0x900).filterMap fun i =>
    let a := 4 * i
    let m := cfgMask s.part a
    let v := Nat.land (s.word a).toNat m
    if v = Nat.land (resetWord s.part a).toNat m then none else some (a, v)
  let ports := [PortId.host, .service, .spi].map fun p =>
    ((s.portWords p).zip (portWords0 p)).filterMap fun x => if x.1 = x.2 then none else some x.1
  regs ++ ports.flatten

/-- A save begins: the image goes into the bank not in use, which is valid no longer (R452). -/
def State.saveBegin (s : State) (entries : List (Nat × Nat)) (owed : Option Owed) : State :=
  let bank := if s.store.bank.isEmpty then 0 else 1 - s.get F.NV_STAT_BANK
  let gen := (s.get F.NV_GEN_GEN + 1) % 2 ^ 32
  let s := { s with store := { s.store with save := some { bank := bank, bytes := makeBank entries gen, gen := gen, owed := owed } } }
  ((s.setFlag F.NV_STAT_SAVE_PEND true).setBankValid bank false).startJob

/-- SAVE written 1; a refused save leaves the bit 0 (R452, R462). -/
def State.saveWritten (s : State) : State :=
  if s.failed 9 ∨ s.store.save.isSome then s
  else
    let e := s.saveEntries
    if 168 < e.length then s else (s.setFlag F.NV_CTRL_SAVE true).saveBegin e none

/-- NV_SAVE_REQUEST (R452, R462). -/
def execNvSaveRequest (s : State) : Out := inRun s State.saveWritten

end Sys2Proof.Machine
end

