-- ==== Sys2Proof/Machine/LifeOps.lean ====
section
/-! DEFINITION. The life of the device (R6 to R11): entry to RESET, what survives it, the load of the configuration (R453),
the scan of the log (R446), the load of the timetables (R454), and entry to RUN. -/

namespace Sys2Proof.Machine

/-! ### A write cut off (R443) -/

/-- Which of the 16 bytes of a slot are its check bytes (R441). -/
def checkBytes (k : Nat) (bs : List Byte) (i : Nat) : Bool :=
  if 256 ≤ k then 14 ≤ i
  else if 128 ≤ k then k % 64 == 63 && 14 ≤ i
  else
    let w := (bs.drop (i / 4 * 4)).take 4
    decide (0xF0 ≤ (w.headD 0#8).toNat) && w.any (· != erasedByte)

/-- The slot in progress when the controller stops: a free choice of its bytes is programmed, none of its check bytes. -/
def State.tearSlot (s : State) : State :=
  match s.store.job with
  | none => s
  | some j =>
    let (m, s) := s.draw
    s.putBytes j.slot
      (j.bytes.zipIdx.map fun x => if bitAt m.toNat x.2 && !checkBytes j.slot j.bytes x.2 then x.1 else erasedByte)

/-! ### Entry to RESET (R7, R8, R71, R126) -/

/-- A port outside RUN: settings are opened at entry to RUN; a line in progress is discarded up to its terminator (R11). -/
def PortX.shut (x : PortX) (spi : Bool) : PortX :=
  { PortX.init spi with cr := x.cr, cts := x.cts, skip := x.skip || !x.rx.isEmpty || decide (0 < x.extra) || x.bad }

/-- The PRESENT entries of what holds whatever the core does: the clamps of the inputs' own comparators (R117), and through a
RESET the always-on domain's FIXED_LIMIT, BACKUP source, LOW, EMPTY and XTAL_LOST too (R73, R134, R161). -/
def State.lasting (s : State) (por : Bool) : List (Nat × Nat × Nat) :=
  s.flt.present.filter fun x =>
    (x.1 == 40 && x.2.1 == 3 && (s.harv x.2.2).clampOwn) ||
      (!por && [(40, 4), (41, 1), (45, 1), (45, 2), (63, 1)].contains (x.1, x.2.1))

/-- The state of a power-on reset: the pins and supplies, the clamps of the inputs' own comparators, the store and an analogue
drain in progress are what stays. -/
def State.powerOn (s : State) : State :=
  let s := s.tearSlot
  let t := State.resetOf s.part s.rev
  let t := { t with
    pending := s.pending, free := s.free, compat := s.compat,
    aon := { vdrvOk := s.aon.vdrvOk, vioOk := s.aon.vioOk, vlvOk := s.aon.vlvOk, drain := s.aon.drain },
    core := { oscTrim := s.core.oscTrim },
    flt := { sigHigh := s.flt.sigHigh, present := s.lasting true },
    harvs := (List.range 4).foldl (fun a i => Tab.put (fun _ => {}) a i { ({} : HarvX) with clampOwn := (s.harv i).clampOwn }) [],
    host := s.host.shut false, service := s.service.shut false, spi := s.spi.shut true,
    heads := (List.range s.part.heads).foldl (fun a h =>
      Tab.put (fun _ => {}) a h { ({} : HeadX) with hpark := (s.head h).hpark }) [],
    store := { bytes := s.store.bytes } }.setFlag F.BR_STATUS_MAINS_OK (s.flag F.BR_STATUS_MAINS_OK)
  ((List.range s.part.heads).foldl (fun t h => t.setFlag (F.HEAD_LGSTAT_PARKED h) (s.head h).hpark) t).harvStates

/-- Fields that a RESET that is no power-on reset does not set: those of the always-on domain (R71, R126, R135, R153, R164), and
those of the rod that follow the hardware (R81). -/
def keptFields : List Field :=
  [F.HARV_START_SOURCE, F.HARV_START_TRICKLE, F.HARV_START_SHOT, F.HARV_START_KEY_WEAK, F.HARV_START_COLD,
   F.HARV_START_VKA_RESET, F.HARV_TRICKLE_ENERGY, F.RELAY_STATUS_STATE, F.RELAY_STATUS_COUNT, F.BACKUP_STATUS_VBACKUP,
   F.BACKUP_STATUS_PRESENT, F.BACKUP_STATUS_LOW, F.BACKUP_STATUS_EMPTY, F.BACKUP_STATUS_USED, F.SYS_TIMEBASE_ROD_GEN,
   F.SYS_TIMEBASE_ROD_ERR, F.SYS_ROD_COUNT] ++
  ((List.range 4).map fun i => [F.HARV_SET_SET i, F.HARV_STATUS_OP i, F.HARV_STATUS_FIXED_LIM i]).flatten

/-- FIXED is in force outside RUN: every input takes the operating point of its latest sample (R119, R120). -/
def State.fixedPoints (s : State) : State := (List.range 4).foldl (fun s i => if s.part.hasHarv i then s.fixedPoint i else s) s

/-- RESET entered from SELFTEST or RUN (R7): the device starts again but for the always-on domain, the tick counter, the
crystal, the store, and a relay pulse that runs. -/
def State.enterReset (s : State) (c : ResetCause) : State :=
  let t := s.powerOn
  let t := keptFields.foldl (fun t f => t.set f (s.get f)) t
  { t with
    lastReset := c, ticks := s.ticks, aon := s.aon, flt := { t.flt with present := s.lasting false },
    harvs := (List.range 4).foldl (fun a i =>
      Tab.put (fun _ => {}) a i { ({} : HarvX) with clampOwn := (s.harv i).clampOwn, off := (s.harv i).off }) [],
    relay := { run := s.relay.run.map fun (x : RelayReq × Nat) => ({ x.1 with why := .past }, x.2), shot := s.relay.shot, gapAt := s.relay.gapAt,
               closure := if s.get F.RELAY_STATUS_STATE = 2 then .normal else .none } }.relayBits.fixedPoints.harvStates

/-! ### The configuration (R17, R451, R453) -/

/-- The port and the word, 0 to 3, of a port word's address. -/
def portWordAt (a : Nat) : Option (PortId × Nat) :=
  if a % 4 = 0 then
    (match (a - 0xFF00) / 16 with
      | 0 => if 0xFF00 ≤ a then some (.host, a % 16 / 4) else none
      | 1 => some (.service, a % 16 / 4)
      | 2 => some (.spi, a % 16 / 4)
      | _ => none)
  else none

/-- The bits of an image word that are stored; 0 where the address names no register or port word with a CFG field. -/
def imageMask (p : Part) (a : Nat) : Nat :=
  match portWordAt a with
  | some (_, 0) => 0xF3
  | some (_, 3) => 0xF
  | some _ => 0xFFFFFFFF
  | none => match regAt a with
    | some r => if r.absent p then 0 else maskMinus r.cfg (r.ignored p)
    | none => 0

/-- A port word obeys R50, R51 and R64: a rate of R51 and RTSCTS on HOST only, 115,200 baud on SERVICE, STRICT on SPI. -/
def portWordOk (p : PortId) (k : Nat) (w : Word) : Bool :=
  k != 0 ||
    (match p with
      | .host => decide (bitsOf w 4 4 < bauds.length)
      | .service => bitsOf w 4 4 == 0 && !bitAt w.toNat 1
      | .spi => bitsOf w 4 4 == 0 && bitsOf w 0 2 == 1)

/-- Step 1: the words taken, and how many entries are skipped. -/
def takeEntries (p : Part) (es : List (Nat × Nat)) : Tab (Option Word) × Nat :=
  es.foldl (fun x e =>
    let m := imageMask p e.1
    if m = 0 then (x.1, x.2 + 1)
    else (Tab.put (fun _ => none) x.1 e.1 (some (BitVec.ofNat 32 (Nat.land e.2 m))),
          x.2 + (if (Tab.get (fun _ => none) x.1 e.1).isSome then 1 else 0))) ([], 0)

/-- An image word stored in its register, or the register's CFG fields returned to their defaults. -/
def State.storeWord (s : State) (a : Nat) (w : Option Word) : State :=
  match regAt a with
  | none => s
  | some r =>
    let m := maskMinus r.cfg (r.ignored s.part)
    let v := match w with | some w => w.toNat | none => (resetWord s.part a).toNat
    s.setWord a (BitVec.ofNat 32 (maskMinus (s.word a).toNat m + Nat.land v m))

/-- An image word breaks a rule in the values as they stand. -/
def State.wordBad (s : State) (a : Nat) (w : Option Word) : Bool :=
  match w, portWordAt a with
  | none, _ => false
  | some w, some (p, k) => !portWordOk p k w
  | some _, none => match regAt a with
    | some r => !s.regOk r
    | none => false

/-- Step 2: every word that breaks a rule returns to its default and is counted, until none does. -/
def State.judgeImage (s : State) (img : Tab (Option Word)) (n : Nat) : Nat → State × Tab (Option Word) × Nat
  | 0 => (s, img, n)
  | fuel + 1 =>
    let bad := img.filter fun x => s.wordBad x.1 x.2
    if bad.isEmpty then (s, img, n)
    else
      State.judgeImage (bad.foldl (fun s x => s.storeWord x.1 none) s) (img.filter fun x => !s.wordBad x.1 x.2) (n + bad.length) fuel

/-- Which of two banks is loaded, by which are valid, with its CFG_SRC (R453). -/
def bankChoice (a b : List Byte) : Bool → Bool → Option (Nat × Nat)
  | true, true => some (if bankGen a < bankGen b then 1 else 0, 1)
  | true, false => some (0, if bankGen a < (if bankGen b = 2 ^ 32 - 1 then 0 else bankGen b) then 2 else 1)
  | false, true => some (1, if bankGen b < (if bankGen a = 2 ^ 32 - 1 then 0 else bankGen a) then 2 else 1)
  | false, false => none

/-- The bank loaded, how it was chosen (CFG_SRC), or none (R453). -/
def State.chooseBank (s : State) : Option (Nat × Nat) :=
  bankChoice (s.bankBytes 0) (s.bankBytes 1) (bankValid (s.bankBytes 0)) (bankValid (s.bankBytes 1))

/-- The bank chosen loaded, or no configuration (R453). -/
def State.loadBank (s : State) : Option (Nat × Nat) → State
  | none => s.raise 57 "CFG_DEFAULT"
  | some (b, src) =>
    let bs := s.bankBytes b
    let (img, n) := takeEntries s.part (bankImage bs)
    let t := img.foldl (fun s x => s.storeWord x.1 x.2) s
    let (t, img, n) := t.judgeImage img n (img.length + 1)
    let t := { t with store := { t.store with bank := bs, image := img } }
    let t := ((t.set F.NV_STAT_BANK b).set F.NV_STAT_CFG_SRC src).set F.NV_GEN_GEN (bankGen bs)
    let t := t.set F.NV_STAT_CFG_SKIP (satNat 255 n)
    let t := if src = 2 then t.raise 57 "CFG_OLDER" ("GEN=" ++ dec (bankGen bs)) (some (bankGen bs)) else t
    if n = 0 then t else t.raise 57 "CFG_SKIP" ("COUNT=" ++ dec n) (some n)

/-- The configuration loaded before the end of RESET (R453). -/
def State.loadConfig (s : State) : State :=
  ((s.judgeBank 0).judgeBank 1).loadBank s.chooseBank

/-! ### The log and the timetables at the end of RESET (R446, R448, R449, R454, R457) -/

/-- The sequence numbers of intact records whose successor slot holds no intact record of the next number. -/
def newestOf (slots : List (List Byte)) : List Nat :=
  slots.zipIdx.filterMap fun x =>
    let n := beNat (x.1.take 2)
    let next := slots.getD ((x.2 + 1) % 256) []
    if slotIntact x.1 && !(slotIntact next && beNat (next.take 2) == (n + 1) % 65536) then some n else none

/-- `a` stands after `b` in sequence. -/
def seqAfter (a b : Nat) : Bool := decide ((a + 65536 - b) % 65536 < 32768)

/-- The intact records of the log, newest first. -/
def State.logRecords (s : State) : List (List Byte) :=
  ((List.range 256).map fun i => (s.newest + 65536 - i) % 65536).filterMap fun n =>
    if s.holds n then some (s.slot (logSlot n)) else none

/-- The newest STORE record of one of some kinds. -/
def storeRec (kinds : List Nat) (rs : List (List Byte)) : Option (List Byte) :=
  rs.find? fun b => beNat ((b.drop 2).take 1) == 3 && kinds.contains (beNat ((b.drop 8).take 1))

/-- NEWEST, from the candidates for it. -/
def State.newestFound (s : State) : List Nat → State
  | [] => { s with store := { s.store with empty := true } }
  | n :: ns => { s with store := { s.store with empty := false } }.set F.NV_LOG_NEWEST (ns.foldl (fun a b => if seqAfter b a then b else a) n)

/-- LAPS, from the last LAP record. -/
def State.lapFound (s : State) : Option (List Byte) → State
  | some b => s.set F.NV_LAPS_LAPS (beNat ((b.drop 10).take 4))
  | none => s

/-- A commit whose end is not in the log, from the last record about commits. -/
def State.commitFound (s : State) : Option (List Byte) → State
  | some b =>
    let tt := beNat ((b.drop 9).take 1)
    if beNat ((b.drop 8).take 1) = 1 then (s.setFlag F.NV_STAT_TORN_TT true).raise 57 "TORN_COMMIT" ("TT=" ++ dec tt) (some tt) else s
  | none => s

/-- A slot that holds neither an intact record nor nothing. -/
def slotTorn (b : List Byte) : Bool := !slotIntact b && !slotErased b

/-- The scan of the log (R446). -/
def State.scanLog (s : State) : State :=
  let slots := (List.range 256).map fun k => s.slot (256 + k)
  let count (p : List Byte → Bool) : Nat := (slots.filter p).length
  let s := ((s.set F.NV_LOG_RECORDS (count slotIntact)).set F.NV_LOG2_ERASED (count slotErased)).set F.NV_LOG2_TORN (count slotTorn)
  let s := (s.set F.NV_LOG2_TOKENS 64).newestFound (newestOf slots)
  let next := s.nextSeq
  let s := if slotTorn (s.slot (logSlot next)) then s.raise 57 "TORN_LOG" ("SEQ=" ++ dec next) (some next) else s
  let rs := if s.store.empty then [] else s.logRecords
  (s.lapFound (storeRec [3] rs)).commitFound (storeRec [1, 2] rs)

/-- The words that a list of bytes spells. -/
def bytesWords : Nat → List Byte → List Word
  | 0, _ => []
  | n + 1, bs => BitVec.ofNat 32 (beNat (bs.take 4)) :: bytesWords n (bs.drop 4)

/-- The RAM copy of the timetable area read from the store, walked and judged. -/
def State.loadArea (s : State) : State :=
  s.applyArea (bytesWords 512 (Tab.getList (fun _ => erasedByte) s.store.bytes 0 2048))

/-! ### Entry to RUN (R11, R102, R119, R134, R163, R171, R198, R211, R399, R430) -/

/-- BY of EV61 RESET. -/
def ResetCause.text : ResetCause → String
  | .por => "POR"
  | .resetn => "RESETN"
  | .corelow => "CORELOW"

/-- The causes that entry to RUN adds to those held. -/
def State.entryCauses (s : State) : State :=
  let s := if s.aon.shotOwed then s.raise 40 "COLD_SHOT" else s
  let s := if s.aon.weakOwed then s.raise 40 "KEY_WEAK" else s
  let s := { s with aon := { s.aon with shotOwed := false, weakOwed := false } }
  let s := if s.lastReset = .corelow then s.raise 41 "VKA_RESET" else s
  let s := if s.flag F.BACKUP_STATUS_PRESENT then s else s.raise 45 "MISSING"
  let s := if s.bist.cold then s.raise 56 "CONDWAIT" ("BP=NONE WAIT=" ++ dec (s.get F.BIST_COND_PWAIT)) (some (s.get F.BIST_COND_PWAIT)) else s
  let s := (List.range 8).foldl (fun s n =>
    if s.get (F.TT_DIR_LEN n) ≠ 0 ∧ !s.ttValid n then s.raiseTt "INVALID" (some n) "" n n else s) s
  let s := s.raise 61 "RESET" ("BY=" ++ s.lastReset.text) none
  if s.compat then s.raise 61 "COMPAT" else s

/-- The causes held before RUN are presented together (R399). -/
def State.presentHeld (s : State) : State :=
  { s with flt := { s.flt with causes := s.flt.causes ++ s.flt.held.map fun c => { c with epoch := 0 }, held := [] } }

/-- Units take up the loaded settings as they would take up a write. -/
def State.startUnits (s : State) : State :=
  let s := (List.range s.part.mons).foldl State.unsettle s
  let s := (List.range 4).foldl (fun s i => if s.part.hasHarv i then s.harvSet i else s) s
  let s := s.syncWritten
  let s := s.part.railList.foldl (fun s r => (s.renumber r).applyTrims r) s
  let s := { s with gauge := { budget := s.get F.GAUGE_BUDGET_BUDGET, floor := s.get F.GAUGE_BUDGET_FLOOR_RES } }
  let s := s.syncBudget false 0
  (List.range s.part.heads).foldl (fun s h =>
    let s := if s.flag (F.HEAD_CTRL_INHIBIT h) then s.inhibitWritten h else s
    if s.lineEn h then s.enOn h else s) s

/-- Entry to RUN. -/
def State.enterRun (s : State) : State :=
  let s := s.entryCauses
  let s := { s with dev := .run, bist := {}, tt := { s.tt with bootPend := true } }.setTest none
  let s := (s.presentHeld.openPort .host).openPort .service |>.openPort .spi
  let s := s.setVcore (s.get F.SYS_VCORE_RUN_LVL * 10)
  s.startUnits.rodCheck.bridgeEval.evalRa

end Sys2Proof.Machine
end

