-- ==== Sys2Proof/Machine/Lifecycle.lean ====
section
/-! DEFINITION. The commands of the device's life (R6 to R8, R113 to R135, R413): power-on reset, the start of the always-on
domain, entry to RESET, the end of RESET, and the KEY drain. -/

namespace Sys2Proof.Machine

/-- What a fall of VKA below POR does in BUFFER-STOP, which it does not leave by itself (R7, R8): the always-on domain
stops and its counters are zeroed (R71, R126, R135, R153, R164). -/
def State.aonStop (s : State) : State :=
  let s := { s with ticks := 0, aon := { vdrvOk := s.aon.vdrvOk, vioOk := s.aon.vioOk, vlvOk := s.aon.vlvOk, drain := s.aon.drain },
                    relay := {} }
  let s := keptFields.foldl (fun s f => s.set f 0) s
  (s.setFlag F.HARV_START_COLD true).harvStates.relayBits

/-- POWER_ON_RESET (R126). In BUFFER-STOP the power cycle of R8 is complete only after 100 ms below 1.2 V, at the next
AON_START or at the end of the drain. -/
def execPowerOnReset (s : State) : Out := always s fun s => if s.dev = .bufferStop then s.aonStop else s.powerOn

/-- AON_START_RISE (R8, R114, R120). -/
def execAonStartRise (belowMs : Nat) (mpp : List Nat) (s : State) : Out :=
  always s fun s =>
    if s.aon.running then s
    else
      let s := if s.dev = .bufferStop ∧ 100 ≤ belowMs then s.powerOn else s
      ({ s with aon := { s.aon with running := true } }.mppSample mpp).harvStates

/-- RESET_N_LOW (R7): ignored in BUFFER-STOP. -/
def execResetNLow (s : State) : Out :=
  anyDev s fun s => if s.dev = .selftest ∨ s.dev = .run then s.enterReset .resetn else s

/-- CORE_LOW_FALL (R7, R129, R135): ignored in BUFFER-STOP; the core supply must be qualified again. -/
def execCoreLowFall (s : State) : Out :=
  anyDev s fun s =>
    let s := { s with aon := { s.aon with coreQual := false } }
    if s.dev = .selftest ∨ s.dev = .run then (s.enterReset .corelow).setFlag F.HARV_START_VKA_RESET true else s

/-- The core supply is or has been qualified (R129): by VDRV, by the source, or on VKA alone, which stands at `vka` mV and has
reached `peak` mV with no KEY pulse in progress and no relay pulse waiting or running, since it was last below CORE_LOW. -/
def State.coreOk (s : State) (vka peak : Nat) : Bool :=
  s.aon.coreQual || s.aon.vdrvOk || s.get F.HARV_START_SOURCE != 0 || decide (s.get F.HARV_START_CORE_START * 25 ≤ peak) ||
    (decide (s.get F.HARV_START_CORE_START * 25 ≤ vka) && s.aon.keyPulse == KeyPulse.none && s.relay.wait.isNone &&
      s.relay.run.isNone && s.relay.shot.isNone)

/-- The end of RESET (R10, R17, R66, R147, R427, R446, R453, R454). -/
def State.endReset (s : State) (compatBall : Bool) : State :=
  let s := { s with compat := compatBall, aon := { s.aon with leftReset := true, coreQual := true } }
  let s := s.loadConfig.scanLog.loadArea
  let s := (s.setFlag F.SYS_VCORE_GOOD true).setVcore 900
  let s := if s.flag F.BR_STATUS_MAINS_OK then { s with bridge := { s.bridge with qualAt := some (s.ticks + 64) } } else s
  if s.flag F.BIST_CTRL_PWRUP then { s with dev := .selftest }.setTest (some { bp := 0, how := .powerup }) else s.enterRun

/-- END_OF_RESET (R129): VKA at or above CORE_OK and the core supply qualified. -/
def execEndOfReset (vka peak : Nat) (compatBall : Bool) (s : State) : Out :=
  anyDev s fun s =>
    if s.dev = .reset ∧ s.aon.running ∧ !s.aon.drain ∧ 2000 ≤ vka ∧ s.coreOk vka peak then s.endReset compatBall else s

/-! ### The KEY drain (R413) -/

/-- KEY_HOLD_5S (R413): a hold of 163,840 ticks in RUN. -/
def execKeyHold5s (s : State) : Out :=
  inRun s fun s =>
    match s.aon.keyHold with
    | some t => (s.reach (t + 163840)).raise 61 "KEY_HOLD"
    | none => s

/-- KEY_HOLD_DRAIN (R413): a hold of 327,680 ticks closes the drain switch and stops every source of VKA. -/
def execKeyHoldDrain (s : State) : Out :=
  anyDev s fun s =>
    match s.aon.keyHold with
    | some t =>
      let s := s.reach (t + 327680)
      ({ s with aon := { s.aon with drain := true } }.setFlag F.HARV_START_TRICKLE false).harvStates
    | none => s

/-- DRAIN_RELEASE (R8, R413): VKA has been below 1.2 V for 150 ms, so a power cycle is complete. -/
def execDrainRelease (s : State) : Out :=
  always s fun s =>
    if s.aon.drain ∧ !s.aon.running then
      let s := { s with aon := { s.aon with drain := false } }
      if s.dev = .bufferStop then s.powerOn else s
    else s

end Sys2Proof.Machine
end

