-- ==== Sys2Proof/Machine/Links.lean ====
section
/-! DEFINITION. The commands of the head links (12_line_timing): training, attach, loss and retry, sideband replies, and
LINK?. -/

namespace Sys2Proof.Machine

/-! ### Training (R327 to R330) -/

/-- UPSTREAM_LOCK (R327): a DOWN link begins training, with AUTO_TRAIN. Without VLV the receivers report no lock (R483). -/
def execUpstreamLock (h : Fin 4) (s : State) : Out :=
  inRun s fun s =>
    if !s.headLive h ∨ !s.aon.vlvOk then s
    else
      let s := s.setFlag (F.LINE_LSTAT_LOCKUP h) true
      if s.link h = 0 ∧ s.flag (F.LINE_CTRL_AUTO_TRAIN h) then s.train h else s

/-- UPSTREAM_QUIET (R327): a LOST or FAILED link goes DOWN. -/
def execUpstreamQuiet (h : Fin 4) (s : State) : Out :=
  inRun s fun s =>
    if !s.headLive h then s
    else if s.link h = 4 ∨ s.link h = 5 then s.linkDown h
    else s.setFlag (F.LINE_LSTAT_LOCKUP h) false

/-- TRAIN_ATTEMPT_START (R328): TRAIN sets on both lanes. -/
def execTrainAttemptStart (h : Fin 4) (s : State) : Out :=
  inRun s fun s =>
    if s.headLive h ∧ s.link h = 1 ∧ (s.head h).step = .idle then s.modHead h fun x => { x with step := .sets } else s

/-- An identity has come (R328): the head has found both lanes, and a PROBE is sent. -/
def State.identTaken (s : State) (h : Nat) (ident : List Byte) : State :=
  if s.link h = 1 ∧ (s.head h).step = .sets then
    let s := (s.setFlag (F.LINE_LSTAT_LOCK0 h) true).setFlag (F.LINE_LSTAT_LOCK1 h) true
    (s.modHead h fun x => { x with ident := ident }).setStep h .probe
  else s

/-- IDENT_RECEIVED (R328). A frame that is no good is discarded and counted (R322, R350). -/
def execIdentReceived (h : Fin 4) (chars : List Nat) (s : State) : Out :=
  inRun s fun s =>
    if !s.headLive h then s
    else match upFrame chars with
    | none => s.badFrame h
    | some (.ident id) => s.identTaken h id
    | some _ => s

/-- The PROBE has been acknowledged (R328): UP with the identity last attached, to be verified (R358); ATTACHING with
another. -/
def State.probed (s : State) (h : Nat) : State :=
  if s.link h = 1 ∧ (s.head h).step = .probe then
    let x := s.head h
    if x.attached ∧ x.ident = x.lastIdent then
      ((s.unfit h 2 true).modHead h fun x => { x with verify := some 0 }).linkUp h
    else
      (((s.setLink h 2).setFlag (F.LINE_LINK_TRAIN h) false).modHead h fun x => { x with memIn := [] }).setStep h (.memory 0 0)
  else s

/-- PROBE_ACK (R328). An ACK that is not good leaves the attempt to its time limit. -/
def execProbeAck (h : Fin 4) (chars : List Nat) (s : State) : Out :=
  inRun s fun s =>
    if !s.headLive h then s
    else match upFrame chars with
    | none => s.badFrame h
    | some (.ack status _) => if status = 0 then s.probed h else s
    | some _ => s

/-- TRAIN_TIMEOUT (R328): the attempt has not finished within 2 ms. -/
def execTrainTimeout (h : Fin 4) (s : State) : Out :=
  inRun s fun s => if s.headLive h ∧ s.link h = 1 then s.attemptFails h else s

/-- LINK_LOCK_LOSS (R329): an UP link is LOST with reason LOCK. -/
def execLinkLockLoss (h : Fin 4) (s : State) : Out :=
  inRun s fun s => if s.headLive h then (s.setFlag (F.LINE_LSTAT_LOCKUP h) false).linkLost h "LOCK" else s

/-- LINK_RETRY_TIMER (R330): 64 ticks after a loss or a failed attempt. -/
def execLinkRetryTimer (h : Fin 4) (s : State) : Out :=
  inRun s fun s =>
    match (s.head h).retryAt with
    | some t => if s.headLive h ∧ s.link h = 4 ∧ s.flag (F.LINE_CTRL_AUTO_TRAIN h) then (s.reach t).train h else s
    | none => s

/-- RETRIES_RESET_TIMER (R330): UP for 32,768 ticks. -/
def execRetriesResetTimer (h : Fin 4) (s : State) : Out :=
  inRun s fun s =>
    match (s.head h).upAt with
    | some t => if s.headLive h ∧ s.link h = 3 then (s.reach (t + 32768)).set (F.LINE_LSTAT_RETRIES h) 0 else s
    | none => s

/-- TRAIN written 1 starts an attempt where no attempt runs and the link is not UP (R327, R350). -/
def State.trainWritten (s : State) (h : Nat) : State :=
  if s.headLive h ∧ (s.link h = 0 ∨ s.link h = 4 ∨ s.link h = 5) then (s.setFlag (F.LINE_LINK_TRAIN h) true).train h else s

/-- LINE_TRAIN_REQUEST (R327, R350). -/
def execLineTrainRequest (h : Fin 4) (s : State) : Out := inRun s fun s => s.trainWritten h

/-! ### Attach (R331, R356, R357) -/

/-- A block of the on-head memory (R331): the one asked for is kept and the next requested; after the last the memory is
judged. -/
def State.blockTaken (s : State) (h blk : Nat) (data : List Byte) : State :=
  match s.link h, (s.head h).step with
  | 2, .memory b _ =>
    if blk ≠ b then s
    else
      let s := s.modHead h fun x => { x with memIn := Tab.putList (fun _ => 0#8) x.memIn (128 * b) data }
      if b = 255 then s.attachCheck h else s.setStep h (.memory (b + 1) 0)
  | _, _ => s

/-- MEMBLOCK_RECEIVED (R331). A frame that is no good is discarded and counted, and is a bad block. -/
def execMemblockReceived (h : Fin 4) (chars : List Nat) (s : State) : Out :=
  inRun s fun s =>
    if !s.headLive h then s
    else match upFrame chars with
    | none => (let s := s.badFrame h; if s.link h = 2 then s.blockBad h else s)
    | some (.memblock blk data) => s.blockTaken h blk data
    | some _ => s

/-- MEMBLOCK_TIMEOUT (R331). -/
def execMemblockTimeout (h : Fin 4) (s : State) : Out :=
  inRun s fun s => if s.headLive h ∧ s.link h = 2 then s.blockBad h else s

/-- The TRIM frame that waits outside an attach is done with: the next goes out, and after the last the sideband goes on. -/
def State.trimPop (s : State) (h : Nat) : State :=
  let s := (s.modHead h fun x => { x with trimQ := x.trimQ.tail, trimTries := 0 }).trimNext h
  if (s.head h).trimQ.isEmpty ∧ !s.framesRun h then s.sideNext h else s

/-- A TRIM frame outside an attach without its ACK (R331): again up to 3 times, then it is left to the scrub. -/
def State.trimAgain (s : State) (h : Nat) : State :=
  if (s.head h).trimQ.isEmpty then s
  else if (s.head h).trimTries < 3 then (s.modHead h fun x => { x with trimTries := x.trimTries + 1 }).trimNext h
  else s.trimPop h

/-- A TRIM frame without a good ACK (R331). -/
def State.trimMissed (s : State) (h : Nat) : State :=
  match s.link h with
  | 2 => s.trimBad h
  | 3 => s.trimAgain h
  | _ => s

/-- The ACK to a TRIM frame (R331, R357): good is STATUS 0 for the chip of the frame sent. The next TRIM frame follows, or the
end of the attach. -/
def State.trimTaken (s : State) (h status chip : Nat) : State :=
  match s.link h, (s.head h).step, (s.head h).trimQ with
  | 2, .trims c _, _ =>
    if status ≠ 0 ∨ chip ≠ c then s.trimBad h
    else if c + 1 < 248 then s.setStep h (.trims (c + 1) 0)
    else s.attachDone h
  | 3, _, c :: _ => if status ≠ 0 ∨ chip ≠ c then s.trimAgain h else (s.rewritten h [c]).trimPop h
  | _, _, _ => s

/-- TRIM_ACK (R331, R357). A frame that is no good is discarded and counted, and is a bad ACK. -/
def execTrimAck (h : Fin 4) (chars : List Nat) (s : State) : Out :=
  inRun s fun s =>
    if !s.headLive h then s
    else match upFrame chars with
    | none => (s.badFrame h).trimMissed h
    | some (.ack status chip) => s.trimTaken h status chip
    | some _ => s

/-- TRIM_ACK_TIMEOUT (R331). -/
def execTrimAckTimeout (h : Fin 4) (s : State) : Out := inRun s fun s => if s.headLive h then s.trimMissed h else s

/-- SIDE_REPLY_RECEIVED (R326, R362): an upstream SIDE frame; one that is no good is discarded and counted. -/
def execSideReplyReceived (h : Fin 4) (chars : List Nat) (s : State) : Out :=
  inRun s fun s =>
    if !s.headLive h then s
    else match upFrame chars with
    | none => s.badFrame h
    | some (.side d) => if s.link h = 3 then (s.sideReply h d).evalRa else s
    | some _ => s

/-! ### LINK? (R351) -/

/-- The names of a head's failing conditions. -/
def nrNames (m : Nat) : List String := (bitsSet m 5).map fun k => ["EN", "LINK", "ROD", "ENC", "DOSE"].getD k ""

/-- LINK_QUERY (R351). -/
def execLinkQuery (p : PortId) (l : Line) (s : State) : Out :=
  verbRow .link true anyForm p l s fun s => do
    let h ← objHead s.part l
    noArgs (restToks l)
    s.serves (headBp h)
    let lanes := s.get (F.LINE_LSTAT_LOCK0 h) + s.get (F.LINE_LSTAT_LOCK1 h)
    pure (s, .ok (headName h ++ " " ++ fieldsOut
      [("STATE", ["DOWN", "TRAINING", "ATTACHING", "UP", "LOST", "FAILED"].getD (s.link h) "?"),
       ("LANES", ["NONE", "ONE", "BOTH"].getD lanes "?"), ("UPLOCK", bitOut (s.flag (F.LINE_LSTAT_LOCKUP h))),
       ("RETRIES", dec (s.get (F.LINE_LSTAT_RETRIES h))), ("CRCUP", dec (s.get (F.LINE_LSTAT_CRC_UP h))),
       ("FRAMEBAD", dec (s.get (F.LINE_LSTAT_FRAME_BAD h))), ("READY", bitOut (s.headReady h)),
       ("NOTREADY", listOut (nrNames (s.headNr h)))]))

end Sys2Proof.Machine
end

