-- ==== Sys2Proof/Machine/Monitors.lean ====
section
/-! DEFINITION. The commands of the window monitors and their converters (04_window_monitors), and the balancing timer
(R142). -/

namespace Sys2Proof.Machine

/-- A sample whose instant has come: it waits for an open blanking window, or for its converter, and keeps the thresholds it
woke with (R104); else it is taken (R92, R105, R107). -/
def State.sampleDue (s : State) (n x : Nat) : State :=
  let w := s.wakeOf n
  if (s.mon n).blank then s.modMon n fun y => { y with wait := true, wake := some w }
  else
    let c := s.get (F.MON_CTRL_ADC n)
    if s.flag (F.MON_CTRL_MODE n) ∧ (s.adc c).busy.isSome then
      (s.modAdc c fun a => { a with mons := Nat.lor a.mons (2 ^ n) }).modMon n fun y => { y with wake := some w }
    else s.takeSample n x

/-- MONITOR_SAMPLE (R92): the next sampling tick, whole: wake, decision and what follows. A sample that still waits for its
window is missed (R107). -/
def execMonitorSample (n : Fin 24) (x : Nat) (s : State) : Out :=
  inRun s fun s =>
    if !s.samples n then s
    else
      let s := if (s.mon n).blank && (s.mon n).wait then s.missSample n else s
      ((s.wakeUp n).sampleDue n x).evalRa

/-- BLANK_WINDOW_CLOSE (R107): the window closes and a sample that waits is taken. -/
def execBlankWindowClose (n : Fin 24) (x : Nat) (s : State) : Out :=
  inRun s fun s =>
    let w := (s.mon n).wait
    let s := s.modMon n fun y => { y with blank := false, wait := false }
    if w && s.monLive n then (s.sampleDue n x).evalRa else s

/-- CONVERTER_FREE (R105): a conversion ends, its result goes to who asked for it, and the next request starts. -/
def execConverterFree (c : Fin 4) (x : Nat) (s : State) : Out := inRun s fun s => (s.convDone c x).evalRa

/-- TELEMETRY_SAMPLE (R87, R105): the telemetry job's period of 256 ticks ends; its conversion is asked for at Freight rank. -/
def execTelemetrySample (s : State) : Out :=
  freight s fun s =>
    let s := match (s.job 9 0).since with | some t => s.reach (t + 256) | none => s
    (s.jobDone 9 0).askFreight .freight

/-- IMBALANCE_TIMER (R142): a balancing output has stayed high for 2^23 ticks. -/
def execImbalanceTimer (k : Fin 8) (s : State) : Out :=
  anyDev s fun s =>
    match Tab.get (fun _ => none) s.bridge.balAt k with
    | some t =>
      if s.bit F.RES_BAL_BAL_ON k then
        let s := s.reach t
        { s with bridge := { s.bridge with balAt := Tab.put (fun _ => none) s.bridge.balAt k none } }.raise 42 "IMBALANCE"
          ("CELL=" ++ dec (k + 1)) (some (k + 1)) k
      else s
    | none => s

end Sys2Proof.Machine
end

