-- ==== Sys2Proof/Machine/Phases.lean ====
section
/-! DEFINITION. The commands of the phases and of the switching reference (09_phase_control), with the all-phase response
and the boost of 10_rail_targets and the comparators of 11_rail_protection. -/

namespace Sys2Proof.Machine

/-- Phase `n` acts: it exists, and its partition works. -/
def State.phaseLive (s : State) (n : Nat) : Bool := decide (n < s.part.phases) && s.works (s.phBp n)

/-- Rail `r` acts: it exists, and its partition works. -/
def State.railLive (s : State) (r : Nat) : Bool := s.part.hasRail r && s.works (railBp r)

/-! ### Triggers and on-times -/

/-- RAIL_TRIGGER (R241): what waits for the trigger takes effect, and one on-time starts. -/
def execRailTrigger (r : Fin 6) (e : Int) (s : State) : Out :=
  inRun s fun s =>
    if !s.railLive r ∨ !s.railOn r then s
    else
      let s := s.atTrigger r
      if s.railOn r then s.trigger r e else s

/-- PHASE_ON_TIME_END (R242): the on-time ends at its width. One of an all-phase response goes on beyond it until the sense has
come back or, told a second time, until NL_MAXON (R286). -/
def execPhaseOnTimeEnd (n : Fin 16) (s : State) : Out :=
  inRun s fun s =>
    let x := s.ph n
    if !x.on then s
    else if x.resp && !x.minOk && !(s.rail (s.get (F.PH_CTRL_RAIL n))).respBack then s.modPh n fun x => { x with minOk := true }
    else s.endOn n

/-- PHASE_ELIGIBLE (R245): the phase may take a trigger again, and takes one that its rail holds. -/
def execPhaseEligible (n : Fin 16) (s : State) : Out :=
  inRun s fun s =>
    if !s.phaseLive n ∨ (s.ph n).on then s
    else
      let s := s.modPh n fun x => { x with elig := true, limited := false }
      let r := s.get (F.PH_CTRL_RAIL n)
      if r < 6 ∧ (s.rail r).held ∧ s.railOn r ∧ (s.rotation r).contains n then s.offerHeld r n else s

/-! ### Samples (R258, R259) -/

/-- A phase current in 10 mA of a code (R258). -/
def phaseAmps (code : Nat) (offset : Int) (gain : Nat) : Int := roundDiv ((16 * ((code : Int) - 500) - offset) * 625) gain

/-- I_BASE at a sample of phase `n` at rod time `t`: the rail current once every ACTIVE phase has been sampled with no strobe of
the head in progress (R288). -/
def State.baseSample (s : State) (r n t : Nat) : State :=
  if s.part.heads ≤ r then s
  else if t < (s.head r).strobeEnd then s.modRail r fun x => { x with baseSet := 0 }
  else
    let m := Nat.lor (s.rail r).baseSet (2 ^ n)
    if (s.phasesIn r [1]).all (bitAt m) then s.modRail r fun x => { x with baseSet := 0, iBase := s.iRail r * 10 }
    else s.modRail r fun x => { x with baseSet := m }

/-- The judgements of a sample (R311, R312), OPEN apart, which rank-0 cycles judge. -/
def State.judgeSample (s : State) (r n code : Nat) (prev : Nat) : State :=
  if !s.judged r n then s.modPh n fun x => { x with endRun := 0, sameRun := 0, negRun := 0, spans := [] }
  else
    let others := (s.phasesIn r [1]).filter (· != n)
    let sum := (others.map fun k => s.sget (F.PH_ISNS_I k)).sum
    let codes := others.map fun k => s.get (F.PH_ISNS_CODE k)
    let i := s.sget (F.PH_ISNS_I n)
    let len := others.length
    let quarter := decide (sum ≤ 4 * i * len)
    let (a, b) := s.iPh r
    let x := s.ph n
    let same := code == prev && quarter && decide (0 < x.sameRun)
    let spans := ((codes.foldl min 1023, codes.foldl max 0) :: (if same then x.spans else [])).take 64
    let lo := (spans.map Prod.fst).foldl min 1023
    let hi := (spans.map Prod.snd).foldl max 0
    let endRun := if code = 0 ∨ code = 1023 then x.endRun + 1 else 0
    let sameRun := if same then x.sameRun + 1 else if quarter then 1 else 0
    let negRun := if 20 * i * b < -(a : Int) then x.negRun + 1 else 0
    let s := s.modPh n fun x => { x with
      endRun := satNat 8 endRun, sameRun := satNat 64 sameRun, negRun := satNat 8 negRun, spans := spans }
    if 8 ≤ endRun then s.judgeSense r n "RAIL"
    else if 64 ≤ sameRun ∧ lo + 8 ≤ hi then s.judgeSense r n "STUCK"
    else if 8 ≤ negRun then s.judgeSense r n "NEGATIVE"
    else s.judgeOffset n

/-- PHASE_SAMPLE (R259): the code, the current and V_REF that follows it, the low side (R244), I_BASE and the judgements.
An unassigned phase has no ISGAIN: only its code is kept. -/
def execPhaseSample (n : Fin 16) (code sensed t : Nat) (s : State) : Out :=
  inRun s fun s =>
    if !s.phaseLive n then s
    else
      let code := min code 1023
      let prev := s.get (F.PH_ISNS_CODE n)
      let s := s.set (F.PH_ISNS_CODE n) code
      let r := s.get (F.PH_CTRL_RAIL n)
      if !s.part.hasRail r then s
      else
        let s := s.sset (F.PH_ISNS_I n)
          (clampInt (-32768) 32767 (phaseAmps code (s.sget (F.PH_CAL_OFFSET n)) (max 1 (s.get (F.RAIL_SW_ISGAIN r)))))
        let s := s.modPh n fun x => { x with balSum := x.balSum + s.sget (F.PH_ISNS_I n), balN := x.balN + 1 }
        let meets := s.railOn r && !(s.rail r).lowSide && decide (sensed * 10000 ≤ s.vRefU r)
        let s := if meets then (s.rotation r).foldl (fun s k => s.modPh k fun x => { x with tri := x.tri && x.skip })
            (s.modRail r fun x => { x with lowSide := true }) else s
        (s.baseSample r n t).judgeSample r n code prev

/-- CAL_ISNS_CONVERSION (R260, R261): one conversion of a set, in an off-time whose predecessor lasted 400 ns or in a slot of a
tri-stated phase; the sixteenth adopts the set or sets OFS_BAD. -/
def execCalIsnsConversion (n : Fin 16) (code offNs : Nat) (s : State) : Out :=
  freight s fun s =>
    if !s.phaseLive n ∨ (s.ph n).on ∨ !((s.ph n).tri || decide (400 ≤ offNs)) then s
    else
      let x := s.ph n
      let k := x.ofsN + 1
      let sum := x.ofsSum + min code 1023
      if k < 16 then s.modPh n fun x => { x with ofsN := k, ofsSum := sum }
      else
        let s := (s.modPh n fun x => { x with ofsN := 0, ofsSum := 0 }).jobDone 4 n
        let d : Int := (sum : Int) - 8000
        if 320 < d.natAbs then (s.setFlag (F.PH_CAL_OFS_BAD n) true).judgeOffset n
        else
          let o := s.sget (F.PH_CAL_OFFSET n)
          let v := if x.ofsAny then o + roundDiv (d - o) 4 else d
          ((s.sset (F.PH_CAL_OFFSET n) v).setFlag (F.PH_CAL_OFS_BAD n) false).modPh n fun x => { x with ofsAny := true }

/-! ### Light load and balance -/

/-- Phase `k` of rail `r` is to change to a state at the rail's next trigger for light load; the next decision waits for a fresh
average. -/
def State.lightMove (s : State) (r st : Nat) (cause : String) (k : Nat) : State :=
  ((s.modPh k fun x => { x with pend := some st }).modRail r fun x => { x with lightSum := 0, lightN := 0, lightAvg := none }).raise
    (6 + r) cause ("PHASE=" ++ phName k)

/-- LIGHT_LOAD_DECISION (R254, R255): one phase to IDLE, or one back, by the sum of the rail current over 32 rank-0 cycles. -/
def execLightLoadDecision (r : Fin 6) (s : State) : Out :=
  inRun s fun s =>
    let rot := s.rotation r
    if !s.railLive r ∨ !s.railOn r ∨ !s.lightOk r ∨ (s.assigned r).any (fun n => (s.ph n).pend.isSome) then s
    else match (s.rail r).lightAvg with
    | none => s
    | some i32 =>
      let n : Int := rot.length
      if i32 < s.inUse r (F.RAIL_LIGHT_SHED_I r) * 320 * (n - 1) ∧ s.inUse r (F.RAIL_LIGHT_MIN_PH r) + 1 < rot.length then
        match (s.phasesIn r [1]).getLast? with
        | some k => s.lightMove r 2 "LIGHT_SHED" k
        | none => s
      else if s.inUse r (F.RAIL_LIGHT_ADD_I r) * 320 * n < i32 then
        match (s.phasesIn r [2]).head? with
        | some k => s.lightMove r 1 "LIGHT_ADD" k
        | none => s
      else s

/-- The means of the samples of some phases over the balance interval, each times one common factor, and that factor; the factor is
0 where a phase has no sample. -/
def State.balMeans (s : State) (act : List Nat) : List (Nat × Int) × Nat :=
  let all := (act.map fun n => (s.ph n).balN).foldl (· * ·) 1
  (act.map fun n => (n, (s.ph n).balSum * ((all / max 1 (s.ph n).balN : Nat) : Int)), all)

/-- The balance interval ends and the next begins. -/
def State.balNext (s : State) (r : Nat) : State :=
  let ramp := s.rs r == rsRampUp || s.rs r == rsRampDown
  let s := s.modRail r fun x => { x with balCyc := 0, balBad := decide (0 < x.balSkip) || ramp }
  (s.assigned r).foldl (fun s n => s.modPh n fun x => { x with balSum := 0, balN := 0 }) s

/-- BALANCE_INTERVAL (R264): after 64 rank-0 cycles the AUTO trims step, less their mean, limited and pinned. No update is made
where an ACTIVE phase has had no sample. -/
def execBalanceInterval (r : Fin 6) (s : State) : Out :=
  inRun s fun s =>
    let x := s.rail r
    if !s.railLive r ∨ !s.railOn r ∨ x.balCyc < 64 then s
    else
      let act := s.phasesIn r [1]
      let (means, k) := s.balMeans act
      let sum := (means.map Prod.snd).sum
      let len := act.length
      let skip := x.balBad || decide (0 < x.balSkip) || s.rs r == rsRampUp || s.rs r == rsRampDown
      let s := s.balNext r
      if skip ∨ s.inUse r (F.RAIL_BAL_MODE r) ≠ 1 ∨ len < 2 ∨ k = 0 ∨ sum < s.inUse r (F.RAIL_BAL_BAL_MIN r) * 10 * k * len then s
      else
        let db : Int := s.inUse r (F.RAIL_BAL_DB r) * 5 * k * len
        let steps := means.map fun (n, i) =>
          let d := i * len - sum
          (n, s.sget (F.PH_TRIM_TRIM n) + (if db < d then -1 else if d < -db then 1 else 0))
        let mean := roundDiv (steps.map Prod.snd).sum len
        let lim : Int := s.get (F.RAIL_BAL_LIM r)
        steps.foldl (fun s x => s.putTrim x.1 (x.2 - mean) lim) s

/-! ### The reference -/

/-- SYNC_IN reaches a copy of the reference that works (R266, R482). -/
def State.syncLive (s : State) : Bool := s.aon.vioOk && (s.works 3 || s.works 4)

/-- SYNC_IN_EDGE (R247, R249): a rising edge of SYNC_IN; after qualification under MODE EXTERNAL it makes SOURCE EXTERNAL,
and while SOURCE is EXTERNAL it is a reference edge. -/
def execSyncInEdge (s : State) : Out :=
  inRun s fun s =>
    if !s.syncLive then s
    else s.refsDo fun s bp =>
      let s := if s.flag F.SYS_SYNC_MODE && (s.ref bp).qual then s.setSrc bp 1 else s
      if (s.ref bp).src = 1 then (s.refEdge bp).modRef bp fun x => { x with atEdge := x.cnt } else s

/-- SYNC_IN_FALL (R249): a high time above 62.5 % of the period marks the rising edge before it, which becomes count 0. -/
def execSyncInFall (high : Nat) (s : State) : Out :=
  inRun s fun s =>
    if !s.syncLive ∨ high ≤ 625 then s
    else s.refsDo fun s bp =>
      let x := s.ref bp
      if x.src ≠ 1 then s
      else
        let s := s.modRef bp fun x => { x with cnt := (x.cnt + 8 - x.atEdge) % 8, atEdge := 0, anchored := true }
        if x.atEdge = 0 then s else s.guardLocks bp

/-- REFERENCE_EDGE_INTERNAL (R247): an edge of the internal generator, which is the reference unless SOURCE is EXTERNAL. -/
def execReferenceEdgeInternal (s : State) : Out :=
  inRun s fun s => s.refsDo fun s bp => if (s.ref bp).src = 1 then s else s.refEdge bp

/-- SYNC_WINDOW_END (R247, R248): each copy of the reference judges the window. -/
def execSyncWindowEnd (f : Nat) (s : State) : Out :=
  inRun s fun s => if s.syncLive then s.refsDo fun s bp => s.windowRef bp f else s

/-- SYNC_IN_LOST (R247): no edge within 1.25 periods. -/
def execSyncInLost (s : State) : Out := inRun s fun s => s.refsDo State.syncLost

/-- VINS_SAMPLE (R243): V_IN; below 18.000 V a turn-on delay starts again (R278). -/
def execVinsSample (code : Nat) (s : State) : Out :=
  inRun s fun s => (s.refsDo fun s bp => s.modRef bp fun x => { x with vin := min code 1023 }).breakDelays

/-! ### The all-phase response (R246, R285 to R287) -/

/-- Phase `n` in a response: its on-time is continued, or one of the value under R242 is started (R246, R285). A change to IDLE that
waited for a trigger is off. -/
def State.respond (s : State) (r n : Nat) : State :=
  let was := (s.ph n).on
  let s := s.modPh n fun x => { x with resp := true, cont := was, minOk := false, pend := if x.pend = some 2 then none else x.pend }
  if was then s else s.startOn r n

/-- ALL_PHASE_RESPONSE (R285): every ACTIVE, FOLLOWER or IDLE phase starts or continues an on-time. -/
def execAllPhaseResponse (r : Fin 6) (s : State) : Out :=
  inRun s fun s =>
    let x := s.rail r
    if !s.railLive r ∨ !s.flag (F.RAIL_NL_NL_EN r) ∨ !(s.rs r == rsOn || s.rs r == rsMoving) ∨ x.resp then s
    else
      let old := s.rotation r
      let s := (s.phasesIn r [2]).foldl (fun s n => s.set (F.PH_STATUS_STATE n) 1) s
      let s := ((s.rotated r old).holdLoop r).bump (F.RAIL_STATUS_NL_COUNT r)
      let s := (s.rotation r).foldl (fun s n => s.respond r n) s
      let s := s.modRail r fun x => { x with
        resp := true, respBack := false, last := none, held := false, passed := 0, lockHold := 16, lockGuard := 1024, respAt := (s.ticks :: x.respAt).take 16 }
      if 16 ≤ ((s.rail r).respAt.filter fun t => s.ticks < t + 1024).length then
        (if s.causePresent r 3 then s else s.raise r "NL_BURST")
      else s

/-- An on-time of the response that ends `ns` after the crossing: ONTIME, and the end. One that the response only continued began
earlier, no command says when: its length is a free value between `ns` and NL_MAXON. -/
def State.endResp (s : State) (r ns n : Nat) : State :=
  let x := s.ph n
  let (more, s) := if x.cont then s.drawBelow (s.get (F.RAIL_NL_NL_MAXON r) - ns + 1) else (0, s)
  (s.putWidth r n (ns + more)).endOn n

/-- RESPONSE_ON_TIME_END (R286): `ns` after the crossing, the sense having come back to V_REF − NL_THR/2 or not. An on-time ends
then if the sense has come back and its value under R242 has passed, and at NL_MAXON whatever holds; NL_LAST is the time of the
return. A setting of NL_MAXON below the value of R242 ends the on-time first (assumption 70). -/
def execResponseOnTimeEnd (r : Fin 6) (ns : Nat) (back : Bool) (s : State) : Out :=
  inRun s fun s =>
    let x := s.rail r
    if !x.resp then s
    else
      let s := if back && !x.respBack then
          (s.modRail r fun x => { x with respBack := true }).set (F.RAIL_STATUS_NL_LAST r) (satNat 1023 (ns / 4))
        else s
      let done (n : Nat) : Bool := (s.ph n).resp && (decide (s.get (F.RAIL_NL_NL_MAXON r) ≤ ns) ||
        ((s.rail r).respBack && ((s.ph n).minOk || (!(s.ph n).cont && decide (s.get (F.PH_STATUS_ONTIME n) ≤ ns)))))
      (((s.assigned r).filter done).foldl (fun s n => s.endResp r ns n) s).rearm r

/-! ### Anticipation (R289) -/

/-- T_pre in ns for a current of `uA` shared by `n` phases. -/
def State.tPre (s : State) (r uA n : Nat) : Nat :=
  let dv := s.vIn r - s.get (F.RAIL_STATUS_VCMD r)
  let hi := s.get (F.RAIL_NL_NL_MAXON r)
  if dv = 0 ∨ n = 0 then hi else min hi (roundNat (s.get (F.RAIL_ANT_LPH r) * uA) (100 * n * dv))

/-- The boost current of the next pulse of group `g` that is fixed, in µA: none without an intact report of its line (R290). -/
def State.boostOf (s : State) (r g : Nat) : Nat :=
  match (s.head r).fixed.find? fun p => p.group == g with
  | some p => match (s.rail r).boosts.find? fun b => b.1 == p.line % 65536 with
    | some b => b.2.getD g 0
    | none => 0
  | none => 0

/-- BOOST_START (R289): every phase in rotation gets a boost on-time, or its on-time grows by T_pre. A boost is no trigger.
The first boost of a line lies after the line's start, its LINE_GO being fixed: followers have left by then (R313, R503). -/
def execBoostStart (r : Fin 6) (g : Fin 4) (s : State) : Out :=
  inRun s fun s =>
    if !s.railLive r ∨ !s.flag (F.RAIL_ANT_ANT_EN r) ∨ !(s.rs r == rsOn || s.rs r == rsMoving) then s
    else
      let uA := s.boostOf r g
      let s := if uA ≠ 0 ∧ g = 0 then s.railLine r else s
      if uA = 0 then s
      else
        let rot := s.rotation r
        let t := s.tPre r uA rot.length
        rot.foldl (fun s n =>
          let was := (s.ph n).on
          let s := s.putWidth r n (t + if was then s.get (F.PH_STATUS_ONTIME n) else 0)
          if was then s
          else ((s.modPh n fun x => { x with on := true, tri := false, elig := false }).adopt n).openBlank (1 + n)) s

/-! ### Comparators on a phase (R299 to R301, R305) -/

/-- Phase `n` switches, one that finishes its last on-time after leaving the rotation set too, and its current is trusted (R256,
R300, R301). -/
def State.guarded (s : State) (n : Nat) : Bool :=
  let r := s.get (F.PH_CTRL_RAIL n)
  s.phaseLive n && s.part.hasRail r && s.railOn r && s.phState n != 3 && (s.phState n == 1 || (s.ph n).on)

/-- PHASE_LIMIT_TRIP (R299): the on-time ends at I_PH; how long it was is not said, so ONTIME takes a free value up to its
width. -/
def execPhaseLimitTrip (n : Fin 16) (s : State) : Out :=
  inRun s fun s =>
    if !s.guarded n ∨ !(s.ph n).on then s
    else
      let r := s.get (F.PH_CTRL_RAIL n)
      let w := s.get (F.PH_STATUS_ONTIME n)
      let (t, s) := s.drawBelow ((if (s.ph n).resp then max w (s.get (F.RAIL_NL_NL_MAXON r)) else w) + 1)
      let s := ((s.putWidth r n t).endOn n).modPh n fun x => { x with limited := true }
      s.modRail r fun x => { x with lim := true }

/-- PHASE_SHORT_TRIP (R300, R305): the phase is tri-stated and skips its next trigger; on a page rail the rail-level short
comes before the phase-level one, which waits for the end of the rank-0 cycle where the rail condition can still be met in it. -/
def execPhaseShortTrip (n : Fin 16) (s : State) : Out :=
  inRun s fun s =>
    if !s.guarded n then s
    else
      let r := s.get (F.PH_CTRL_RAIL n)
      let s := if (s.ph n).on then s.endOn n else s
      let s := (s.bump (F.PH_PROT_SC_TRIPS n)).modPh n fun x => { x with
        tri := true, skip := true, tripped := true, trips := if x.tripped then x.trips else x.trips + 1 }
      let s := s.modRail r fun x => { x with lim := true, tripSet := Nat.lor x.tripSet (2 ^ n.val) }
      if s.hiccups r then s
      else if 3 ≤ (s.rail r).tripRun ∧ s.tripsHalf r then s.trip r "SHORT" ""
      else if 4 ≤ (s.ph n).trips ∧ (s.rail r).tripRun < 3 then s.judgeShort r n
      else s

/-! ### Active discharge (R227) -/

/-- The rail of phase `n` is in active discharge. -/
def State.discharging (s : State) (n : Nat) : Bool :=
  match (s.rail (s.get (F.PH_CTRL_RAIL n))).fall with
  | some f => f.stage == 3
  | none => false

/-- DISCHARGE_SINK_LIMIT (R227): the low side opens at a quarter of the phase's share. -/
def execDischargeSinkLimit (n : Fin 16) (s : State) : Out := inRun s fun s => s.modPh n fun x => { x with sink := false }

/-- DISCHARGE_RESTART (R227): the current has decayed and the low side closes again. -/
def execDischargeRestart (n : Fin 16) (s : State) : Out :=
  inRun s fun s => if s.phaseLive n && s.discharging n then s.modPh n fun x => { x with sink := true } else s

end Sys2Proof.Machine
end

