-- ==== Sys2Proof/Machine/Rails.lean ====
section
/-! DEFINITION. The commands of a rail's course (10_rail_targets), of its protection (11_rail_protection) and of its fall
(R224, R226). -/

namespace Sys2Proof.Machine

/-! ### Turning on and moving (R278 to R284) -/

/-- A rail of the part whose partition works, in a state. -/
def State.railIn (s : State) (r st : Nat) : Bool := s.railLive r && s.rs r == st

/-- RAIL_WAIT_READY (R278): dependencies, GOOD and V_IN hold together. -/
def execRailWaitReady (r : Fin 6) (s : State) : Out := inRun s fun s => if s.railLive r then s.passWaiting r else s

/-- ON_DELAY_END (R278). -/
def execOnDelayEnd (r : Fin 6) (s : State) : Out :=
  inRun s fun s =>
    match (s.rail r).dlyAt with
    | some t => if s.railIn r rsOnDelay then (s.reach t).rampUp r else s
    | none => s

/-- OFF_DELAY_END (R280). -/
def execOffDelayEnd (r : Fin 6) (s : State) : Out :=
  inRun s fun s =>
    match (s.rail r).dlyAt with
    | some t => if s.railIn r rsOffDelay then (s.reach t).rampDown r else s
    | none => s

/-- VCMD_STEP (R279): one step of 1 mV; the last raises TARGET_REACHED (R284), or ends a ramp down (R280). -/
def execVcmdStep (r : Fin 6) (s : State) : Out :=
  inRun s fun s =>
    let st := s.rs r
    let v := s.get (F.RAIL_STATUS_VCMD r)
    let goal := (s.rail r).vEnd
    if !s.railLive r then s
    else if st = rsRampUp ∨ st = rsMoving then
      if v = goal then s
      else
        let w := if v < goal then v + 1 else v - 1
        let s := s.set (F.RAIL_STATUS_VCMD r) w
        if w = goal then s.targetReached r else s
    else if st = rsRampDown then
      if v ≤ goal + 1 then (s.set (F.RAIL_STATUS_VCMD r) (min v goal)).fallNow r
      else s.set (F.RAIL_STATUS_VCMD r) (v - 1)
    else s

/-! ### Hiccup and overload (R302 to R304) -/

/-- HICCUP_OFF_END (R302): the rail leaves OFF for WAITING. -/
def execHiccupOffEnd (r : Fin 6) (s : State) : Out :=
  inRun s fun s =>
    match (s.rail r).hicAt with
    | some t =>
      if s.railIn r rsOff ∧ s.enabled r then
        let s := (s.reach t).setFlag (F.RAIL_PSTAT_HICCUP r) false
        (((s.modRail r fun x => { x with hicAt := none }).startPhases r).setRs r rsWaiting).noPhase r
      else s
    | none => s

/-- HICCUP_COUNT_RESET (R302): ON for 32,768 ticks without a limited rank-0 cycle. -/
def execHiccupCountReset (r : Fin 6) (s : State) : Out :=
  inRun s fun s =>
    match (s.rail r).cleanFrom with
    | some t =>
      if s.railIn r rsOn ∧ s.get (F.RAIL_PSTAT_HICCUPS r) ≠ 0 then
        ((s.reach (t + 32768)).set (F.RAIL_PSTAT_HICCUPS r) 0).clear r "HICCUP"
      else s
    | none => s

/-- OVERLOAD_TIMER_EXPIRY (R304). -/
def execOverloadTimerExpiry (r : Fin 6) (s : State) : Out :=
  inRun s fun s =>
    match (s.rail r).ovlAt with
    | some t => if s.railLive r then (s.reach t).trip r "OVERLOAD_OFF" "BY=TIMER" else s
    | none => s

/-! ### Over-voltage and temperature (R308, R309) -/

/-- V_OV in 0.01 mV (R308, R310). -/
def State.vOv (s : State) (r : Nat) : Nat :=
  min 600000 (max (s.get (F.RAIL_STATUS_VCMD r)) (s.vSetm r).toNat * (100 + s.get (F.RAIL_PROT_OV_PCT r)))

/-- OVERVOLT_TRIP (R308). -/
def execOvervoltTrip (r : Fin 6) (mV : Nat) (s : State) : Out :=
  inRun s fun s =>
    let st := s.rs r
    let armed := st == rsOn || st == rsMoving || st == rsOffDelay || (st == rsRampUp && (s.rail r).lowSide)
    if s.railLive r ∧ armed ∧ s.vOv r ≤ mV * 100 then s.trip r "OVERVOLT" ("V=" ++ vOut s.compat mV) none else s

/-- A temperature of a TSNS voltage in °C (R309). -/
def tsnsTemp (mV : Nat) : Int := roundDiv ((mV : Int) - 600) 8

/-- TSNS_CONVERSION (R309): TEMP, and the four thresholds of a rail whose EN is 1. -/
def execTsnsConversion (r : Fin 6) (mV : Nat) (s : State) : Out :=
  inRun s fun s =>
    if !s.railLive r then s
    else
      let t := tsnsTemp mV
      let warn : Int := s.get (F.RAIL_PROT_OT_WARN r)
      let shut : Int := s.get (F.RAIL_PROT_OT_SHUT r)
      let s := s.set (F.RAIL_PSTAT_TEMP r) (clampInt 0 255 (t + 40)).toNat
      if 1800 ≤ mV then s
      else
        let s := (s.setFlag (F.RAIL_PSTAT_STAGE_FAULT r) false).clear r "STAGE_FAULT"
        let s := if t < warn - 10 then s.clear r "OT_SHUT" else s
        if !s.enabled r then s
        else
          let open_ := decide (mV < 360)
          let s := s.modRail r fun x => { x with
            warnRun := (if warn ≤ t then satNat 2 (x.warnRun + 1) else 0), coolRun := (if t < warn - 10 then satNat 2 (x.coolRun + 1) else 0),
            shutRun := (if shut ≤ t then satNat 2 (x.shutRun + 1) else 0), openRun := (if open_ then satNat 4 (x.openRun + 1) else 0),
            closeRun := (if open_ then 0 else satNat 4 (x.closeRun + 1)) }
          let x := s.rail r
          let isOpen := s.flag (F.RAIL_PSTAT_TSNS_OPEN r)
          let s := if 4 ≤ x.openRun ∧ !isOpen then (s.setFlag (F.RAIL_PSTAT_TSNS_OPEN r) true).raise r "TSNS_OPEN"
            else if 4 ≤ x.closeRun ∧ isOpen then (s.setFlag (F.RAIL_PSTAT_TSNS_OPEN r) false).clear r "TSNS_OPEN" else s
          if s.flag (F.RAIL_PSTAT_TSNS_OPEN r) then s
          else
            let act := s.flag (F.RAIL_PSTAT_OT_WARN_ACT r)
            let s := if 2 ≤ x.warnRun ∧ !act then
                (s.setFlag (F.RAIL_PSTAT_OT_WARN_ACT r) true).raise r "OT_WARN" ("TEMP=" ++ tOut s.compat t) none
              else if 2 ≤ x.coolRun ∧ act then (s.setFlag (F.RAIL_PSTAT_OT_WARN_ACT r) false).clear r "OT_WARN" else s
            if 2 ≤ x.shutRun then s.trip r "OT_SHUT" ("TEMP=" ++ tOut s.compat t) none else s

/-- TSNS_FAULT_TRIP (R309): the comparator at 1.800 V. -/
def execTsnsFaultTrip (r : Fin 6) (s : State) : Out :=
  inRun s fun s =>
    if s.railLive r ∧ s.enabled r then (s.setFlag (F.RAIL_PSTAT_STAGE_FAULT r) true).trip r "STAGE_FAULT" "" else s

/-! ### The fall of a rail (R224, R226, R229) -/

/-- FALL_T1_EXPIRY (R224): the rail has not fallen. STUCK_HIGH, the pull of SIGNAL_N for SIG_PULSE, active discharge. -/
def execFallT1Expiry (r : Fin 6) (s : State) : Out :=
  inRun s fun s =>
    match (s.rail r).fall with
    | some f =>
      match f.stage, f.till with
      | 2, some t =>
        let s := (s.reach t).raiseFall r f "STUCK_HIGH" "FELL=0" 0 r
        let s := { s.sigBy 2 true with tt := { s.tt with sigPulseAt := some (s.ticks + s.get F.TT_CTRL_SIG_PULSE) } }
        let s := (s.assigned r).foldl (fun s n => s.modPh n fun x => { x with sink := true }) s
        s.modRail r fun x => { x with fall := some { f with stage := 3, till := some (s.ticks + f.t2) } }
      | _, _ => s
    | none => s

/-- FALL_T2_EXPIRY (R224): discharge stops, and the rail stays STUCK_HIGH. -/
def execFallT2Expiry (r : Fin 6) (s : State) : Out :=
  inRun s fun s =>
    match (s.rail r).fall with
    | some f =>
      match f.stage, f.till with
      | 3, some t => (s.reach t).endFall r
      | _, _ => s
    | none => s

/-- DISABLE_DEPENDENT_WAIT_END (R226): the shed dependents have fallen, or T1 has run; the rail's own turn-off starts. -/
def execDisableDependentWaitEnd (r : Fin 6) (s : State) : Out :=
  inRun s fun s =>
    match (s.rail r).fall with
    | some f =>
      match f.stage, f.till with
      | 0, some t =>
        ((if f.deps = 0 then s else s.reach t).ownTurnOff r false).rodCheck
      | _, _ => s
    | none => s

/-- SIG_PULSE_END (R229): the pull that STUCK_HIGH asked for ends. -/
def execSigPulseEnd (s : State) : Out :=
  inRun s fun s =>
    match s.tt.sigPulseAt with
    | some t => let s := (s.reach t).sigBy 2 false; { s with tt := { s.tt with sigPulseAt := none } }
    | none => s

end Sys2Proof.Machine
end

