-- ==== Sys2Proof/Machine/SelfTest.lean ====
section
/-! DEFINITION. The commands of the self-test (15_self_test): the check of the conditions, the terminal count, starts and
aborts by register, and the verb BIST. -/

namespace Sys2Proof.Machine

/-! ### The check (R425 to R428, R430) -/

/-- An on-demand test that waits is refused: its result, its event or its line (R431, R437). -/
def State.testRefused (s : State) (r : BistRun) (code : Nat) (name why : String) : State :=
  let s := (s.setTest none).setResult r.bp 5 0 0 0#32 false
  match r.how with
  | .register => s.raise 56 "REFUSED" ("BP=" ++ bpName r.bp ++ " REASON=" ++ why) none
  | _ => s.testDone r.how (s.finNo code name why)

/-- A test that waits meets a check that fails: on demand it is refused; in the power-up run 4 more ticks of waiting (R427,
R430). -/
def State.testOut (s : State) (r : BistRun) : State :=
  match r.how with
  | .powerup =>
    { s.set F.BIST_COND_PWAIT (satNat 8191 (s.get F.BIST_COND_PWAIT + 4)) with
      bist := { s.bist with cold := s.bist.cold || !s.bist.checked, checked := true } }
  | _ => s.testRefused r 22 "REFUSED" "OUT-OF-CONDITION"

/-- BIST_COND_CHECK (R425): made for a test that waits or runs; an on-demand one waits for RUN_LVL first (R426). A partition that
has become live while its test waits is not tested, for no test may change an outcome (R25, R432; assumption 71). -/
def execBistCondCheck (osc : Nat) (s : State) : Out :=
  anyDev s fun s =>
    match s.bist.run with
    | none => s
    | some r =>
      if (s.dev ≠ .selftest ∧ s.dev ≠ .run) ∨ (!r.running ∧ !r.how.isPowerup ∧ s.core.stby) then s
      else
        let ok := s.bistCond osc
        let live := !r.running && !r.how.isPowerup && s.bistLive r.bp
        let s := (s.set F.BIST_COND_OSC_COUNT (satNat 65535 osc)).setFlag F.BIST_COND_COND_OK ok
        if live then s.testRefused r 20 "STATE" "LIVE"
        else if ok then (if r.running then s else { s with bist := { s.bist with checked := true } }.testBegin r)
        else if !r.running then s.testOut r
        else if r.how.isPowerup then (s.setTest (some { r with running := false })).set (F.BIST_RES_RESULT r.bp) 0
        else s.cutTest 0

/-! ### The terminal count (R423, R427, R429, R434) -/

/-- A passed test: PASSED, its event, its release unless the partition stays FAILED, its line. -/
def State.testPass (s : State) (r : BistRun) (sig : Word) : State :=
  let p := bistP r.bp
  let s := (s.setTest none).setResult r.bp 1 0 p sig r.how.isPowerup
  let s := s.raise 56 "PASS" ("BP=" ++ bpName r.bp ++ " PATTERNS=" ++ dec p) (some p)
  let s := if r.how.isPowerup ∨ s.failed r.bp then s else s.testRelease r.bp
  s.testDone r.how .ok

/-- A failed test: the partition is held FAILED. -/
def State.testFail (s : State) (r : BistRun) (sig : Word) : State :=
  let was := s.failed r.bp
  let s := if was then s else s.freeze r.bp
  let s := ((s.setTest none).setResult r.bp 2 0 (bistP r.bp) sig r.how.isPowerup).setBit F.BIST_SUM_FAILED r.bp true
  let s := s.raiseAs 56 "FAIL" (if r.bp = 0 then .bufferStop else .caution) true
    ("BP=" ++ bpName r.bp ++ " SIG=" ++ hexWord sig) (some sig.toNat) r.bp
  let s := if r.how.isPowerup ∨ was then s else s.testFailed r.bp
  s.testDone r.how (s.finNo 21 "FAILED" (bpName r.bp))

/-- The power-up run goes on: the next partition under the same conditions, or entry to RUN after BP9. A failed BP0 is
granted at once and ends it in BUFFER-STOP (R429). -/
def State.nextTest (s : State) (bp : Nat) : State :=
  if bp = 0 ∧ s.failed 0 then
    match s.nextCause with
    | some c => s.grant c
    | none => s
  else if bp = 9 then s.enterRun
  else s.testBegin { bp := bp + 1, how := .powerup }

/-- BIST_TERMINAL_COUNT (R423). -/
def execBistTerminalCount (sig : Word) (s : State) : Out :=
  anyDev s fun s =>
    match s.bist.run with
    | none => s
    | some r =>
      if !r.running ∨ (s.dev ≠ .selftest ∧ s.dev ≠ .run) then s
      else
        let t := if sig = bistExp s.rev r.bp then s.testPass r sig else s.testFail r sig
        if r.how.isPowerup then t.nextTest r.bp else t

/-! ### Starts and aborts by register (R431, R433, R438) -/

/-- START written 1 (R431): a refusal leaves the bit 0 and is reported by its event. -/
def State.bistStart (s : State) : State :=
  let bp := s.get F.BIST_CTRL_SEL
  match s.bistRefusal bp with
  | some (_, _, d) => s.raise 56 "REFUSED" ("BP=" ++ bpName bp ++ " REASON=" ++ d) none
  | none => s.testQueue bp .register

/-- BIST_START_REQUEST (R431). -/
def execBistStartRequest (s : State) : Out := inRun s State.bistStart

/-- The test queued or running is that of partition `bp`. -/
def State.testOf (s : State) (bp : Nat) : Bool := match s.bist.run with | some r => r.bp == bp | none => false

/-- ABORT written 1 (R433): it acts on the test of SEL. -/
def State.bistAbort (s : State) : State := if s.testOf (s.get F.BIST_CTRL_SEL) then s.cutTest 2 else s

/-- BIST_ABORT_REQUEST (R433). -/
def execBistAbortRequest (s : State) : Out := inRun s State.bistAbort

/-! ### BIST (R431, R439) -/

/-- The form of a BIST line by its words; any line of no other form is a start. -/
def bistForm (l : Line) : String :=
  if l.toks.any fun t => (cutEq t.toList).map (String.ofList ·.1) = some "PWRUP" then "PWRUP"
  else if (restToks l).contains "ABORT" then "ABORT" else "START"

/-- BIST_CMD (R431, R439). -/
def execBistCmd (p : PortId) (l : Line) (s : State) : Out :=
  verbRow .bist false (fun l => bistForm l == "START") p l s fun s => do
    let bp ← objBp l
    noArgs (restToks l)
    match s.bistRefusal bp with
    | some (c, n, d) => throw (.no c n d)
    | none => pure (s.testQueue bp (.line (owe p l (bpName bp))), .queued)

/-- BIST_ABORT_CMD (R433, R439). -/
def execBistAbortCmd (p : PortId) (l : Line) (s : State) : Out :=
  verbRow .bist false (fun l => bistForm l == "ABORT") p l s fun s => do
    let bp ← objBp l
    noArgs ((restToks l).erase "ABORT")
    if !s.testOf bp then throw (.state "IDLE")
    let s := s.cutTest 2
    pure (s, .ok (bpName bp ++ " PATTERNS=" ++ dec (s.get (F.BIST_RES_PATTERNS bp))))

/-- BIST_PWRUP_CMD (R439). -/
def execBistPwrupCmd (p : PortId) (l : Line) (s : State) : Out :=
  verbRow .bist false (fun l => bistForm l == "PWRUP") p l s fun s => do
    let a ← parseArgs s.compat [("PWRUP", .switch)] l.toks
    let s := s.setArg F.BIST_CTRL_PWRUP (a.nat "PWRUP")
    pure (s, .ok ("PWRUP=" ++ onOut (s.flag F.BIST_CTRL_PWRUP)))

/-- Names of the results. -/
def resultName (k : Nat) : String := ["NOT_RUN", "PASS", "FAIL", "INCOMPLETE", "RUNNING", "REFUSED"].getD k "?"

/-- BIST_QUERY (R439). -/
def execBistQuery (p : PortId) (l : Line) (s : State) : Out :=
  verbRow .bist true anyForm p l s fun s => do
    let c := s.compat
    if l.toks.isEmpty then
      pure (s, .ok (fieldsOut
        [("PWRUP", onOut (s.flag F.BIST_CTRL_PWRUP)), ("STATE", match s.bist.run with | some r => bpName r.bp | none => "IDLE"),
         ("FAILED", listOut ((bitsSet (s.get F.BIST_SUM_FAILED) 10).map bpName)),
         ("OSC", fOut c (s.get F.BIST_COND_OSC_COUNT * 8192 : Nat)), ("COND", if s.flag F.BIST_COND_COND_OK then "OK" else "OUT"),
         ("PWAIT", tkOut c (s.get F.BIST_COND_PWAIT))]))
    else do
      let bp ← objBp l
      noArgs (restToks l)
      let res := s.get (F.BIST_RES_RESULT bp)
      pure (s, .ok (bpName bp ++ " " ++ fieldsOut
        [("RESULT", resultName res), ("SOURCE", if s.flag (F.BIST_RES_POWERUP bp) then "POWERUP" else "DEMAND"),
         ("PATTERNS", dec (s.get (F.BIST_RES_PATTERNS bp))), ("TOTAL", dec (bistP bp)),
         ("SIG", hexWord (s.word (Reg.addr (.BIST_SIG bp)))), ("EXPECT", hexWord (bistExp s.rev bp)),
         ("REASON", if res = 3 then cutName (s.get (F.BIST_RES_REASON bp)) else "NONE"), ("FAILED", bitOut (s.failed bp)),
         ("LIVE", match s.bistRefusal bp with | some (_, _, d) => d | none => "NONE")]))

end Sys2Proof.Machine
end

