-- ==== Sys2Proof/Machine/Timetables.lean ====
section
/-! DEFINITION. The commands of the timetable executor (08_timetables): starts and stops, the steps, waits and checks, and
the verbs START, STOP, TT and DEPENDS. -/

namespace Sys2Proof.Machine

/-! ### Starts and stops (R205, R206, R211, R233, R236) -/

/-- TT_START (R205, R405): a start that a route has asked for. -/
def execTtStart (tt : Fin 8) (src : StartSrc) (s : State) : Out :=
  inRun s fun s =>
    if (tt.val, src) ∈ s.tt.asked then
      { s with tt := { s.tt with asked := s.tt.asked.erase (tt.val, src) } }.ttRequest tt src
    else s

/-- TT_PENDING_START (R205): the running timetable has ended. -/
def execTtPendingStart (s : State) : Out :=
  inRun s fun s =>
    match s.tt.run, s.tt.pend with
    | none, some x =>
      if s.failed 2 then s else ((s.setPend none).ttBegin x.tt x.src).doneOpt x.owed .ok
    | _, _ => s

/-- AUTOBOOT_START (R211): after every cause held before RUN has been granted. -/
def execAutobootStart (s : State) : Out :=
  inRun s fun s =>
    if !s.tt.bootPend ∨ s.flt.causes.any (·.epoch == 0) then s
    else
      let s := { s with tt := { s.tt with bootPend := false } }
      if s.flag F.TT_CTRL_AUTOBOOT ∧ s.ttValid 0 then s.ttRequest 0 .boot else s

/-- TTn stopped as STOP does: abandoned, or taken out of the pending slot; TT4 is never stopped. -/
def State.ttStop (s : State) (n : Nat) : State :=
  if n = 4 then s
  else if s.ttRuns n then s.ttAbandon "STOP"
  else match s.tt.pend with
  | some x => if x.tt = n then s.ttUnpend "STOPPED" else s
  | none => s

/-- TT_CTRL_START (R236): START written 1. -/
def execTtCtrlStart (s : State) : Out := inRun s fun s => s.ttRequest (s.get F.TT_CTRL_SEL) .reg

/-- TT_CTRL_STOP (R236): STOP written 1. -/
def execTtCtrlStop (s : State) : Out := inRun s fun s => if s.failed 2 then s else s.ttStop (s.get F.TT_CTRL_SEL)

/-- A timetable's name. -/
def ttName (n : Nat) : String := "TT" ++ dec n

/-- START_CMD (R233): a start refused for a running TT4 or a failed BP2 raises its event all the same (R205, R206, R210). -/
def execStartCmd (p : PortId) (l : Line) (s : State) : Out :=
  verbRow .start false anyForm p l s fun s => do
    let n ← objTt l
    noArgs (restToks l)
    if s.failed 2 then pure (s.ttRequest n .cmd, .failed 2)
    else if s.ttRuns 4 then pure (s.ttRequest n .cmd, .state (if n = 4 then "RUNNING" else "FAULT"))
    else if s.committing n then throw (retry 1)
    else if !s.ttValid n then throw (.no 26 "DATA" "INVALID")
    else if s.tt.run.isNone then pure (s.ttRequest n .cmd, .ok (ttName n))
    else if n = 4 then pure (s.ttRequest n .cmd, .queuedDone (owe p l (ttName n)))
    else pure (s.ttRequest n .cmd (some (owe p l (ttName n))), .queued)

/-- STOP_CMD (R233). -/
def execStopCmd (p : PortId) (l : Line) (s : State) : Out :=
  verbRow .stop false anyForm p l s fun s => do
    let n ← objTt l
    noArgs (restToks l)
    s.serves 2
    if n = 4 then throw (.refused "FAULT")
    if !(s.ttRuns n || (match s.tt.pend with | some x => x.tt == n | none => false)) then throw (.state "IDLE")
    pure (s.ttStop n, .ok (ttName n))

/-! ### Steps (R199 to R203) -/

/-- The step in progress, where the executor may take one with a given opcode. -/
def State.ttStep (s : State) (op : Nat) (f : TtRun → Word → State) : State :=
  match s.tt.run with
  | some r =>
    let w := s.ttStepWord r.tt r.step
    if r.wait = .ready ∧ !s.failed 2 ∧ stepOp w = op then f r w else s
  | none => s

/-- A step that writes to a rail: absent rails are skipped, a partition under test is waited for (R199, R208, R436), and
a failed one takes no write (R474). -/
def State.railStep (s : State) (r : Nat) (f : State → State) : State :=
  if !s.part.hasRail r then s.ttNext
  else if s.underTest (railBp r) then s
  else if s.failed (railBp r) then s.ttNext
  else f s

/-- The signal line pulled, or released, by a step (R228, R229). -/
def State.pullStep (s : State) (r : TtRun) (b : Bool) : State := ((s.sigBy 1 b).setRun (some { r with pull := b })).ttNext

/-- TT_STEP_ENABLE (R200, R214, R216, R228). -/
def execTtStepEnable (s : State) : Out :=
  inRun s fun s =>
    s.ttStep 0 fun r w =>
      match bitsOf w 24 4 with
      | 6 => if s.underTest 4 then s else (s.relayRequest { set := true, why := .step }).ttWait .relay
      | 7 => s.pullStep r true
      | t => s.railStep t fun s => (if s.bit F.TT_STATUS_SHED t then s else s.turnOn t).ttNext

/-- A DISABLE step of a rail (R224, R280): the end of the fall procedure completes it. -/
def State.disableStep (s : State) (r : TtRun) (q : Nat) (w : Word) : State :=
  (s.ttWait (.fall q)).disableRail q (bitsOf w 8 8 * 64) (bitsOf w 0 8 * 64) (some (r.tt, r.step))

/-- TT_STEP_DISABLE (R200, R224, R228); a refused opening of the relay does not stop the timetable (R155). -/
def execTtStepDisable (s : State) : Out :=
  inRun s fun s =>
    s.ttStep 1 fun r w =>
      match bitsOf w 24 4 with
      | 6 =>
        if s.underTest 4 then s
        else match s.relayRefusal with
        | some why => (s.relayRefused why).ttNext
        | none => (s.relayRequest { set := false, why := .step }).ttWait .relay
      | 7 => s.pullStep r false
      | t => s.railStep t fun s => s.disableStep r t w

/-- The tick at which M × 2^E ticks end. -/
def State.ttTill (s : State) (m e : Nat) : Nat := s.ticks + m * 2 ^ e

/-- TT_STEP_WAIT (R201): a condition with M 0 has no timeout; an event source that is absent skips the step. -/
def execTtStepWait (s : State) : Out :=
  inRun s fun s =>
    s.ttStep 2 fun _ w =>
      let cond := bitsOf w 24 4
      let ev := bitsOf w 18 6
      let m := bitsOf w 0 12
      if cond = 7 ∧ sourceAbsent s.part ev then s.ttNext
      else s.ttWait (.wait cond ev (bitsOf w 16 2) (if cond ≠ 0 ∧ m = 0 then none else some (s.ttTill m (bitsOf w 12 4))))

/-- TT_STEP_CHECK (R202, R218). -/
def execTtStepCheck (s : State) : Out :=
  inRun s fun s =>
    s.ttStep 3 fun _ w =>
      let kind := bitsOf w 27 1
      let idx := bitsOf w 22 5
      if (kind = 0 ∧ !s.part.hasRail idx) ∨ (kind = 1 ∧ s.part.mons ≤ idx) then s.ttNext
      else s.ttWait (.check kind idx (bitsOf w 20 2) (bitsOf w 17 3) (bitsOf w 14 3) 0 (s.ttTill (bitsOf w 0 10) (bitsOf w 10 4))
        s.ticks (s.checkGood kind idx))

/-- TT_STEP_JUMP (R203, R221). -/
def execTtStepJump (s : State) : Out :=
  inRun s fun s =>
    s.ttStep 4 fun r w =>
      let fail := s.flag F.TT_STATUS_LAST_FAIL
      let holds : Bool := match bitsOf w 26 2 with | 0 => true | 1 => !fail | 2 => fail | _ => false
      let lim := bitsOf w 18 8
      let taken := Tab.get (fun _ => 0) r.jumps r.step
      if holds ∧ (lim = 0 ∨ taken < lim) then
        s.setRun (some { r with step := bitsOf w 0 9, jumps := Tab.put (fun _ => 0) r.jumps r.step (taken + 1) })
      else s.ttNext

/-- A write of MARGIN that R275 allows: none where it does not. -/
def State.marginSet (s : State) (r : Nat) (v : Int) : Option State :=
  let t := s.sset (F.RAIL_TARGET_MARGIN r) v
  if t.regOk (.RAIL_TARGET r) then some (s.keepUse t r (Reg.addr (.RAIL_TARGET r))) else none

/-- TT_STEP_MARGIN (R203, R222, R282). -/
def execTtStepMargin (s : State) : Out :=
  inRun s fun s =>
    s.ttStep 5 fun _ w =>
      let q := bitsOf w 24 4
      s.railStep q fun s =>
        match s.marginSet q (signedOf 8 (bitsOf w 0 8)) with
        | none => s.ttNext
        | some t =>
          let slew := t.get (F.RAIL_RAMP_MOVE_SLEW q)
          let moves := t.rs q = rsOn ∨ t.rs q = rsMoving ∨ t.rs q = rsRampUp
          if bitsOf w 8 1 = 1 ∧ moves then ((t.supersede q).ttWait (.margin q)).move q slew
          else (t.move q slew).ttNext

/-- TT_STEP_MARK (R223). -/
def execTtStepMark (s : State) : Out :=
  inRun s fun s =>
    s.ttStep 6 fun r w =>
      let code := bitsOf w 0 16
      let byte (n : Nat) : Byte := BitVec.ofNat 8 n
      let s := (s.pushLog { typ := 2, src := 60, tick := s.stamp, cls := 0,
                            payload := [byte r.tt, byte (r.step / 256), byte r.step, byte (code / 256), byte code, 0#8] }).startJob
      let s := ((s.set F.TT_MARK_CODE code).set F.TT_MARK_TT r.tt).set F.TT_MARK_STEP r.step
      let s := s.setFlag F.TT_MARK_SEEN true
      { s with tt := { s.tt with marks := Tab.put (fun _ => none) s.tt.marks r.tt (some code) } }.ttNext

/-- TT_STEP_HALT (R209): the number its record carries is the exit code, which R209 has logged (assumption 50). -/
def execTtStepHalt (s : State) : Out :=
  inRun s fun s => s.ttStep 7 fun r w =>
    let e := bitsOf w 0 8
    s.ttEnd.raise 60 "HALT" (numField "TT" (some r.tt) ++ " " ++ exitField e) (some e)

/-! ### Waits and checks (R218 to R220) -/

/-- A WAIT condition holds. -/
def State.condHolds (s : State) (cond ev : Nat) : Bool :=
  match cond with
  | 1 => s.sigLevel
  | 2 => !s.sigLevel
  | 3 => s.flag F.BR_STATUS_MAINS_Q
  | 4 => !s.flag F.BR_STATUS_MAINS_OK
  | 5 => s.flag F.RES_STATUS_FULL
  | 6 => s.claims == 0
  | 7 => s.srcPresent ev
  | _ => false

/-- WAIT_COND_MET (R220). -/
def execWaitCondMet (s : State) : Out :=
  inRun s fun s =>
    match s.tt.run with
    | some { wait := .wait cond ev _ _, .. } => if s.condHolds cond ev then s.ttPass else s
    | _ => s

/-- WAIT_TIMEOUT (R201, R219): the time of a COND 0 wait, or the timeout of another. -/
def execWaitTimeout (s : State) : Out :=
  inRun s fun s =>
    match s.tt.run with
    | some { wait := .wait cond _ act (some t), .. } =>
      if cond = 0 then (s.reach t).ttNext else (s.reach t).ttFail "WAIT_TIMEOUT" act
    | _ => s

/-- CHECK_WINDOW_END (R218): a check that has not passed fails. -/
def execCheckWindowEnd (s : State) : Out :=
  inRun s fun s =>
    match s.tt.run with
    | some { wait := .check kind idx act _ _ _ till _ _, .. } => (s.reach till).checkFail kind idx act
    | _ => s

/-! ### TT? (R233) -/

/-- Four hexadecimal digits with their prefix. -/
def hex16 (n : Nat) : String := "0x" ++ hexText 4 n

/-- A timetable, or NONE. -/
def ttOpt (n : Option Nat) : String := match n with | some k => ttName k | none => "NONE"

/-- TT_QUERY (R233). -/
def execTtQuery (p : PortId) (l : Line) (s : State) : Out :=
  verbRow .tt true anyForm p l s fun s => do
    let n ← objTt l
    let a ← parseArgs s.compat [("AT", .num 0 510), ("COUNT", .num 1 8)] (restToks l)
      fun has => if has "AT" || has "COUNT" then needs ["AT", "COUNT"] has else none
    let len := s.get (F.TT_DIR_LEN n)
    match a.nat "AT", a.nat "COUNT" with
    | some i, some k =>
      if len - 1 < i + k then throw (.range "AT")
      s.serves 2
      pure (s, .ok (ttName n ++ " AT=" ++ dec i ++ " " ++ joinWith " " ((List.range k).map fun j => hexWord (s.ttStepWord n (i + j)))))
    | _, _ =>
      s.serves 2
      let runs := s.ttRuns n
      let pends := match s.tt.pend with | some x => x.tt == n | none => false
      let st := if runs then "RUNNING" else if pends then "PENDING" else if s.committing n then "LOADING" else "IDLE"
      let crc := if len = 0 then "NONE" else hex16 (bitsOf (s.ttWord (s.get (F.TT_DIR_START n))) 0 16)
      let mark := match Tab.get (fun _ => none) s.tt.marks n with | some c => hex16 c | none => "NONE"
      pure (s, .ok (ttName n ++ " " ++ fieldsOut
        [("VALID", bitOut (s.ttValid n)), ("STEPS", dec (len - 1)), ("CRC", crc), ("START", dec (s.get (F.TT_DIR_START n))),
         ("LEN", dec len), ("STATE", st), ("STEP", dec (if runs then s.get F.TT_STATUS_STEP else 0)), ("LASTMARK", mark),
         ("EXEC", ttOpt (s.tt.run.map TtRun.tt)), ("PENDING", ttOpt (s.tt.pend.map TtPend.tt)), ("FREE", dec (s.get F.TT_VALID_FREE))]))

/-! ### DEPENDS (R213, R234) -/

/-- A list of rails as a mask, none for an unknown name. -/
def railMask (t : String) : Option Nat :=
  if t = "NONE" then some 0
  else
    let rs := (listItems t).map readRail
    if rs.all Option.isSome then some (maskOf (rs.filterMap id)) else none

/-- The settings DEPENDS reports. -/
def State.dependsFields (s : State) (r : Nat) : String :=
  let c := s.compat
  railName r ++ " " ++ fieldsOut
    [("ON", railList (s.deps r)), ("PGLO", pctOut c (s.get (F.TT_PG_PG_LO r)) 10), ("PGHI", pctOut c (s.get (F.TT_PG_PG_HI r)) 10),
     ("OFFV", vOut c (s.get (F.TT_PG_OFF_V r) * 3 : Nat) 2), ("TRACK", onOut (s.flag (F.TT_PG_TRACK r)))]

/-- The settings of DEPENDS with the arguments given (R234). -/
def State.dependsStored (s : State) (r : Nat) (a : Args) (on : Option Nat) : State :=
  let t := ((s.setArg (depField r) on).setArg (F.TT_PG_PG_LO r) (a.nat "PGLO")).setArg (F.TT_PG_PG_HI r) (a.nat "PGHI")
  (t.setArg (F.TT_PG_OFF_V r) (a.nat "OFFV")).setArg (F.TT_PG_TRACK r) (a.nat "TRACK")

/-- The arguments of DEPENDS. -/
def dependsKinds : List (String × Kind) :=
  [("ON", .raw), ("PGLO", kPct 1 10 250), ("PGHI", kPct 1 10 250), ("OFFV", kVolt 3 2 0 4095), ("TRACK", .switch)]

/-- DEPENDS_CMD (R234). -/
def execDependsCmd (p : PortId) (l : Line) (s : State) : Out :=
  verbRow .depends false anyForm p l s fun s => do
    let r ← objRail s.part l
    nonAbsent (restToks l) "ON" (absentRail s.part)
    let a ← parseArgs s.compat dependsKinds (restToks l)
    let on ← match a.txt "ON" with
      | none => pure none
      | some t => match railMask t with
        | some m => pure (some m)
        | none => throw (.range "ON")
    s.serves (railBp r)
    let t := s.dependsStored r a on
    if !t.noCycle then throw (.refused "CYCLE")
    pure (t, .ok (t.dependsFields r))

/-- DEPENDS_QUERY (R234). -/
def execDependsQuery (p : PortId) (l : Line) (s : State) : Out :=
  verbRow .depends true anyForm p l s fun s => do
    let r ← objRail s.part l
    noArgs (restToks l)
    s.serves (railBp r)
    pure (s, .ok (s.dependsFields r ++ " " ++
      fieldsOut [("GOOD", bitOut (s.railGood r)), ("SHED", bitOut (s.bit F.TT_STATUS_SHED r))]))

end Sys2Proof.Machine
end

