-- ==== Sys2Proof/Machine/VerbsHead.lean ====
section
/-! DEFINITION. The verbs of heads, HEAD, DOSE, LIGHTGATE and CAL HEADn (13_exposure_dose). -/

namespace Sys2Proof.Machine

/-! ### HEAD (R389) -/

/-- A factor with `k` decimals; in 0.1 % under COMPAT (R64). -/
def facOut (c : Bool) (k : Nat) (num : Int) (den : Nat) : String := if c then intOut (num * 1000) den else decimals k num den

/-- What HEAD? reports of the head. -/
def State.headFields (s : State) (h : Nat) : List (String × String) :=
  let c := s.compat
  let m := (s.head h).mem
  let iem := s.get (F.HEAD_PAR2_IEM h)
  [("MODEL", hexWord (memLong m 0)), ("SERIAL", hexWord (memLong m 4) ++ "_" ++ hexText 4 (memWord m 8) ++ "_" ++ hexText 4 (memWord m 10)),
   ("FORMAT", dec (memByte m 12)), ("RANK", dec (memByte m 13)), ("W0", siOut c 0 "ns" 1 (s.get (F.HEAD_PAR0_W0_NOM h) : Nat)),
   ("TREF", headTemp c (s.get (F.HEAD_PAR2_T_REF h))), ("VREF", vOut c (s.get (F.HEAD_PAR0_V_REF h) : Nat)),
   ("KT", intText (s.sget (F.HEAD_PAR1_KT h))), ("KV", facOut c 3 (s.sget (F.HEAD_PAR1_KV h)) 4096),
   ("IEM", if c then intOut iem 100 else decimals 2 iem 100 ++ "mA"), ("TRIMLIM", dec (s.get (F.HEAD_CNT2_TRIM_LIM h)))]

/-- What HEAD? reports of a chip. -/
def State.chipFields (s : State) (h k : Nat) : List (String × String) :=
  [("CHIP", dec k), ("LCHIP", facOut s.compat 5 ((s.head h).chip k : Nat) 32768), ("GROUP", dec (k % s.groups h)), ("SEGMENT", dec (k / 31))]

/-- What HEAD? reports of an emitter (R360). -/
def State.emitterFields (s : State) (h e : Nat) : List (String × String) :=
  let x := s.head h
  [("EMITTER", dec e), ("LUM", dec (x.lum e)), ("BASE", dec (x.entry e % 64)), ("INUSE", dec (s.trimInUse h e)), ("FAIL", bitOut (bitAt (x.entry e) 6)),
   ("RAISED", bitOut (bitAt (x.entry e) 7))]

/-- HEAD_QUERY (R389): before the first attach every field reads NONE. -/
def execHeadQuery (p : PortId) (l : Line) (s : State) : Out :=
  verbRow .head true anyForm p l s fun s => do
    let h ← objHead s.part l
    let a ← parseArgs s.compat [("CHIP", .num 0 247), ("EMITTER", .num 0 31743)] (restToks l) (notBoth "CHIP" "EMITTER")
    s.serves (headBp h)
    let xs := match a.nat "CHIP", a.nat "EMITTER" with
      | some k, _ => s.chipFields h k
      | none, some e => s.emitterFields h e
      | none, none => s.headFields h
    let xs := if (s.head h).attached then xs else xs.map fun x => if x.1 = "CHIP" ∨ x.1 = "EMITTER" then x else (x.1, "NONE")
    pure (s, .ok (headName h ++ " " ++ fieldsOut xs))

/-! ### DOSE (R390) -/

/-- The settings DOSE reports. -/
def State.doseFields (s : State) (h : Nat) : String :=
  let c := s.compat
  let ns (f : Field) : String := siOut c 0 "ns" 1 (s.get f * 4 : Nat)
  let ratio (f : Field) : String := pctOut c (s.get f : Nat) 10
  let temp (f : Field) : String := tOut c (s.get f : Nat)
  let ranks := s.get (F.HEAD_RANK_RANK_MASK h)
  headName h ++ " " ++ fieldsOut
    [("GAIN", ratio (F.HEAD_CTRL_GAIN h)), ("WMIN", ns (F.HEAD_CTRL_W_MIN h)), ("PRIME", ns (F.HEAD_CTRL_PRIME_W h)),
     ("TMIN", ratio (F.HEAD_TCOR_TCOR_MIN h)), ("TMAX", ratio (F.HEAD_TCOR_TCOR_MAX h)), ("TWARN", temp (F.HEAD_TEMP_T_WARN h)),
     ("TLIMIT", temp (F.HEAD_TEMP_T_LIMIT h)), ("TSHUT", temp (F.HEAD_TEMP_T_SHUT h)), ("THYS", temp (F.HEAD_TEMP_T_HYS h)),
     ("FBLIMIT", dec (s.get (F.HEAD_FB_FB_LIMIT h))), ("VDIFF", vOut c (s.get (F.HEAD_FB_VDIFF h) * 2 : Nat)),
     ("RANKS", if ranks = 65535 then "ALL" else listOut ((bitsSet ranks 16).map dec)), ("INHIBIT", onOut (s.flag (F.HEAD_CTRL_INHIBIT h)))]

/-- The arguments of DOSE. -/
def doseKinds : List (String × Kind) :=
  [("GAIN", kPct 1 500 1500), ("WMIN", kTime 1 4 1 250), ("PRIME", kTime 1 4 10 100), ("TMIN", kPct 1 500 1000),
   ("TMAX", kPct 1 1000 2000), ("TWARN", kTemp 20 120), ("TLIMIT", kTemp 20 120), ("TSHUT", kTemp 20 120), ("THYS", kTemp 1 15),
   ("FBLIMIT", .num 1 65535), ("VDIFF", kVolt 2 1 5 255), ("RANKS", .raw), ("INHIBIT", .switch), ("RESUME", .key)]

/-- A list of ranks as a mask. -/
def rankMask (t : String) : Option Nat :=
  if t = "ALL" then some 65535
  else
    let rs := (listItems t).map parseNat
    if rs.all fun r => match r with | some k => k < 16 | none => false then some (maskOf (rs.filterMap id)) else none

/-- The settings of a head with the arguments given (R390). -/
def State.doseStored (s : State) (h : Nat) (a : Args) (ranks : Option Nat) : State :=
  let t := ((s.setArg (F.HEAD_CTRL_GAIN h) (a.nat "GAIN")).setArg (F.HEAD_CTRL_W_MIN h) (a.nat "WMIN")).setArg (F.HEAD_CTRL_PRIME_W h)
    (a.nat "PRIME")
  let t := (t.setArg (F.HEAD_TCOR_TCOR_MIN h) (a.nat "TMIN")).setArg (F.HEAD_TCOR_TCOR_MAX h) (a.nat "TMAX")
  let t := ((t.setArg (F.HEAD_TEMP_T_WARN h) (a.nat "TWARN")).setArg (F.HEAD_TEMP_T_LIMIT h) (a.nat "TLIMIT")).setArg
    (F.HEAD_TEMP_T_SHUT h) (a.nat "TSHUT")
  let t := ((t.setArg (F.HEAD_TEMP_T_HYS h) (a.nat "THYS")).setArg (F.HEAD_FB_FB_LIMIT h) (a.nat "FBLIMIT")).setArg (F.HEAD_FB_VDIFF h)
    (a.nat "VDIFF")
  (t.setArg (F.HEAD_RANK_RANK_MASK h) ranks).setArg (F.HEAD_CTRL_INHIBIT h) (a.nat "INHIBIT")

/-- DOSE_CMD (R375, R377, R378, R390). -/
def execDoseCmd (p : PortId) (l : Line) (s : State) : Out :=
  verbRow .dose false anyForm p l s fun s => do
    let h ← objHead s.part l
    let a ← parseArgs s.compat doseKinds (restToks l)
    let ranks ← match a.txt "RANKS" with
      | none => pure none
      | some t => match rankMask t with
        | some m => pure (some m)
        | none => throw (.range "RANKS")
    let t := s.doseStored h a ranks
    if !t.regOk (.HEAD_TEMP h) then throw (.range "TWARN")
    s.serves (headBp h)
    if a.has "RESUME" ∧ !s.flag (F.HEAD_STATUS_STOPPED h) then throw (.state "RUNNING")
    let t := if a.has "INHIBIT" then t.inhibitWritten h else t
    let t := if a.has "RESUME" then t.resumeWritten h else t
    pure (t, .ok (t.doseFields h))

/-- The reasons of R378 by bit of UNFIT. -/
def unfitNames : List String := ["NOHEAD", "REFUSED", "VERIFY", "TEMP", "FALLBACK", "LIGHTGATE", "TRIM", "INHIBIT"]

/-- What DOSE? STATUS reports. -/
def State.doseStatus (s : State) (h : Nat) : List (String × String) :=
  let c := s.compat
  let b (f : Field) : String := bitOut (s.flag f)
  let th := s.get (F.HEAD_STATUS_THEAD h)
  [("TSTATE", ["NORMAL", "WARN", "LIMIT", "SHUT"].getD (s.get (F.HEAD_STATUS_TSTATE h)) "NORMAL"),
   ("THEAD", if th = 0x3FF then "NONE" else headTemp c th), ("FIT", b (F.HEAD_STATUS_FIT h)),
   ("NOTFIT", listOut ((bitsSet (s.get (F.HEAD_STATUS_UNFIT h)) 8).map fun k => unfitNames.getD k "")),
   ("FALLBACK", b (F.HEAD_STATUS_FALLBACK h)), ("FBRUN", dec (s.get (F.HEAD_CNT_FB_RUN h))), ("PULLED", b (F.HEAD_STATUS_PULLED h)),
   ("STOPPED", b (F.HEAD_STATUS_STOPPED h)), ("SPOILED", b (F.HEAD_STATUS_SPOILED h)), ("VOFS", vOut c (s.sget (F.HEAD_VOFS_VOFS h) * 2)),
   ("VHEADBAD", b (F.HEAD_VOFS_VHEAD_BAD h))]

/-- What DOSE? reports of a chip in the last line computed; NONE while no line has been. -/
def State.doseChip (s : State) (h k : Nat) : List (String × String) :=
  let g := k % s.groups h
  let place := [("GROUP", dec g), ("SEGMENT", dec (k / 31))]
  match (s.head h).widths with
  | none => [("LINE", "NONE")] ++ place ++ [("TFAC", "NONE"), ("VFAC", "NONE"), ("FROZEN", "NONE"), ("W", "NONE")]
  | some w =>
    let ft := bitAt w.frozenT (k / 31)
    [("LINE", dec w.line)] ++ place ++
      [("TFAC", facOut s.compat 5 (w.tfac.getD (k / 31) ftOne) 8000000),
       ("VFAC", facOut s.compat 5 (w.vfac.getD g (s.fvOne h)) (4096 * max 1 (s.get (F.HEAD_PAR0_V_REF h)))),
       ("FROZEN", if ft && w.frozenV then "TV" else if ft then "T" else if w.frozenV then "V" else "NONE"),
       ("W", siOut s.compat 0 "ns" 1 (w.w.getD k 0 * 4 : Nat))]

/-- DOSE_QUERY (R390). -/
def execDoseQuery (p : PortId) (l : Line) (s : State) : Out :=
  verbRow .dose true anyForm p l s fun s => do
    let h ← objHead s.part l
    let a ← parseArgs s.compat [("STATUS", .key), ("CHIP", .num 0 247)] (restToks l) (notBoth "STATUS" "CHIP")
    s.serves (headBp h)
    if a.has "STATUS" then pure (s, .ok (headName h ++ " " ++ fieldsOut (s.doseStatus h)))
    else match a.nat "CHIP" with
      | some k => pure (s, .ok (headName h ++ " CHIP=" ++ dec k ++ " " ++ fieldsOut (s.doseChip h k)))
      | none => pure (s, .ok (s.doseFields h))

/-! ### LIGHTGATE (R391) -/

/-- The settings of LIGHTGATE. -/
def State.lgFields (s : State) (h : Nat) : String :=
  let c := s.compat
  headName h ++ " " ++ fieldsOut
    [("HIDEMAX", pctOut c (s.get (F.HEAD_LG_HIDE_MAX h) : Nat)), ("WEAK", pctOut c (s.get (F.HEAD_LG_WEAK_PCT h) : Nat)),
     ("DEAD", pctOut c (s.get (F.HEAD_LG_DEAD_PCT h) : Nat)), ("DEADMAX", dec (s.get (F.HEAD_LG_DEAD_MAX h))),
     ("WIDTH", siOut c 0 "ns" 1 (s.get (F.HEAD_LGT_TW h) * 4 : Nat)), ("PERIOD", siOut c 0 "us" 1000 (s.get (F.HEAD_LGT_TPER h) * 4 : Nat))]

/-- LIGHTGATE carries START. -/
def lgStarts (l : Line) : Bool := (restToks l).contains "START"

/-- LIGHTGATE carries ABORT and not START. -/
def lgAborts (l : Line) : Bool := !lgStarts l && (restToks l).contains "ABORT"

/-- The settings of Lightgate with the arguments given (R391). -/
def State.lgStored (s : State) (h : Nat) (a : Args) : State :=
  let t := ((s.setArg (F.HEAD_LG_HIDE_MAX h) (a.nat "HIDEMAX")).setArg (F.HEAD_LG_WEAK_PCT h) (a.nat "WEAK")).setArg
    (F.HEAD_LG_DEAD_PCT h) (a.nat "DEAD")
  ((t.setArg (F.HEAD_LG_DEAD_MAX h) (a.nat "DEADMAX")).setArg (F.HEAD_LGT_TW h) (a.nat "WIDTH")).setArg (F.HEAD_LGT_TPER h)
    (a.nat "PERIOD")

/-- The arguments of LIGHTGATE without START or ABORT. -/
def lgKinds : List (String × Kind) :=
  [("HIDEMAX", kPct 10 0 25), ("WEAK", kPct 10 30 95), ("DEAD", kPct 10 5 50), ("DEADMAX", .num 0 64), ("WIDTH", kTime 1 4 25 2000),
   ("PERIOD", kTime 1000 4000 16 255)]

/-- LIGHTGATE_CMD (R382, R391). -/
def execLightgateCmd (p : PortId) (l : Line) (s : State) : Out :=
  verbRow .lightgate false (fun l => !lgStarts l && !lgAborts l) p l s fun s => do
    let h ← objHead s.part l
    let a ← parseArgs s.compat lgKinds (restToks l)
    let t := s.lgStored h a
    if !t.regOk (.HEAD_LG h) then throw (.range "DEAD")
    s.serves (headBp h)
    pure (t, .ok (t.lgFields h))

/-- A word that stands alone after the object. -/
def aloneWord (l : Line) (w : String) : Except Ans Unit :=
  match (restToks l).erase w with
  | [] => pure ()
  | t :: _ => throw (.arg t)

/-- LIGHTGATE_START_CMD (R379, R386, R391). -/
def execLightgateStartCmd (p : PortId) (l : Line) (parked : Bool) (s : State) : Out :=
  verbRow .lightgate false lgStarts p l s fun s => do
    let h ← objHead s.part l
    aloneWord l "START"
    s.serves (headBp h)
    let s := s.setPark h parked
    match s.lgRefusal h with
    | some (c, n, d) => pure (s, .no c n d)
    | none =>
      if (s.head h).lg.isSome then pure (s, .state "PENDING")
      else pure ((s.lgQueue h (some (owe p l (headName h)))).evalRa, .queued)

/-- LIGHTGATE_ABORT_CMD (R385, R391). -/
def execLightgateAbortCmd (p : PortId) (l : Line) (s : State) : Out :=
  verbRow .lightgate false lgAborts p l s fun s => do
    let h ← objHead s.part l
    aloneWord l "ABORT"
    s.serves (headBp h)
    if (s.head h).lg.isNone then throw (.state "IDLE")
    pure ((s.lgAbort h "ABORT").evalRa, .ok (headName h ++ " ABORT"))

/-- An entry of the dead list as LIGHTGATE? writes it. -/
def deadOut (c : Bool) (d : DeadEntry) : String :=
  dec d.e ++ ":" ++ (if d.dead then "DEAD" else "WEAK") ++ ":" ++ pctOut c (d.resp * 100 : Nat) 256

/-- LIGHTGATE_QUERY (R391). -/
def execLightgateQuery (p : PortId) (l : Line) (s : State) : Out :=
  verbRow .lightgate true anyForm p l s fun s => do
    let h ← objHead s.part l
    let a ← parseArgs s.compat [("LIST", .key), ("AT", .num 0 63), ("COUNT", .num 1 8)] (restToks l)
      fun has => if has "LIST" || has "AT" || has "COUNT" then needs ["LIST", "AT", "COUNT"] has else none
    let dead := (s.head h).dead
    match a.nat "AT", a.nat "COUNT" with
    | some i, some k =>
      if dead.length < i + k then throw (.range "AT")
      s.serves (headBp h)
      pure (s, .ok (headName h ++ " AT=" ++ dec i ++ " " ++ joinWith " " (((dead.drop i).take k).map (deadOut s.compat))))
    | _, _ =>
      s.serves (headBp h)
      pure (s, .ok (s.lgFields h ++ " " ++ fieldsOut
        [("STATE", ["IDLE", "QUEUED", "RUNNING", "DONE", "ABORTED"].getD (s.get (F.HEAD_LGSTAT_STATE h)) "IDLE"),
         ("PARKED", bitOut (s.head h).hpark), ("EMITTER", dec (s.get (F.HEAD_LGSTAT_EMITTER h))), ("FAILS", dec dead.length)]))

/-! ### CAL HEADn (R386, R392) -/

/-- CAL names a head. -/
def calsHead (l : Line) : Bool := match objTok l with | some t => (numAfter "HEAD" t).isSome | none => false

/-- CAL_HEAD_CMD (R374, R386, R392). -/
def execCalHeadCmd (p : PortId) (l : Line) (s : State) : Out :=
  verbRow .cal false calsHead p l s fun s => do
    let h ← objHead s.part l
    noArgs (restToks l)
    s.serves (headBp h)
    if s.flag (F.HEAD_CAL_CAL_PEND h) then throw (.state "PENDING")
    if 0 < s.claims then
      let t := (s.setFlag (F.HEAD_CAL_CAL h) true).setFlag (F.HEAD_CAL_CAL_PEND h) true
      pure (t.modHead h fun x => { x with calOwed := some (owe p l (headName h)) }, .queued)
    else
      match s.calHeadRun h with
      | (t, some d) => pure (t, .state d)
      | (t, none) => pure (t, .ok (headName h ++ " VOFS=" ++ vOut t.compat (t.sget (F.HEAD_VOFS_VOFS h) * 2)))

end Sys2Proof.Machine
end

