-- ==== Sys2Proof/Machine/VerbsPower.lean ====
section
/-! DEFINITION. The verbs of monitors, harvest and the power side: MON, HARVEST, VKA, STACK, BRIDGE, RELAY and BACKUP
(04_window_monitors, 05_harvest, 06_reservoir), what a change of their settings starts, and the two relay bits written by
register. -/

namespace Sys2Proof.Machine

/-! ### MON (R95, R99, R102, R104, R106, R111, R112) -/

/-- The settings of monitor `n` changed from `s` to `t`: UNSETTLED where R102 says so, else the CONFIRM count starts again
where a threshold or CONFIRM changed (R104). LAST is 0 in WINDOW mode (R110). -/
def State.monWritten (s t : State) (n : Nat) : State :=
  let ch (fs : List Field) : Bool := fs.any fun f => changed s t f
  let fresh := ch [F.MON_CTRL_EN n, F.MON_CTRL_INPUT n, F.MON_CTRL_MODE n, F.MON_CTRL_ADC n, F.MON_CTRL_RES n]
  let again := ch [F.MON_THR_LO n, F.MON_THR_HI n, F.MON_THR_HYS n, F.MON_CTRL_CONFIRM n]
  let t := if t.flag (F.MON_CTRL_MODE n) then t else t.set (F.MON_STATUS_LAST n) 0
  if fresh then (t.unsettle n).nodesMoved
  else if again then
    t.modMon n fun x => { x with tgt := none, cnt := 0, cells := x.cells.map fun c => (c.1, { c.2 with tgt := none, cnt := 0 }) }
  else t

/-- Names of the inputs by code (R95). -/
def inputNames : List String := (List.range 24).map inputName

/-- Name of a blanking source (R106). -/
def blankName (b : Nat) : String :=
  if b = 0 then "NONE" else if b ≤ 16 then phName (b - 1) else if b ≤ 20 then "LINEGO" ++ dec (b - 16) else "BRIDGE"

/-- Names of the blanking sources by code. -/
def blankNames : List String := (List.range 22).map blankName

/-- A name known to a list whose unit the part lacks. -/
def absentIn (names : List String) (here : Nat → Bool) (t : String) : Bool :=
  match names.findIdx? (· == t) with
  | some k => !here k
  | none => false

/-- The value of a NAME=VALUE argument as written. -/
def rawValue (toks : List String) (name : String) : Option String :=
  toks.findSome? fun t => match cutEq t.toList with
    | some (n, v) => if String.ofList n = name then some (String.ofList v) else none
    | none => none

/-- The arguments of MON under the input and mode that will stand: thresholds on the grid of that mode (R99), ADC and RES
in CONVERT only. -/
def monKinds (input : Nat) (conv stbyOff : Bool) : List (String × Kind) :=
  let g := if conv then 1 else 4
  let k (hi : Int) : Kind := kVolt (g * inputLsb input) 1000 0 hi
  [("EN", .switch), ("INPUT", .enum inputNames), ("MODE", .enum ["WINDOW", "CONVERT"]),
   ("LO", k (if conv then 4095 else 1023)), ("HI", k (if conv then 4095 else 1023)), ("HYS", k (if conv then 63 else 15)),
   ("CONFIRM", .num 1 8), ("EVENTS", .raw), ("PERIOD", .pow2 .time tickNs 1953125 64 0 14),
   ("STBYPERIOD", if stbyOff then .enum ["OFF"] else .pow2 .time tickNs 1953125 64 0 14), ("BLANK", .enum blankNames),
   ("BLANKW", kTime 1 16 0 1023)] ++
  (if conv then [("ADC", .num 0 3), ("RES", .num 6 12)] else [])

/-- A list of events as EVMASK. -/
def eventMask (t : String) : Option Nat :=
  if t = "NONE" then some 0
  else
    let ks := (listItems t).map fun x => ["BELOW", "INSIDE", "ABOVE"].findIdx? (· == x)
    if ks.all Option.isSome then some (maskOf (ks.filterMap id)) else none

/-- A voltage of monitor `n` in codes. -/
def State.monVolt (s : State) (n v : Nat) : String := vOut s.compat (v * inputLsb (s.get (F.MON_CTRL_INPUT n)) : Nat) 1000

/-- The settings of monitor `n` as MON reports them. -/
def State.monFields (s : State) (n : Nat) : String :=
  let c := s.compat
  let conv := s.flag (F.MON_CTRL_MODE n)
  let stby := s.get (F.MON_TIME_STBY_PER n)
  "MON" ++ dec n ++ " " ++ fieldsOut
    ([("EN", onOut (s.flag (F.MON_CTRL_EN n))), ("INPUT", inputName (s.get (F.MON_CTRL_INPUT n))),
      ("MODE", if conv then "CONVERT" else "WINDOW")] ++
     (if conv then [("ADC", dec (s.get (F.MON_CTRL_ADC n))), ("RES", dec (s.get (F.MON_CTRL_RES n)))] else []) ++
     [("LO", s.monVolt n (s.get (F.MON_THR_LO n))), ("HI", s.monVolt n (s.get (F.MON_THR_HI n))),
      ("HYS", s.monVolt n (s.get (F.MON_THR_HYS n))), ("CONFIRM", dec (s.get (F.MON_CTRL_CONFIRM n) + 1)),
      ("EVENTS", listOut ((bitsSet (s.get (F.MON_CTRL_EVMASK n)) 3).map fun k => ["BELOW", "INSIDE", "ABOVE"].getD k "")),
      ("PERIOD", tkOut c (2 ^ s.get (F.MON_TIME_RUN_PER n))), ("STBYPERIOD", if stby = 15 then "OFF" else tkOut c (2 ^ stby)),
      ("BLANK", blankName (s.get (F.MON_TIME_BLANK_SRC n))),
      ("BLANKW", siOut c 0 "ns" 1 (s.get (F.MON_TIME_BLANK_W n) * 16 : Nat))])

/-- The input of monitor `n` under a line's arguments. -/
def State.monInput (s : State) (n : Nat) (toks : List String) : Nat :=
  ((rawValue toks "INPUT").bind fun t => inputNames.findIdx? (· == t)).getD (s.get (F.MON_CTRL_INPUT n))

/-- CONVERT mode of monitor `n` under a line's arguments. -/
def State.monConv (s : State) (n : Nat) (toks : List String) : Bool :=
  match rawValue toks "MODE" with
  | some "CONVERT" => true
  | some "WINDOW" => false
  | _ => s.flag (F.MON_CTRL_MODE n)

/-- The settings of monitor `n` with the arguments given (R99, R111): codes of 12 bits, in WINDOW mode four times the step. -/
def State.monStored (s : State) (n : Nat) (a : Args) (conv : Bool) (ev stby : Option Nat) : State :=
  let grid (name : String) : Option Nat := (a.nat name).map (· * (if conv then 1 else 4))
  let t := ((s.setArg (F.MON_CTRL_EN n) (a.nat "EN")).setArg (F.MON_CTRL_INPUT n) (a.nat "INPUT")).setArg (F.MON_CTRL_MODE n) (a.nat "MODE")
  let t := ((t.setArg (F.MON_CTRL_ADC n) (a.nat "ADC")).setArg (F.MON_CTRL_RES n) (a.nat "RES")).setArg (F.MON_THR_LO n) (grid "LO")
  let t := ((t.setArg (F.MON_THR_HI n) (grid "HI")).setArg (F.MON_THR_HYS n) (grid "HYS")).setArg (F.MON_CTRL_CONFIRM n)
    ((a.nat "CONFIRM").map (· - 1))
  let t := ((t.setArg (F.MON_CTRL_EVMASK n) ev).setArg (F.MON_TIME_RUN_PER n) (a.nat "PERIOD")).setArg (F.MON_TIME_STBY_PER n) stby
  (t.setArg (F.MON_TIME_BLANK_SRC n) (a.nat "BLANK")).setArg (F.MON_TIME_BLANK_W n) (a.nat "BLANKW")

/-- MON_CMD (R111). -/
def execMonCmd (p : PortId) (l : Line) (s : State) : Out :=
  verbRow .mon false anyForm p l s fun s => do
    let n ← objMon s.part l
    let toks := restToks l
    nonAbsent toks "INPUT" (absentIn inputNames s.part.hasInput)
    nonAbsent toks "BLANK" (absentIn blankNames s.part.hasBlank)
    let a ← parseArgs s.compat (monKinds (s.monInput n toks) (s.monConv n toks) (rawValue toks "STBYPERIOD" == some "OFF")) toks
    let ev ← match a.txt "EVENTS" with
      | none => pure none
      | some t => match eventMask t with
        | some m => pure (some m)
        | none => throw (.range "EVENTS")
    let stby := if rawValue toks "STBYPERIOD" = some "OFF" then some 15 else a.nat "STBYPERIOD"
    let t := s.monStored n a (s.monConv n toks) ev stby
    if !t.regOk (.MON_CTRL n) then throw (.range (if a.has "INPUT" then "INPUT" else "MODE"))
    if !t.thrOk n then throw (.range ((["LO", "HI", "HYS"].find? a.has).getD "LO"))
    s.serves 5
    let t := s.monWritten t n
    pure (t, .ok (t.monFields n))

/-- VALUE of MON? (R112): none in WINDOW mode; with CELLSCAN the worst cell's, and CELL. -/
def State.monValue (s : State) (n : Nat) : List (String × String) :=
  if s.get (F.MON_CTRL_INPUT n) = nodeCells then
    match (s.mon n).worstCell (s.get F.RES_CFG_CELLS) with
    | some (k, v) => [("VALUE", s.monVolt n v), ("CELL", dec (k + 1))]
    | none => [("VALUE", "NONE"), ("CELL", "NONE")]
  else [("VALUE", if s.flag (F.MON_CTRL_MODE n) then s.monVolt n (s.get (F.MON_STATUS_LAST n)) else "NONE")]

/-- MON_QUERY (R112). -/
def execMonQuery (p : PortId) (l : Line) (s : State) : Out :=
  verbRow .mon true anyForm p l s fun s => do
    let n ← objMon s.part l
    noArgs (restToks l)
    s.serves 5
    pure (s, .ok (s.monFields n ++ " " ++ fieldsOut
      ([("STATE", monStateName (s.monState n))] ++ s.monValue n ++ [("MISS", dec (s.get (F.MON_STATUS_MISS n)))])))

/-! ### HARVEST and VKA? (R136, R137) -/

/-- Code LSB of a harvest input in µV. -/
def harvLsb (i : Nat) : Nat := (harvGain i).2

/-- A voltage of a harvest input in codes. -/
def State.harvVolt (s : State) (i : Nat) (f : Field) : String := vOut s.compat (s.get f * harvLsb i : Nat) 1000

/-- The settings HARVEST reports. -/
def State.harvFields (s : State) (i : Nat) : String :=
  let c := s.compat
  harvName i ++ " " ++ fieldsOut
    [("MODE", ["FIXED", "FRACTION", "HOLD"].getD (s.get (F.HARV_CTRL_MODE i)) "FIXED"), ("FRACTION", pctOut c (s.get (F.HARV_CTRL_FRAC i) : Nat)),
     ("PERIOD", siOut c 0 "s" 1000000000 (2 ^ s.get (F.HARV_CTRL_PERIOD i) : Nat)), ("DWELL", tkOut c (2 ^ s.get (F.HARV_CTRL_DWELL i))),
     ("VMIN", s.harvVolt i (F.HARV_LIM_VMIN i)), ("VMAX", s.harvVolt i (F.HARV_LIM_VMAX i)), ("HOLD", s.harvVolt i (F.HARV_CTRL_HOLDV i))]

/-- The arguments of HARVEST for input `i`. -/
def harvKinds (i : Nat) : List (String × Kind) :=
  let v : Kind := kVolt (harvLsb i) 1000 (harvRange i).1 (harvRange i).2
  [("MODE", .enum ["FIXED", "FRACTION", "HOLD"]), ("FRACTION", kPct 10 30 80), ("PERIOD", .pow2 .time (1000000000, 1) 1000000000 1 0 6),
   ("DWELL", .pow2 .time tickNs 1953125 64 0 10), ("VMIN", v), ("VMAX", v), ("HOLD", v)]

/-- The settings of a harvest input with the arguments given (R136). -/
def State.harvStored (s : State) (i : Nat) (a : Args) : State :=
  let t := ((s.setArg (F.HARV_CTRL_MODE i) (a.nat "MODE")).setArg (F.HARV_CTRL_FRAC i) (a.nat "FRACTION")).setArg
    (F.HARV_CTRL_PERIOD i) (a.nat "PERIOD")
  let t := ((t.setArg (F.HARV_CTRL_DWELL i) (a.nat "DWELL")).setArg (F.HARV_LIM_VMIN i) (a.nat "VMIN")).setArg
    (F.HARV_LIM_VMAX i) (a.nat "VMAX")
  t.setArg (F.HARV_CTRL_HOLDV i) (a.nat "HOLD")

/-- HARVEST_CMD (R119, R136). -/
def execHarvestCmd (p : PortId) (l : Line) (s : State) : Out :=
  verbRow .harvest false anyForm p l s fun s => do
    let i ← objHarv s.part l
    let a ← parseArgs s.compat (harvKinds i) (restToks l)
    let t := s.harvStored i a
    if t.get (F.HARV_LIM_VMAX i) < t.get (F.HARV_LIM_VMIN i) then throw (.range (if a.has "VMIN" then "VMIN" else "VMAX"))
    if i = 3 ∧ a.nat "MODE" = some 1 then throw (.refused "FRACTION")
    let t := if a.isEmpty then t else t.harvSet i
    pure (t, .ok (t.harvFields i))

/-- HARVEST_QUERY (R136). -/
def execHarvestQuery (p : PortId) (l : Line) (s : State) : Out :=
  verbRow .harvest true anyForm p l s fun s => do
    let i ← objHarv s.part l
    noArgs (restToks l)
    pure (s, .ok (s.harvFields i ++ " " ++ fieldsOut
      [("SET", s.harvVolt i (F.HARV_SET_SET i)), ("OP", s.harvVolt i (F.HARV_STATUS_OP i)), ("VOC", s.harvVolt i (F.HARV_STATUS_VOC i)),
       ("STATE", ["IDLE", "COLD", "HARVEST", "OPEN", "CLAMP", "OFF"].getD (s.get (F.HARV_STATUS_STATE i)) "?"),
       ("PULLED", bitOut (s.flag (F.HARV_STATUS_PULLED i)))]))

/-- VKA_QUERY (R137): `vka` is the 12-bit conversion of VKA that the line asks for, in codes of 1.5 mV. -/
def execVkaQuery (p : PortId) (l : Line) (vka : Nat) (s : State) : Out :=
  verbRow .vka true anyForm p l s fun s => do
    noArgs l.toks
    let c := s.compat
    let v := vka % 4096
    let lvl (f : Field) : String := vOut c (s.get f * 25 : Nat)
    pure (s, .ok (fieldsOut
      [("VKA", vOut c (v * 1500 : Nat) 1000), ("SOURCE", kaName (s.get F.HARV_START_SOURCE)),
       ("TRICKLE", onOut (s.flag F.HARV_START_TRICKLE)), ("RELAY", if s.flag F.HARV_START_RELAY_PEND then "WAIT" else "IDLE"),
       ("TRICKLED", jOut c (s.get F.HARV_TRICKLE_ENERGY / 1000 : Nat)), ("RESON", lvl F.HARV_KA_RES_ON),
       ("RESOFF", lvl F.HARV_KA_RES_OFF), ("TRICKLEOFF", lvl F.HARV_KA_TRICKLE_OFF), ("TRICKLEON", lvl F.HARV_KA_TRICKLE_ON),
       ("CORESTART", lvl F.HARV_START_CORE_START)]))

/-! ### STACK (R138, R140, R142, R165) -/

/-- The stack's settings changed from `s` to `t`: FULL clears where CELLS or CELL_MAX changed (R140); balancing outputs of
cells no longer there, or all of them with BAL_EN 0, go low (R142). -/
def State.stackWritten (s t : State) : State :=
  let t := if changed s t F.RES_CFG_CELLS || changed s t F.RES_CFG_CELL_MAX then
      { (t.setFlag F.RES_STATUS_FULL false).clear 42 "FULL" with bridge := { t.bridge with fullAt := none } }
    else t
  let top := if t.flag F.RES_BAL_BAL_EN then t.get F.RES_CFG_CELLS else 0
  let t := (List.range 8).foldl (fun t k => if top ≤ k ∧ t.bit F.RES_BAL_BAL_ON k then t.setBal k false else t) t
  let t := if t.atFull then t.setFlag F.HARV_START_TRICKLE false else t
  t.bridgeEdge.evalRa

/-- The settings STACK reports; FULLV stands among them in STACK?. -/
def State.stackFields (s : State) (full : Bool) : List (String × String) :=
  let c := s.compat
  [("CELLS", dec (s.get F.RES_CFG_CELLS)), ("CELLMAX", vOut c (s.get F.RES_CFG_CELL_MAX * 5 : Nat))] ++
  (if full then [("FULLV", vOut c (s.fullV : Nat))] else []) ++
  [("FLOOR", vOut c (s.get F.RES_CFG_FLOOR_V * 25 : Nat) 4), ("BALSTART", vOut c (s.get F.RES_BAL_BAL_START * 5 : Nat)),
   ("BALDELTA", vOut c (s.get F.RES_BAL_BAL_DELTA * 5 : Nat)), ("BAL", onOut (s.flag F.RES_BAL_BAL_EN))]

/-- The settings of the stack with the arguments given (R165). -/
def State.stackStored (s : State) (a : Args) : State :=
  let t := ((s.setArg F.RES_CFG_CELLS (a.nat "CELLS")).setArg F.RES_CFG_CELL_MAX (a.nat "CELLMAX")).setArg F.RES_CFG_FLOOR_V (a.nat "FLOOR")
  ((t.setArg F.RES_BAL_BAL_START (a.nat "BALSTART")).setArg F.RES_BAL_BAL_DELTA (a.nat "BALDELTA")).setArg F.RES_BAL_BAL_EN (a.nat "BAL")

/-- The arguments of STACK. -/
def stackKinds : List (String × Kind) :=
  [("CELLS", .num 2 8), ("CELLMAX", kVolt 5 1 400 600), ("FLOOR", kVolt 25 4 0 4095), ("BALSTART", kVolt 5 1 400 600),
   ("BALDELTA", kVolt 5 1 1 20), ("BAL", .switch)]

/-- STACK_CMD (R138, R165). -/
def execStackCmd (p : PortId) (l : Line) (s : State) : Out :=
  verbRow .stack false anyForm p l s fun s => do
    let a ← parseArgs s.compat stackKinds l.toks
    let t := s.stackStored a
    if !t.regOk .RES_CFG then throw (.range ((["FLOOR", "CELLS", "CELLMAX"].find? a.has).getD "FLOOR"))
    s.serves 4
    if !s.changeOk t .RES_CFG then throw (.state (modeName s.mode))
    let t := s.stackWritten t
    pure (t, .ok (fieldsOut (t.stackFields false)))

/-- The cell that STACK? names, from cell number 0 on: ABSENT above CELLS (R165). -/
def State.objCell (s : State) (l : Line) : Except Ans Nat :=
  objOf (fun t => match numAfter "CELL" t with | some (k + 1) => some k | _ => none) (fun k => k < s.get F.RES_CFG_CELLS) l

/-- STACK_QUERY (R165). -/
def execStackQuery (p : PortId) (l : Line) (s : State) : Out :=
  verbRow .stack true (fun l => l.toks.isEmpty) p l s fun s => do
    s.serves 4
    let c := s.compat
    pure (s, .ok (fieldsOut (s.stackFields true ++
      [("V", vOut c (s.get F.RES_STATUS_VSTACK * 25 : Nat) 4), ("I", aOut c (s.sget F.RES_STATUS_ISTACK)),
       ("FULL", bitOut (s.flag F.RES_STATUS_FULL)), ("ATFLOOR", bitOut (s.flag F.RES_STATUS_ATFLOOR))])))

/-- STACK_CELL_QUERY (R165). -/
def execStackCellQuery (p : PortId) (l : Line) (s : State) : Out :=
  verbRow .stack true (fun l => !l.toks.isEmpty) p l s fun s => do
    let k ← s.objCell l
    noArgs (restToks l)
    s.serves 4
    let v := match s.nodeMon nodeCells with
      | some n => ((s.mon n).cell k).val
      | none => none
    pure (s, .ok ("CELL" ++ dec (k + 1) ++ " " ++ fieldsOut
      [("V", match v with | some v => vOut s.compat (v * inputLsb nodeCells : Nat) 1000 | none => "NONE"),
       ("BAL", onOut (s.bit F.RES_BAL_BAL_ON k))]))

/-! ### BRIDGE (R143, R148, R166) -/

/-- The bridge's settings written; EN written 1 clears SHORT and leaves STOPPED (R143, R148, R163). -/
def State.bridgeWritten (t : State) (en : Bool) : State :=
  let t := if en then t.clear 43 "SHORT" else t
  if en ∧ t.mode = 5 then (t.modeTo (t.set F.BR_STATUS_MODE 1).modeFor).evalRa else t.bridgeEdge.evalRa

/-- The settings BRIDGE reports. -/
def State.bridgeFields (s : State) : String :=
  let c := s.compat
  let w (f : Field) : String := wOut c (s.get f * 1000 : Nat)
  fieldsOut
    [("EN", onOut (s.flag F.BR_CTRL_EN)), ("CHARGE", onOut (s.flag F.BR_CTRL_CHG_EN)), ("SUPPORT", onOut (s.flag F.BR_CTRL_SUP_EN)),
     ("ABSORB", onOut (s.flag F.BR_CTRL_ABS_EN)), ("CHGPOWER", w F.BR_CTRL_CHG_P), ("CHGCURRENT", aOut c (s.get F.BR_LIM_CHG_I * 100 : Nat)),
     ("SUPPOWER", w F.BR_CTRL_SUP_P), ("ABSPOWER", w F.BR_CTRL_ABS_P), ("SUPV", vOut c (s.get F.BR_SET_SUP_V * 25 : Nat) 2),
     ("ABSV", vOut c (s.get F.BR_SET_ABS_V * 25 : Nat) 2), ("ILIM", aOut c (s.get F.BR_LIM_ILIM * 100 : Nat)),
     ("FREQ", fOut c (s.get F.BR_LIM_FREQ * 25000 : Nat))]

/-- The arguments of BRIDGE. -/
def bridgeKinds : List (String × Kind) :=
  [("EN", .switch), ("CHARGE", .switch), ("SUPPORT", .switch), ("ABSORB", .switch), ("CHGPOWER", kWatt 1000 5 120),
   ("CHGCURRENT", kAmp 100 5 150), ("SUPPOWER", kWatt 1000 10 240), ("ABSPOWER", kWatt 1000 10 240), ("SUPV", kVolt 25 2 1600 1920),
   ("ABSV", kVolt 25 2 1960 2240), ("ILIM", kAmp 100 20 200), ("FREQ", kFreq 25000 4 20)]

/-- The settings of the bridge with the arguments given (R166). -/
def State.bridgeStored (s : State) (a : Args) : State :=
  let t := ((s.setArg F.BR_CTRL_EN (a.nat "EN")).setArg F.BR_CTRL_CHG_EN (a.nat "CHARGE")).setArg F.BR_CTRL_SUP_EN (a.nat "SUPPORT")
  let t := ((t.setArg F.BR_CTRL_ABS_EN (a.nat "ABSORB")).setArg F.BR_CTRL_CHG_P (a.nat "CHGPOWER")).setArg F.BR_LIM_CHG_I (a.nat "CHGCURRENT")
  let t := ((t.setArg F.BR_CTRL_SUP_P (a.nat "SUPPOWER")).setArg F.BR_CTRL_ABS_P (a.nat "ABSPOWER")).setArg F.BR_SET_SUP_V (a.nat "SUPV")
  ((t.setArg F.BR_SET_ABS_V (a.nat "ABSV")).setArg F.BR_LIM_ILIM (a.nat "ILIM")).setArg F.BR_LIM_FREQ (a.nat "FREQ")

/-- BRIDGE_CMD (R166). -/
def execBridgeCmd (p : PortId) (l : Line) (s : State) : Out :=
  verbRow .bridge false anyForm p l s fun s => do
    let a ← parseArgs s.compat bridgeKinds l.toks
    s.serves 4
    if (a.nat "EN" = some 0 ∨ a.nat "SUPPORT" = some 0) ∧ s.bridgeKeeps then throw (.state (if a.nat "EN" = some 0 then "EN" else "SUPPORT"))
    let t := s.bridgeStored a
    let t := t.bridgeWritten (a.nat "EN" == some 1)
    pure (t, .ok t.bridgeFields)

/-- BRIDGE_QUERY (R166). -/
def execBridgeQuery (p : PortId) (l : Line) (s : State) : Out :=
  verbRow .bridge true anyForm p l s fun s => do
    noArgs l.toks
    s.serves 4
    let c := s.compat
    pure (s, .ok (s.bridgeFields ++ " " ++ fieldsOut
      [("MODE", modeName s.mode),
       ("MAINS", if s.flag F.BR_STATUS_MAINS_Q then "OK" else if s.flag F.BR_STATUS_MAINS_OK then "QUAL" else "LOST"),
       ("BUS", vOut c (s.get F.BR_STATUS_VBUS * 25 : Nat) 2), ("PBUS", wOut c (s.sget F.BR_STATUS_PBUS * 1000)),
       ("LIMITED", bitOut (s.flag F.BR_STATUS_LIMITED))]))

/-! ### RELAY (R152, R154, R156, R164, R167) -/

/-- RELAY asks for a closure. -/
def relaySets (l : Line) : Bool := l.toks.contains "SET"

/-- RELAY asks for an opening. -/
def relayClears (l : Line) : Bool := !relaySets l && l.toks.contains "CLR"

/-- SET or CLR stands alone (R167). -/
def loneWord (l : Line) (w : String) : Except Ans Unit :=
  match l.toks.erase w with
  | [] => pure ()
  | t :: _ => throw (.arg t)

/-- RELAY_SET_CMD (R167). -/
def execRelaySetCmd (p : PortId) (l : Line) (s : State) : Out :=
  verbRow .relay false relaySets p l s fun s => do
    loneWord l "SET"
    s.serves 4
    pure (s.relayRequest { set := true, why := .command p l.tag }, .queued)

/-- The answer to a refused opening (R154, R167). -/
def relayAnswer (why : String) : Ans :=
  match why with
  | "CLAIMED" => .state "CLAIMED"
  | "GAUGE" => .failed 6
  | "BRIDGE" => .failed 4
  | d => .refused d

/-- RELAY_CLR_CMD (R154, R167). -/
def execRelayClrCmd (p : PortId) (l : Line) (s : State) : Out :=
  verbRow .relay false relayClears p l s fun s => do
    loneWord l "CLR"
    match s.relayRefusal with
    | some why => pure (s.relayRefused why, relayAnswer why)
    | none => pure (s.relayRequest { set := false, why := .command p l.tag }, .queued)

/-- The settings RELAY reports. -/
def State.relayFields (s : State) : List (String × String) :=
  let c := s.compat
  [("WIDTH", tkOut c (s.get F.RELAY_CTRL_WIDTH)), ("TOPUP", jOut c (s.get F.RELAY_CTRL_TOPUP_J : Nat)),
   ("TOPUPEN", onOut (s.flag F.RELAY_CTRL_TOPUP_EN)), ("MAINSWAIT", tkOut c (2 ^ (s.get F.RELAY_CTRL_MAINS_WAIT + 10)))]

/-- TOPUP_EN as written: with 0 a top-up closure becomes an ordinary one (R156). -/
def State.topupWritten (t : State) : State := if t.flag F.RELAY_CTRL_TOPUP_EN then t else t.ordinary

/-- The settings of the relay with the arguments given (R167). -/
def State.relayStored (s : State) (a : Args) : State :=
  let t := ((s.setArg F.RELAY_CTRL_WIDTH (a.nat "WIDTH")).setArg F.RELAY_CTRL_TOPUP_J (a.nat "TOPUP")).setArg F.RELAY_CTRL_TOPUP_EN (a.nat "TOPUPEN")
  t.setArg F.RELAY_CTRL_MAINS_WAIT ((a.nat "MAINSWAIT").map (· - 10))

/-- The arguments of RELAY without SET or CLR. -/
def relayKinds : List (String × Kind) :=
  [("WIDTH", kTick 1 255), ("TOPUP", kJoule 0 65535), ("TOPUPEN", .switch), ("MAINSWAIT", .pow2 .time tickNs 1953125 64 10 17)]

/-- RELAY_CFG_CMD (R167). -/
def execRelayCfgCmd (p : PortId) (l : Line) (s : State) : Out :=
  verbRow .relay false (fun l => !relaySets l && !relayClears l) p l s fun s => do
    let a ← parseArgs s.compat relayKinds l.toks
    s.serves 4
    let t := s.relayStored a
    let t := if a.has "TOPUPEN" then t.topupWritten else t
    pure (t, .ok (fieldsOut t.relayFields))

/-- Name of the present closure. -/
def closureName : Closure → String
  | .none => "NONE"
  | .topup => "TOPUP"
  | .normal => "NORMAL"

/-- RELAY_QUERY (R167). -/
def execRelayQuery (p : PortId) (l : Line) (s : State) : Out :=
  verbRow .relay true anyForm p l s fun s => do
    noArgs l.toks
    s.serves 4
    pure (s, .ok (fieldsOut
      ([("STATE", relayName (s.get F.RELAY_STATUS_STATE)), ("PENDING", bitOut (s.flag F.RELAY_STATUS_PEND)),
        ("CLOSURE", closureName s.relay.closure)] ++ s.relayFields ++
       [("WAITMAINS", bitOut (s.flag F.RELAY_STATUS_WAIT_MAINS)), ("COUNT", dec (s.get F.RELAY_STATUS_COUNT))])))

/-- SET or CLR of RELAY_CTRL written 1 (R154, R164, R476). -/
def State.relayWritten (s : State) (set : Bool) : State :=
  let f := if set then F.RELAY_CTRL_SET else F.RELAY_CTRL_CLR
  if s.failed 4 ∨ s.flag f then s
  else
    let req (s : State) : State := (s.relayRequest { set := set, why := .register }).setFlag f true
    if set then req s
    else match s.relayRefusal with
    | some why => s.relayRefused why
    | none => req s

/-- RELAY_CTRL_SET (R164). -/
def execRelayCtrlSet (s : State) : Out := inRun s fun s => if s.underTest 4 then s else s.relayWritten true

/-- RELAY_CTRL_CLR (R154, R164). -/
def execRelayCtrlClr (s : State) : Out := inRun s fun s => if s.underTest 4 then s else s.relayWritten false

/-! ### BACKUP? (R168) -/

/-- BACKUP_QUERY (R168). -/
def execBackupQuery (p : PortId) (l : Line) (s : State) : Out :=
  verbRow .backup true anyForm p l s fun s => do
    noArgs l.toks
    s.serves 4
    let c := s.compat
    let used := s.get F.BACKUP_STATUS_USED
    pure (s, .ok (fieldsOut
      [("PRESENT", bitOut (s.flag F.BACKUP_STATUS_PRESENT)), ("ACTIVE", bitOut (s.get F.HARV_START_SOURCE == 2)),
       ("V", vOut c (s.get F.BACKUP_STATUS_VBACKUP * 1500 : Nat) 1000), ("LOW", bitOut (s.flag F.BACKUP_STATUS_LOW)),
       ("EMPTY", bitOut (s.flag F.BACKUP_STATUS_EMPTY)), ("USED", if c then dec (used / 100) else decimals 2 used 100 ++ "J")]))

end Sys2Proof.Machine
end

