-- ==== Sys2Proof/Machine/VerbsRail.lean ====
section
/-! DEFINITION. The verbs of phases and rails, PHASE, SYNC, BALANCE, RAIL, ENABLE, DISABLE, MARGIN, LIMIT and CAL PHn
(09_phase_control, 10_rail_targets, 11_rail_protection), and the register writes that stand for them. -/

namespace Sys2Proof.Machine

/-! ### What a write of a rail's or phase's registers does -/

/-- A write of RAILn_TARGET from `s` to `t` by register (R276, R282): a move only where TARGET or MARGIN changes. -/
def State.targetWritten (s t : State) (r : Nat) : State :=
  let u := s.keepUse t r (Reg.addr (.RAIL_TARGET r))
  if changed s t (F.RAIL_TARGET_TARGET r) || changed s t (F.RAIL_TARGET_MARGIN r) then u.move r (u.get (F.RAIL_RAMP_MOVE_SLEW r))
  else u

/-- Trims beyond LIM clamped at once (R265); a FOLLOWER holds its own. -/
def State.clampTrims (s : State) (r : Nat) : State :=
  let lim : Int := s.get (F.RAIL_BAL_LIM r)
  (s.assigned r).foldl (fun s n =>
    let t := s.sget (F.PH_TRIM_TRIM n)
    if s.phState n = 3 ∨ t.natAbs ≤ lim.natAbs then s else s.putTrim n t lim) s

/-- A write of RAILn_BAL from `s` to `t` (R263, R265, R272). -/
def State.balWritten (s t : State) (r : Nat) : State :=
  let u := s.keepUse t r (Reg.addr (.RAIL_BAL r))
  if s.word (Reg.addr (.RAIL_BAL r)) = t.word (Reg.addr (.RAIL_BAL r)) then u
  else if s.railOn r then u.clampTrims r else u.applyTrims r

/-- RAIL of phase `n` has changed from `s` to `t` (R238, R240): the phase is OFF, a SHED one stays SHED (R314). -/
def State.phRailWritten (s t : State) (n : Nat) : State :=
  let a := s.get (F.PH_CTRL_RAIL n)
  let b := t.get (F.PH_CTRL_RAIL n)
  if a = b then t
  else
    let t := if t.phState n = 4 then t else (t.triPhase n).set (F.PH_STATUS_STATE n) 0
    let t := t.set (F.PH_STATUS_RANK n) 0
    let t := if a < 6 then t.renumber a else t
    if b < 6 then (t.renumber b).applyTrims b else t

/-- MANUAL of phase `n` as written: the trim in use follows it in MANUAL mode (R263). -/
def State.manualWritten (s : State) (n : Nat) : State :=
  let r := s.get (F.PH_CTRL_RAIL n)
  if r < 6 ∧ s.get (F.RAIL_BAL_MODE r) = 2 ∧ s.phState n ≠ 3 then
    s.putTrim n (s.sget (F.PH_TRIM_MANUAL n)) (s.get (F.RAIL_BAL_LIM r))
  else s

/-- A RESTORE is accepted for rail `r` (R316): the rail is OFF and its EN is 0; an unassigned phase has no rail to wait
for. -/
def State.canRestore (s : State) (r : Nat) : Bool := decide (6 ≤ r) || (s.rs r == rsOff && !s.enabled r)

/-- Phase `n` has failed (R312, R305). -/
def State.phFailed (s : State) (n : Nat) : Bool :=
  s.flag (F.PH_PROT_OPEN n) || s.flag (F.PH_PROT_SENSE_FAIL n) || s.flag (F.PH_PROT_SHORT n)

/-- Phase `n` restored (R316, R317). -/
def State.restorePhase (s : State) (n : Nat) : State :=
  let s := [F.PH_PROT_OPEN n, F.PH_PROT_SENSE_FAIL n, F.PH_PROT_SHORT n, F.PH_PROT_SHED_PEND n, F.PH_PROT_SC_TRIPS n].foldl
    (fun s f => s.set f 0) s
  let s := (List.range 6).foldl (fun s r => ["PHASE_OPEN", "SENSE_FAIL", "PHASE_SHORT"].foldl (fun s c => s.clearKey (6 + r) c n) s) s
  let s := (s.sset (F.PH_TRIM_TRIM n) 0).setFlag (F.PH_TRIM_PINNED n) false
  let s := s.modPh n fun x => { x with pend := none, trips := 0, tripped := false, openRun := 0, endRun := 0, sameRun := 0, negRun := 0 }
  if s.phState n = 4 then s.set (F.PH_STATUS_STATE n) 0 else s

/-- PHn_PROT.RESTORE written 1 (R316): refused, the bit stays 0. -/
def State.restoreWritten (s : State) (n : Nat) : State :=
  if s.canRestore (s.get (F.PH_CTRL_RAIL n)) && s.phFailed n then s.restorePhase n else s

/-- RAILn_CTRL.EN written (R280, R293). -/
def State.enWritten (s : State) (r : Nat) (en : Bool) : State := if en then s.turnOn r else s.disableRail r 320 640 none

/-- PHn_CAL.CAL written 1 (R262): run, or queued while a sheet is claimed. -/
def State.calWritten (s : State) (n : Nat) : State :=
  if s.flag (F.PH_CAL_CAL_PEND n) then s
  else if 0 < s.claims then (s.setFlag (F.PH_CAL_CAL n) true).setFlag (F.PH_CAL_CAL_PEND n) true
  else (s.calPhase n).1

/-! ### The register rows -/

/-- RAIL_EN_WRITE (R293). -/
def execRailEnWrite (r : Fin 6) (en : Bool) (s : State) : Out :=
  inRun s fun s => if s.part.hasRail r && s.works (railBp r) then s.enWritten r en else s

/-- RAIL_TARGET_WRITE (R275, R282): a word out of range leaves the register unchanged. -/
def execRailTargetWrite (r : Fin 6) (w : Word) (s : State) : Out :=
  inRun s fun s =>
    if s.part.hasRail r && s.works (railBp r) then
      match s.tryWord (.RAIL_TARGET r) w with
      | some t => s.targetWritten t r
      | none => s
    else s

/-- PH_CAL_REQUEST (R262). -/
def execPhCalRequest (n : Fin 16) (s : State) : Out :=
  inRun s fun s => if n < s.part.phases ∧ s.works (s.phBp n) then s.calWritten n else s

/-- PH_RESTORE_REQUEST (R316). -/
def execPhRestoreRequest (n : Fin 16) (s : State) : Out :=
  inRun s fun s => if n < s.part.phases ∧ s.works (s.phBp n) then s.restoreWritten n else s

/-! ### PHASE (R270) -/

/-- A rail's name, NONE for an unassigned phase. -/
def railOpt (r : Nat) : String := if r < 6 then railName r else "NONE"

/-- OFFSET of phase `n` as a current (R270): 1/16 code of 1 mV over ISGAIN in 0.01 mV/A. An unassigned phase has no
ISGAIN: its value is free. -/
def State.offsetOut (s : State) (n : Nat) : String × State :=
  let r := s.get (F.PH_CTRL_RAIL n)
  let (g, s) := if r < 6 then (s.get (F.RAIL_SW_ISGAIN r), s) else
    let (v, s) := s.drawBelow 801
    (200 + v, s)
  (aOut s.compat (s.sget (F.PH_CAL_OFFSET n) * 100000) (16 * max 1 g), s)

/-- Names of the states of a phase (R240). -/
def phStateName (k : Nat) : String := ["OFF", "ACTIVE", "IDLE", "FOLLOWER", "SHED"].getD k "OFF"

/-- PHASE_CMD (R238, R248, R263, R270). -/
def execPhaseCmd (p : PortId) (l : Line) (s : State) : Out :=
  verbRow .phase false anyForm p l s fun s => do
    let n ← objPhase s.part l
    nonAbsent (restToks l) "RAIL" (absentRail s.part)
    let a ← parseArgs s.compat [("RAIL", .raw), ("TRIM", kPct 1 (-120) 120)] (restToks l)
    let rail ← match a.txt "RAIL" with
      | none => pure none
      | some "NONE" => pure (some 7)
      | some t => match readRail t with
        | some r => pure (some r)
        | none => throw (.range "RAIL")
    let t := s.setArg (F.PH_CTRL_RAIL n) rail
    let r := t.get (F.PH_CTRL_RAIL n)
    if !t.refOk then throw (.range "RAIL")
    match a.int "TRIM" with
      | some v => if r < 6 ∧ (t.get (F.RAIL_BAL_LIM r) : Int) < v.natAbs then throw (.range "TRIM")
      | none => pure ()
    s.serves (s.phBp n)
    if !(t.regOk (.PH_CTRL n) && s.changeOk t (.PH_CTRL n)) then throw (.state "ENABLED")
    if a.has "TRIM" ∧ !(r < 6 ∧ t.get (F.RAIL_BAL_MODE r) = 2) then throw (.state "MODE")
    let t := s.phRailWritten t n
    let t := if a.has "TRIM" then (t.setArgI (F.PH_TRIM_MANUAL n) (a.int "TRIM")).manualWritten n else t
    pure (t, .ok (phName n ++
      (if a.has "RAIL" then " RAIL=" ++ railOpt r else "") ++
      (if a.has "TRIM" then " TRIM=" ++ pctOut t.compat (t.sget (F.PH_TRIM_MANUAL n)) 10 else "")))

/-- PHASE_QUERY (R270). -/
def execPhaseQuery (p : PortId) (l : Line) (s : State) : Out :=
  verbRow .phase true anyForm p l s fun s => do
    let n ← objPhase s.part l
    noArgs (restToks l)
    s.serves (s.phBp n)
    let c := s.compat
    let (ofs, t) := s.offsetOut n
    pure (t, .ok (phName n ++ " " ++ fieldsOut
      [("RAIL", railOpt (s.get (F.PH_CTRL_RAIL n))), ("STATE", phStateName (s.phState n)), ("RANK", dec (s.get (F.PH_STATUS_RANK n))),
       ("I", aOut c (s.sget (F.PH_ISNS_I n) * 10)), ("OFFSET", ofs), ("TRIM", pctOut c (s.sget (F.PH_TRIM_TRIM n)) 10),
       ("PINNED", bitOut (s.flag (F.PH_TRIM_PINNED n))), ("ONTIME", siOut c 0 "ns" 1 (s.get (F.PH_STATUS_ONTIME n) : Nat)),
       ("OFSBAD", bitOut (s.flag (F.PH_CAL_OFS_BAD n))), ("CAL", if s.flag (F.PH_CAL_CAL_PEND n) then "QUEUED" else "IDLE")]))

/-- CAL names neither the gauge nor a head: a phase, or an object that CAL does not know. -/
def calsPhase (l : Line) : Bool :=
  match objTok l with
  | some t => t != "GAUGE" && !(numAfter "HEAD" t).isSome
  | none => true

/-- CAL_PHASE_CMD (R262, R273). -/
def execCalPhaseCmd (p : PortId) (l : Line) (s : State) : Out :=
  verbRow .cal false calsPhase p l s fun s => do
    let n ← objPhase s.part l
    noArgs (restToks l)
    s.serves (s.phBp n)
    if 0 < s.claims then
      let t := (s.setFlag (F.PH_CAL_CAL n) true).setFlag (F.PH_CAL_CAL_PEND n) true
      pure (t.modPh n fun x => { x with calOwed := x.calOwed ++ [owe p l (phName n)] }, .queued)
    else
      match s.calPhase n with
      | (t, some d) => pure (t, .refused d)
      | (t, none) =>
        let (ofs, t) := t.offsetOut n
        pure (t, .ok (phName n ++ " OFFSET=" ++ ofs))

/-! ### SYNC (R271) -/

/-- The settings of SYNC. -/
def State.syncFields (s : State) : String :=
  fieldsOut
    [("MODE", if s.flag F.SYS_SYNC_MODE then "EXTERNAL" else "INTERNAL"), ("FREQ", fOut s.compat (s.get F.SYS_SYNC_FINT * 1000 : Nat)),
     ("OUT", onOut (s.flag F.SYS_SYNC_OUT_EN)), ("SHIFT", dec (s.get F.SYS_SYNC_OUT_SHIFT)), ("MARK", onOut (s.flag F.SYS_SYNC_OUT_MARK))]

/-- The settings of the reference with the arguments given (R271). -/
def State.syncStored (s : State) (a : Args) : State :=
  let t := ((s.setArg F.SYS_SYNC_MODE (a.nat "MODE")).setArg F.SYS_SYNC_FINT (a.nat "FREQ")).setArg F.SYS_SYNC_OUT_EN (a.nat "OUT")
  (t.setArg F.SYS_SYNC_OUT_SHIFT (a.nat "SHIFT")).setArg F.SYS_SYNC_OUT_MARK (a.nat "MARK")

/-- The arguments of SYNC. -/
def syncKinds : List (String × Kind) :=
  [("MODE", .enum ["INTERNAL", "EXTERNAL"]), ("FREQ", kFreq 1000 250 3000), ("OUT", .switch), ("SHIFT", .num 0 63),
   ("MARK", .switch)]

/-- SYNC_CMD (R248, R271). -/
def execSyncCmd (p : PortId) (l : Line) (s : State) : Out :=
  verbRow .sync false anyForm p l s fun s => do
    let a ← parseArgs s.compat syncKinds l.toks
    let t := s.syncStored a
    if !t.refOk then throw (.range "FREQ")
    s.serves 4
    pure (t.syncWritten, .ok t.syncFields)

/-- SYNC_QUERY (R271). -/
def execSyncQuery (p : PortId) (l : Line) (s : State) : Out :=
  verbRow .sync true anyForm p l s fun s => do
    noArgs l.toks
    s.serves 4
    let c := s.compat
    pure (s, .ok (s.syncFields ++ " " ++ fieldsOut
      [("SOURCE", ["INTERNAL", "EXTERNAL", "HOLDOVER"].getD (s.get F.SYS_SWSTAT_SRC) "INTERNAL"),
       ("QUAL", bitOut (s.flag F.SYS_SWSTAT_QUAL)), ("FIN", fOut c (s.fref 4 : Nat)), ("ANCHORED", bitOut (s.flag F.SYS_SWSTAT_ANCHORED)),
       ("VIN", vOut c (s.get F.SYS_SWSTAT_VIN * 50 : Nat))]))

/-! ### BALANCE (R272) -/

/-- The settings of BALANCE. -/
def State.balanceFields (s : State) (r : Nat) : String :=
  let c := s.compat
  railName r ++ " " ++ fieldsOut
    [("MODE", ["OFF", "AUTO", "MANUAL"].getD (s.get (F.RAIL_BAL_MODE r)) "OFF"), ("LIMIT", pctOut c (s.get (F.RAIL_BAL_LIM r) : Nat) 10),
     ("DEADBAND", aOut c (s.get (F.RAIL_BAL_DB r) * 50 : Nat)), ("MIN", aOut c (s.get (F.RAIL_BAL_BAL_MIN r) * 100 : Nat)),
     ("DIV", dec (2 ^ s.get (F.RAIL_SW_DIV r))), ("OFFSET", dec (s.get (F.RAIL_SW_OFFSET r))),
     ("RIPPLE", vOut c (s.get (F.RAIL_SW_RIPPLE r) : Nat)), ("MINOFF", siOut c 0 "ns" 1 (s.get (F.RAIL_SW_MIN_OFF r) : Nat)),
     ("ISGAIN", ohmOut c (s.get (F.RAIL_SW_ISGAIN r) * 10 : Nat)), ("AUTOSHED", onOut (s.flag (F.RAIL_LIGHT_AUTOSHED r))),
     ("SHED", aOut c (s.get (F.RAIL_LIGHT_SHED_I r) * 100 : Nat)), ("ADD", aOut c (s.get (F.RAIL_LIGHT_ADD_I r) * 100 : Nat)),
     ("MINPH", dec (s.get (F.RAIL_LIGHT_MIN_PH r) + 1))]

/-- The arguments of BALANCE. -/
def balanceKinds : List (String × Kind) :=
  [("MODE", .enum ["OFF", "AUTO", "MANUAL"]), ("LIMIT", kPct 1 0 120), ("DEADBAND", kAmp 50 1 63), ("MIN", kAmp 100 0 255),
   ("DIV", .num 1 8), ("OFFSET", .num 0 63), ("RIPPLE", kVolt 1 1 4 63), ("MINOFF", kTime 1 1 40 200), ("ISGAIN", kOhm 10 200 1000),
   ("AUTOSHED", .switch), ("SHED", kAmp 100 1 255), ("ADD", kAmp 100 1 255), ("MINPH", .num 1 8)]

/-- The exponent of a divider: 1, 2, 4 or 8. -/
def divCode (v : Option Nat) : Except Ans (Option Nat) :=
  match v with
  | none => pure none
  | some 1 => pure (some 0)
  | some 2 => pure (some 1)
  | some 4 => pure (some 2)
  | some 8 => pure (some 3)
  | some _ => throw (.range "DIV")

/-- A write of a rail's switching registers from `s` to `t` (R272). -/
def State.switchWritten (s t : State) (r : Nat) : State :=
  let t := s.keepUse t r (Reg.addr (.RAIL_SW r))
  s.balWritten (s.keepUse t r (Reg.addr (.RAIL_LIGHT r))) r

/-- The settings of balancing with the arguments given (R272). -/
def State.balanceStored (s : State) (r : Nat) (a : Args) (dv : Option Nat) : State :=
  let t := ((s.setArg (F.RAIL_BAL_MODE r) (a.nat "MODE")).setArg (F.RAIL_BAL_LIM r) (a.nat "LIMIT")).setArg (F.RAIL_BAL_DB r)
    (a.nat "DEADBAND")
  let t := ((t.setArg (F.RAIL_BAL_BAL_MIN r) (a.nat "MIN")).setArg (F.RAIL_SW_DIV r) dv).setArg (F.RAIL_SW_OFFSET r) (a.nat "OFFSET")
  let t := ((t.setArg (F.RAIL_SW_RIPPLE r) (a.nat "RIPPLE")).setArg (F.RAIL_SW_MIN_OFF r) (a.nat "MINOFF")).setArg (F.RAIL_SW_ISGAIN r)
    (a.nat "ISGAIN")
  let t := ((t.setArg (F.RAIL_LIGHT_AUTOSHED r) (a.nat "AUTOSHED")).setArg (F.RAIL_LIGHT_SHED_I r) (a.nat "SHED")).setArg
    (F.RAIL_LIGHT_ADD_I r) (a.nat "ADD")
  t.setArg (F.RAIL_LIGHT_MIN_PH r) ((a.nat "MINPH").map fun n => n - 1)

/-- BALANCE_CMD (R248, R254, R272). -/
def execBalanceCmd (p : PortId) (l : Line) (s : State) : Out :=
  verbRow .balance false anyForm p l s fun s => do
    let r ← objRail s.part l
    let a ← parseArgs s.compat balanceKinds (restToks l)
    let dv ← divCode (a.nat "DIV")
    let t := s.balanceStored r a dv
    if !t.refOk then throw (.range "DIV")
    if !t.regOk (.RAIL_LIGHT r) then throw (.range "ADD")
    s.serves (railBp r)
    if s.enabled r ∧ (a.has "DIV" ∨ a.has "ISGAIN") then throw (.state "ENABLED")
    let t := s.switchWritten t r
    pure (t, .ok (t.balanceFields r))

/-- A query's forms: none, or one word. -/
def formOf (toks forms : List String) : Except Ans String :=
  match toks with
  | [] => pure ""
  | [t] => if forms.contains t then pure t else throw (.arg t)
  | _ :: t :: _ => throw (.arg t)

/-- BALANCE_QUERY (R272). -/
def execBalanceQuery (p : PortId) (l : Line) (s : State) : Out :=
  verbRow .balance true anyForm p l s fun s => do
    let r ← objRail s.part l
    let f ← formOf (restToks l) ["STATUS"]
    s.serves (railBp r)
    let c := s.compat
    if f = "" then pure (s, .ok (s.balanceFields r))
    else pure (s, .ok (railName r ++ " " ++ fieldsOut
      [("FSW", fOut c (s.fref (railBp r) : Nat) (2 ^ s.get (F.RAIL_SW_DIV r))), ("PHASES", listOut ((s.assigned r).map phName)),
       ("ACTIVE", listOut ((s.rotation r).map phName)), ("LOCK", ["FREE", "PULLING", "LOCKED"].getD (s.get (F.RAIL_LOCK_LOCK r)) "FREE"),
       ("LOCKTRIM", pctOut c (s.sget (F.RAIL_LOCK_LOCK_I r)) 10), ("ERR", pctOut c (s.sget (F.RAIL_LOCK_ERR r) * 100) 256),
       ("I", aOut c (s.iRail r * 10))]))

/-! ### RAIL (R294, R295) -/

/-- The settings of RAIL: name and stored value. -/
def State.railFields (s : State) (r : Nat) : List (String × String) :=
  let c := s.compat
  [("TARGET", vOut c (s.get (F.RAIL_TARGET_TARGET r) : Nat)), ("LOADLINE", ohmOut c (s.get (F.RAIL_TARGET_LOADLINE r) * 10 : Nat)),
   ("ONDELAY", tkOut c (s.get (F.RAIL_DELAY_ON_DLY r))), ("OFFDELAY", tkOut c (s.get (F.RAIL_DELAY_OFF_DLY r))),
   ("ONSLEW", slewOut c (s.get (F.RAIL_RAMP_ON_SLEW r) : Nat) 10), ("OFFSLEW", slewOut c (s.get (F.RAIL_RAMP_OFF_SLEW r) : Nat) 10),
   ("MOVESLEW", slewOut c (s.get (F.RAIL_RAMP_MOVE_SLEW r) : Nat) 10), ("NL", onOut (s.flag (F.RAIL_NL_NL_EN r))),
   ("NLTHR", vOut c (s.get (F.RAIL_NL_NL_THR r) * 5 : Nat)), ("NLMAXON", siOut c 0 "ns" 1 (s.get (F.RAIL_NL_NL_MAXON r) : Nat)),
   ("ANT", onOut (s.flag (F.RAIL_ANT_ANT_EN r))),
   ("IEM", (let i := s.get (F.RAIL_ANT_IEM r)
            if c then intOut i 100 else decimals 2 i 100 ++ "mA")),
   ("LPH", dec (s.get (F.RAIL_ANT_LPH r) * 10)), ("ANTDLY", siOut c 0 "ns" 1 (s.get (F.RAIL_ANT_ANT_DLY r) : Nat))]

/-- The fields of some names, in their order. -/
def pick (xs : List (String × String)) (names : List String) : List (String × String) := xs.filter fun x => names.contains x.1

/-- The arguments of RAIL. -/
def railKinds : List (String × Kind) :=
  [("TARGET", kVolt 1 1 400 5600), ("SLEW", kSlew 1 255), ("LOADLINE", kOhm 10 0 400), ("ONDELAY", kTick 0 1023),
   ("OFFDELAY", kTick 0 1023), ("ONSLEW", kSlew 1 255), ("OFFSLEW", kSlew 1 255), ("MOVESLEW", kSlew 1 255), ("NL", .switch),
   ("NLTHR", kVolt 5 1 1 63), ("NLMAXON", kTime 1 1 40 2000), ("ANT", .switch), ("IEM", .q .amp (1, 1) 10000 1 0 1023),
   ("LPH", .q .plain (1, 1) 10 1 1 255), ("ANTDLY", kTime 1 1 0 63)]

/-- The settings of a rail with the arguments given (R294): SLEW is not stored. -/
def State.railStored (s : State) (r : Nat) (a : Args) : State :=
  let t := (s.setArg (F.RAIL_TARGET_TARGET r) (a.nat "TARGET")).setArg (F.RAIL_TARGET_LOADLINE r) (a.nat "LOADLINE")
  let t := (t.setArg (F.RAIL_DELAY_ON_DLY r) (a.nat "ONDELAY")).setArg (F.RAIL_DELAY_OFF_DLY r) (a.nat "OFFDELAY")
  let t := ((t.setArg (F.RAIL_RAMP_ON_SLEW r) (a.nat "ONSLEW")).setArg (F.RAIL_RAMP_OFF_SLEW r) (a.nat "OFFSLEW")).setArg
    (F.RAIL_RAMP_MOVE_SLEW r) (a.nat "MOVESLEW")
  let t := ((t.setArg (F.RAIL_NL_NL_EN r) (a.nat "NL")).setArg (F.RAIL_NL_NL_THR r) (a.nat "NLTHR")).setArg (F.RAIL_NL_NL_MAXON r)
    (a.nat "NLMAXON")
  let t := ((t.setArg (F.RAIL_ANT_ANT_EN r) (a.nat "ANT")).setArg (F.RAIL_ANT_IEM r) (a.nat "IEM")).setArg (F.RAIL_ANT_LPH r)
    (a.nat "LPH")
  t.setArg (F.RAIL_ANT_ANT_DLY r) (a.nat "ANTDLY")

/-- RAIL_CMD (R275, R276, R282, R294): the reply names the arguments written; SLEW is not stored. -/
def execRailCmd (p : PortId) (l : Line) (s : State) : Out :=
  verbRow .rail false anyForm p l s fun s => do
    let r ← objRail s.part l
    let a ← parseArgs s.compat railKinds (restToks l) fun has =>
      if has "SLEW" && !has "TARGET" then some "SLEW" else none
    let t := s.railStored r a
    if !t.vSetmOk r then throw (.range "TARGET")
    s.serves (railBp r)
    if a.nat "ANT" = some 1 ∧ s.part.heads ≤ r then throw (.refused "NOHEAD")
    let t := s.keepUse t r (Reg.addr (.RAIL_TARGET r))
    let out := pick (t.railFields r) (a.map Prod.fst)
    let t := if a.has "TARGET" then t.move r ((a.nat "SLEW").getD (t.get (F.RAIL_RAMP_MOVE_SLEW r))) else t
    pure (t, .ok (railName r ++ (if out.isEmpty then "" else " " ++ fieldsOut out)))

/-- The fields of RAIL? STATUS. -/
def State.railStatus (s : State) (r : Nat) : List (String × String) :=
  let c := s.compat
  [("STATE", rsName (s.rs r)), ("VSETM", vOut c (s.vSetm r)), ("VCMD", vOut c (s.get (F.RAIL_STATUS_VCMD r) : Nat)),
   ("VREF", vOut c (s.vRefU r : Nat) 10000), ("I", aOut c (s.iRail r * 10)), ("TRPEND", bitOut (s.flag (F.RAIL_CTRL_TR_PEND r))),
   ("VPRED", listOut ((s.rail r).vpreds.map fun v => vOut c (v : Nat)))]

/-- RAIL_QUERY (R295). -/
def execRailQuery (p : PortId) (l : Line) (s : State) : Out :=
  verbRow .rail true anyForm p l s fun s => do
    let r ← objRail s.part l
    let f ← formOf (restToks l) ["RAMP", "NL", "ANT", "STATUS"]
    s.serves (railBp r)
    let xs := s.railFields r
    let out := match f with
      | "RAMP" => pick xs ["ONDELAY", "OFFDELAY", "ONSLEW", "OFFSLEW", "MOVESLEW"]
      | "NL" => pick xs ["NL", "NLTHR", "NLMAXON"] ++ [("NLCOUNT", dec (s.get (F.RAIL_STATUS_NL_COUNT r))),
          ("NLLAST", siOut s.compat 0 "ns" 1 (s.get (F.RAIL_STATUS_NL_LAST r) * 4 : Nat))]
      | "ANT" => pick xs ["ANT", "IEM", "LPH", "ANTDLY"]
      | "STATUS" => s.railStatus r
      | _ => pick xs ["TARGET", "LOADLINE"] ++ [("STATE", rsName (s.rs r))]
    pure (s, .ok (railName r ++ " " ++ fieldsOut out))

/-! ### ENABLE and DISABLE (R296) -/

/-- The reply of ENABLE and DISABLE. -/
def State.stateReply (s : State) (r : Nat) : Ans := .ok (railName r ++ " STATE=" ++ rsName (s.rs r))

/-- ENABLE_CMD (R216, R238, R296). -/
def execEnableCmd (p : PortId) (l : Line) (s : State) : Out :=
  verbRow .enable false anyForm p l s fun s => do
    let r ← objRail s.part l
    noArgs (restToks l)
    s.serves (railBp r)
    if (s.assigned r).isEmpty then throw (.state "NOPHASE")
    let t := s.turnOn r
    pure (t, t.stateReply r)

/-- DISABLE_CMD (R280, R296). -/
def execDisableCmd (p : PortId) (l : Line) (s : State) : Out :=
  verbRow .disable false anyForm p l s fun s => do
    let r ← objRail s.part l
    noArgs (restToks l)
    s.serves (railBp r)
    let t := s.disableRail r 320 640 none
    pure (t, t.stateReply r)

/-! ### MARGIN (R297) -/

/-- MARGIN and VSETM as replies carry them. -/
def State.marginFields (s : State) (r : Nat) : List (String × String) :=
  [("MARGIN", pctOut s.compat (s.sget (F.RAIL_TARGET_MARGIN r)) 10), ("VSETM", vOut s.compat (s.vSetm r))]

/-- MARGIN_CMD (R275, R282, R297). -/
def execMarginCmd (p : PortId) (l : Line) (s : State) : Out :=
  verbRow .margin false anyForm p l s fun s => do
    let r ← objRail s.part l
    match restToks l with
    | [] => throw (.arg "")
    | v :: more =>
      if (cutEq v.toList).isSome then throw (.arg v)
      let (m, a) ← together (bareValue s.compat (kPct 1 (-100) 100) v) (parseArgs s.compat [("SLEW", kSlew 1 255)] more)
      s.serves (railBp r)
      match s.marginSet r m with
      | none => throw (.range v)
      | some t =>
        let t := t.move r ((a.nat "SLEW").getD (t.get (F.RAIL_RAMP_MOVE_SLEW r)))
        pure (t, .ok (railName r ++ " " ++ fieldsOut (t.marginFields r)))

/-- MARGIN_QUERY (R297). -/
def execMarginQuery (p : PortId) (l : Line) (s : State) : Out :=
  verbRow .margin true anyForm p l s fun s => do
    let r ← objRail s.part l
    noArgs (restToks l)
    s.serves (railBp r)
    pure (s, .ok (railName r ++ " " ++ fieldsOut (s.marginFields r ++ [("STATE", rsName (s.rs r))])))

/-! ### LIMIT (R319, R320) -/

/-- The settings of LIMIT. -/
def State.limitFields (s : State) (r : Nat) : List (String × String) :=
  let c := s.compat
  let ms (f : Field) : String := siOut c 0 "ms" 1000000 (s.get f : Nat)
  [("CURRENT", aOut c (s.get (F.RAIL_LIMIT_LIMIT r) * 100 : Nat)), ("OV", pctOut c (s.get (F.RAIL_PROT_OV_PCT r) : Nat)),
   ("OTWARN", tOut c (s.get (F.RAIL_PROT_OT_WARN r) : Nat)), ("OTSHUT", tOut c (s.get (F.RAIL_PROT_OT_SHUT r) : Nat)),
   ("HICCUPN", dec (s.get (F.RAIL_LIMIT_HICCUP_N r))), ("HICCUPT", ms (F.RAIL_LIMIT_HICCUP_T r)),
   ("HICCUPMAX", dec (s.get (F.RAIL_LIMIT_HICCUP_MAX r))), ("OVERLOAD", ms (F.RAIL_PROT_OVL_T r))]

/-- The value of a RESTORE argument, none where the line carries none. -/
def restoreText (l : Line) : Option String :=
  (restToks l).findSome? fun t => match cutEq t.toList with
    | some (n, v) => if String.ofList n = "RESTORE" then some (String.ofList v) else none
    | none => none

/-- LIMIT carries a RESTORE. -/
def restores (l : Line) : Bool := (restoreText l).isSome

/-- The settings of protection with the arguments given (R319). -/
def State.limitStored (s : State) (r : Nat) (a : Args) : State :=
  let t := ((s.setArg (F.RAIL_LIMIT_LIMIT r) (a.nat "CURRENT")).setArg (F.RAIL_PROT_OV_PCT r) (a.nat "OV")).setArg
    (F.RAIL_PROT_OT_WARN r) (a.nat "OTWARN")
  let t := ((t.setArg (F.RAIL_PROT_OT_SHUT r) (a.nat "OTSHUT")).setArg (F.RAIL_LIMIT_HICCUP_N r) (a.nat "HICCUPN")).setArg
    (F.RAIL_LIMIT_HICCUP_T r) (a.nat "HICCUPT")
  (t.setArg (F.RAIL_LIMIT_HICCUP_MAX r) (a.nat "HICCUPMAX")).setArg (F.RAIL_PROT_OVL_T r) (a.nat "OVERLOAD")

/-- The arguments of LIMIT without RESTORE. -/
def limitKinds : List (String × Kind) :=
  [("CURRENT", kAmp 100 10 4000), ("OV", kPct 10 2 20), ("OTWARN", kTemp 40 140), ("OTSHUT", kTemp 60 145), ("HICCUPN", .num 1 255),
   ("HICCUPT", kTime 1000000 1000000 1 255), ("HICCUPMAX", .num 0 15), ("OVERLOAD", kTime 1000000 1000000 1 2000)]

/-- LIMIT_CMD (R319). -/
def execLimitCmd (p : PortId) (l : Line) (s : State) : Out :=
  verbRow .limit false (fun l => !restores l) p l s fun s => do
    let r ← objRail s.part l
    let a ← parseArgs s.compat limitKinds (restToks l)
    let t := s.limitStored r a
    if !t.regOk (.RAIL_PROT r) then throw (.range "OTWARN")
    s.serves (railBp r)
    let t := s.keepUse t r (Reg.addr (.RAIL_LIMIT r))
    let out := pick (t.limitFields r) (a.map Prod.fst)
    pure (t, .ok (railName r ++ (if out.isEmpty then "" else " " ++ fieldsOut out)))

/-- The phases that RESTORE names (R319): a failed phase of the rail, or all of them. -/
def State.restoreSet (s : State) (r : Nat) (t : String) : Except Ans (List Nat) :=
  if t = "ALL" then .ok ((s.assigned r).filter s.phFailed)
  else match readUnit "PH" 16 t with
  | none => .error (.range "RESTORE")
  | some n =>
    if s.part.phases ≤ n then .error .absent
    else if s.get (F.PH_CTRL_RAIL n) ≠ r then .error (.object t)
    else .ok (if s.phFailed n then [n] else [])

/-- LIMIT_RESTORE_CMD (R316, R319). -/
def execLimitRestoreCmd (p : PortId) (l : Line) (s : State) : Out :=
  verbRow .limit false restores p l s fun s => do
    let r ← objRail s.part l
    let set := s.restoreSet r ((restoreText l).getD "")
    match set with
      | .error (.no 15 n d) => throw (.no 15 n d)
      | .error .absent => throw .absent
      | _ => pure ()
    let _ ← parseArgs s.compat [("RESTORE", .raw)] (restToks l)
    let ns ← set
    s.serves (railBp r)
    if !s.canRestore r then throw (.state "ENABLED")
    pure (ns.foldl (fun s n => s.restorePhase n) s, .ok (railName r ++ " RESTORE=" ++ listOut (ns.map phName)))

/-- LIMIT_QUERY (R320). -/
def execLimitQuery (p : PortId) (l : Line) (s : State) : Out :=
  verbRow .limit true anyForm p l s fun s => do
    let r ← objRail s.part l
    let f ← formOf (restToks l) ["STATUS"]
    s.serves (railBp r)
    let c := s.compat
    let b (f : Field) : String := bitOut (s.flag f)
    if f = "" then pure (s, .ok (railName r ++ " " ++ fieldsOut (s.limitFields r)))
    else pure (s, .ok (railName r ++ " " ++ fieldsOut
      [("IFORCE", aOut c (s.iForce r * 100 : Nat)), ("TEMP", tOut c ((s.get (F.RAIL_PSTAT_TEMP r) : Int) - 40)),
       ("LIMITING", b (F.RAIL_PSTAT_LIMITING r)), ("OVERLOAD", b (F.RAIL_PSTAT_OVERLOAD r)), ("HICCUP", b (F.RAIL_PSTAT_HICCUP r)),
       ("HICCUPS", dec (s.get (F.RAIL_PSTAT_HICCUPS r))), ("SHED", listOut ((s.phasesIn r [4]).map phName)),
       ("FOLLOWER", listOut ((s.phasesIn r [3]).map phName)),
       ("TSNS", if s.flag (F.RAIL_PSTAT_STAGE_FAULT r) then "FAULT" else if s.flag (F.RAIL_PSTAT_TSNS_OPEN r) then "OPEN" else "OK")]))

end Sys2Proof.Machine
end

