-- ==== Sys2Proof/Machine/RegWrites.lean ====
section
/-! DEFINITION. A word written to a register (R15, R16, R17, R62, R468, R472 to R474, R476): the stored fields with what
their change starts, the bits cleared by a 1, and the actions started by a 1. -/

namespace Sys2Proof.Machine

/-! ### Stored fields -/

/-- SYS_VCORE written: the level in force is the one just written (R70), reached at once (R67). -/
def State.vcoreWritten (s t : State) : State :=
  if t.core.stby then (if changed s t F.SYS_VCORE_STBY_LVL then t.setVcore (t.get F.SYS_VCORE_STBY_LVL * 10) else t)
  else if changed s t F.SYS_VCORE_RUN_LVL ∧ t.flag F.SYS_VCORE_GOOD then t.setVcore (t.get F.SYS_VCORE_RUN_LVL * 10)
  else t

/-- What a write of register `r`, its fields stored from `s` to `t`, starts. -/
def State.rwDone (s t : State) (r : Reg) : State :=
  match r with
  | .SYS_VCORE => s.vcoreWritten t
  | .SYS_SYNC => t.syncWritten
  | .RAIL_CTRL n => (t.setFlag (F.RAIL_CTRL_EN n) (s.enabled n)).enWritten n (t.enabled n)
  | .RAIL_TARGET n => s.targetWritten t n
  | .RAIL_SW n => s.switchWritten t n
  | .RAIL_LIGHT n => s.switchWritten t n
  | .RAIL_BAL n => s.balWritten t n
  | .RAIL_LIMIT n => s.keepUse t n (Reg.addr (.RAIL_LIMIT n))
  | .PH_CTRL n => s.phRailWritten t n
  | .PH_TRIM n => t.manualWritten n
  | .MON_CTRL n => s.monWritten t n
  | .MON_THR n => s.monWritten t n
  | .MON_TIME n => s.monWritten t n
  | .HARV_CTRL i => t.harvSet i
  | .HARV_LIM i => t.harvSet i
  | .RES_CFG => s.stackWritten t
  | .RES_BAL => s.stackWritten t
  | .BR_CTRL => t.bridgeWritten (t.flag F.BR_CTRL_EN)
  | .RELAY_CTRL => t.topupWritten
  | .GAUGE_BUDGET => s.gaugeWritten t
  | .GAUGE_CFG => s.gaugeWritten t
  | .GAUGE_CAP => s.gaugeWritten t
  | .GAUGE_ESR => s.gaugeWritten t
  | .LINE_CTRL h => s.lineCtrlDone t h (some (t.lineEn h))
  | .LINE_REG h => t.regMoved h
  | .HEAD_CTRL h => if changed s t (F.HEAD_CTRL_INHIBIT h) then t.inhibitWritten h else t
  | _ => t

/-! ### Bits cleared by a 1 -/

/-- Sources cleared by the bits of `m`, numbered from `base` (R400). -/
def State.clearSources (s : State) (base m : Nat) : State := (bitsSet m 32).foldl (fun s k => s.clearSource (base + k)) s

/-- FAULT_FIRST emptied (R417). -/
def State.emptyFirst (s : State) : State := (s.setWord (Reg.addr .FAULT_FIRST) 0#32).set F.FAULT_FIRST_T_TICK 0

/-- The W1C bits of register `r` cleared where `w` holds a 1 (R15). PRESENT of FREIGHT_LATE ends with the last LATE bit
(R91). -/
def State.w1cDone (s : State) (r : Reg) (w : Nat) : State :=
  let m := Nat.land w r.w1c
  let plain (s : State) : State := s.setWord r.addr (BitVec.ofNat 32 (maskMinus (s.word r.addr).toNat m))
  if m = 0 then s
  else match r with
  | .FAULT_LAT_LO => s.clearSources 0 m
  | .FAULT_LAT_HI => s.clearSources 32 m
  | .FAULT_FIRST => s.emptyFirst
  | .FAULT_SRC =>
    let e := s.get F.FAULT_SEL_SRC
    if sourceAbsent s.part e then s else s.clearSource e
  | .SYS_FREIGHT =>
    let s := plain s
    if s.get F.SYS_FREIGHT_LATE = 0 then s.clear 63 "FREIGHT_LATE" else s
  | _ => plain s

/-! ### Actions started by a 1 -/

/-- The actions that the SC bits of register `r` start where `w` holds a 1 (R15, R476). -/
def State.scDone (s : State) (r : Reg) (w : Nat) : State :=
  let on (f : Field) (act : State → State) (s : State) : State := if bitAt w f.lo then act s else s
  match r with
  | .FLT_CTRL => on F.FLT_CTRL_RELEASE State.fltRelease s
  | .TT_CTRL =>
    on F.TT_CTRL_STOP (fun s => s.ttStop (s.get F.TT_CTRL_SEL))
      (on F.TT_CTRL_START (fun s => s.ttRequest (s.get F.TT_CTRL_SEL) .reg) s)
  | .PH_CAL n => on (F.PH_CAL_CAL n) (fun s => s.calWritten n) s
  | .PH_PROT n => on (F.PH_PROT_RESTORE n) (fun s => s.restoreWritten n) s
  | .RELAY_CTRL =>
    on F.RELAY_CTRL_CLR (fun s => s.relayWritten false) (on F.RELAY_CTRL_SET (fun s => s.relayWritten true) s)
  | .BIST_CTRL => on F.BIST_CTRL_ABORT State.bistAbort (on F.BIST_CTRL_START State.bistStart s)
  | .NV_CTRL => on F.NV_CTRL_SAVE State.saveWritten s
  | .LINE_LINK h => on (F.LINE_LINK_TRAIN h) (fun s => s.trainWritten h) s
  | .HEAD_CTRL h => on (F.HEAD_CTRL_RESUME h) (fun s => s.resumeWritten h) s
  | .HEAD_LG h => on (F.HEAD_LG_ABORT h) (fun s => s.lgAbortWritten h) (on (F.HEAD_LG_START h) (fun s => s.lgStartWritten h) s)
  | .HEAD_CAL h => on (F.HEAD_CAL_CAL h) (fun s => s.headCalWritten h) s
  | _ => s

/-! ### The write -/

/-- SET and CLR of RELAY_CTRL written 1 together (R164). -/
def bothRelay (r : Reg) (w : Nat) : Bool :=
  r == .RELAY_CTRL && bitAt w F.RELAY_CTRL_SET.lo && bitAt w F.RELAY_CTRL_CLR.lo

/-- A register of a working partition written. A word that breaks a rule has no effect. -/
def State.regWritten (s : State) (r : Reg) (w : Word) : State :=
  if bothRelay r w.toNat then s
  else match s.tryWord r w with
  | some t => ((if r.rw = 0 then t else s.rwDone t r).w1cDone r w.toNat).scDone r w.toNat
  | none => s

/-- A word written to the address `a`: ignored where no register stands, where the part has none there, and where its
partition has failed. -/
def State.writeReg (s : State) (a : Nat) (w : Word) : State :=
  match regAt a with
  | some r => if r.absent s.part || s.failed (s.regBp a) then s else s.regWritten r w
  | none => s

/-- REGISTER_WRITE (R15, R435): a register of a partition under test is reached when the test has ended. -/
def execRegisterWrite (a : Nat) (w : Word) (s : State) : Out :=
  inRun s fun s => if s.underTest (s.regBp a) then s else s.writeReg a w

end Sys2Proof.Machine
end

