-- ==== Sys2Proof/Machine/Relay.lean ====
section
/-! DEFINITION. The commands of the mains relay (06_reservoir): the gap, arming, the ends of a pulse, and top-up closures
with the mains wait. -/

namespace Sys2Proof.Machine

/-- RELAY_GAP_END (R152): a waiting request begins to wait for arming. -/
def execRelayGapEnd (s : State) : Out :=
  anyDev s fun s =>
    match s.relay.gapAt with
    | none => s
    | some t =>
      let s := s.reach t
      { s with relay := { s.relay with gapAt := none, armAt := if s.relay.wait.isSome then some (s.ticks + 2048) else none } }.relayBits

/-- RELAY_ARMED (R131): VKA has reached RELAY_ARM and the waiting pulse starts; an opening whose partition has failed meanwhile
is refused (R22, R151). -/
def execRelayArmed (s : State) : Out :=
  anyDev s fun s =>
    let s := s.dropOpening
    match s.relay.wait, s.relay.armAt with
    | some r, some _ =>
      { s with relay := { s.relay with wait := none, armAt := none,
                                       run := some (r, s.ticks + s.get F.RELAY_CTRL_WIDTH) } }.relayBits
    | _, _ => s

/-- The gap after a pulse (R152). -/
def State.relayGap (s : State) : State :=
  { s with relay := { s.relay with run := none, shot := none, gapAt := some (s.ticks + 32) } }

/-- The mains wait starts (R157). -/
def State.mainsWait (s : State) : State :=
  { s with relay := { s.relay with mainsAt := some (s.ticks + 2 ^ (s.get F.RELAY_CTRL_MAINS_WAIT + 10)),
                                   mainsMet := s.flag F.BR_STATUS_MAINS_Q } }

/-- RELAY_PULSE_END (R152, R153): a pulse has run its full width, or the cold-start shot its 160 ticks. -/
def execRelayPulseEnd (s : State) : Out :=
  anyDev s fun s =>
    match s.relay.shot, s.relay.run with
    | some t, _ =>
      let s := (s.reach t).relayGap
      ((s.set F.RELAY_STATUS_STATE 2).setClosure .normal).relayBits
    | none, some (r, t) =>
      let s := (s.reach t).relayGap
      let s := (s.set F.RELAY_STATUS_STATE (if r.set then 2 else 1)).wrap F.RELAY_STATUS_COUNT
      let s := if r.set then (if s.relay.closure = .none then s.setClosure .normal else s) else s.setClosure .none
      let s := if r.why = .topup then s.mainsWait else s
      ((s.raise 44 (if r.set then "SET" else "CLR")).relayEnds r true false).relayBits.evalRa
    | none, none => s

/-- A pulse cut at RELAY_STOP leaves the relay UNKNOWN (R131, R153). -/
def State.cutPulse (s : State) : State :=
  ((s.set F.RELAY_STATUS_STATE 0).setFlag F.RELAY_STATUS_CUT true).raise 41 "RELAY_CUT"

/-- RELAY_CUT (R131, R153): VKA has fallen to RELAY_STOP during a pulse. -/
def execRelayCut (s : State) : Out :=
  anyDev s fun s =>
    match s.relay.shot, s.relay.run with
    | none, none => s
    | some _, _ => s.relayGap.cutPulse.relayBits
    | none, some (r, _) =>
      let s := s.relayGap.cutPulse
      ((if r.why = .topup then s.mainsWait else s).relayEnds r false true).relayBits

/-- RELAY_UNARMED (R131): a request not armed within 2,048 ticks is abandoned. -/
def execRelayUnarmed (s : State) : Out :=
  anyDev s fun s =>
    match s.relay.wait, s.relay.armAt with
    | some r, some t =>
      let s := s.reach t
      let s := { s with relay := { s.relay with wait := none, armAt := none } }
      (((s.setFlag F.RELAY_STATUS_UNARMED true).raise 41 "RELAY_UNARMED").relayEnds r false false).relayBits
    | _, _ => s

/-- The top-up conditions (R156); without its gauge the device cannot know that one is due (R22). -/
def State.topupDue (s : State) : Bool :=
  s.flag F.RELAY_CTRL_TOPUP_EN && s.get F.RELAY_STATUS_STATE != 2 && s.relay.closure != Closure.topup && s.relay.wait.isNone &&
    s.relay.run.isNone && s.relay.shot.isNone && decide (s.gauge.eAvail ≤ s.get F.RELAY_CTRL_TOPUP_J) && s.relay.retryAt.isNone &&
    !s.failed 6

/-- TOPUP_REQUEST (R156). -/
def execTopupRequest (s : State) : Out :=
  inRun s fun s =>
    if s.topupDue then ((s.setClosure .topup).raise 44 "TOPUP").relayRequest { set := true, why := .topup } else s

/-- TOPUP_RETRY_TIMER (R156): 2,048 ticks have passed since a top-up closure that failed. -/
def execTopupRetryTimer (s : State) : Out :=
  inRun s fun s =>
    match s.relay.retryAt with
    | some t => let s := s.reach t; { s with relay := { s.relay with retryAt := none } }
    | none => s

/-- MAINS_WAIT_END (R156, R157). -/
def execMainsWaitEnd (s : State) : Out :=
  inRun s fun s =>
    match s.relay.mainsAt with
    | none => s
    | some t =>
      let s := s.reach t
      let s := { s with relay := { s.relay with mainsAt := none } }
      if s.relay.mainsMet then s
      else if s.get F.RELAY_STATUS_STATE = 2 then (s.setFlag F.RELAY_STATUS_WAIT_MAINS true).raise 44 "MAINS_ABSENT"
      else if s.get F.RELAY_STATUS_STATE = 0 ∧ s.relay.closure = .topup then
        let s := s.setClosure .none
        { s with relay := { s.relay with retryAt := some (s.ticks + 2048) } }
      else s

end Sys2Proof.Machine
end

