-- ==== Sys2Proof/Machine/Supplies.lean ====
section
/-! DEFINITION. The commands of the supplies VIO, VLV and VDRV (R482 to R484), and what stands at the outputs they carry. -/

namespace Sys2Proof.Machine

/-! ### VIO (R482) -/

/-- A port while VIO goes: the line in progress is discarded, the output is lost, its notifications counted (R48); the
settings whose reply is lost take effect. -/
def State.portLost (s : State) (p : PortId) : State :=
  let x := s.port p
  let s := s.modPort p fun x => { x.clearLine with out := [], clocked := 0, cts := true, cr := false, dropped := x.dropped + x.notices }
  x.out.foldl (fun s i => match i.apply with | some (q, c) => s.portChange q c | none => s) s

/-- VIO_LOSS (R385, R482): HPARKn reads low, so a light-gate run aborts. -/
def execVioLoss (s : State) : Out :=
  anyDev s fun s =>
    if !s.aon.vioOk then s
    else
      let s := ([PortId.host, .service, .spi].foldl State.portLost s)
      let s := { s with aon := { s.aon with vioOk := false } }
      (List.range s.part.heads).foldl (fun s h =>
        let s := s.setPark h false
        if s.lgRunning h then (s.lgAbort h "MOVED").evalRa else s) s

/-- VIO_RETURN (R482): the ports resume with an empty line under the settings they hold. -/
def execVioReturn (s : State) : Out :=
  anyDev s fun s =>
    if s.aon.vioOk then s
    else [PortId.host, .service, .spi].foldl (fun s p => s.modPort p PortX.clearLine) { s with aon := { s.aon with vioOk := true } }

/-! ### VLV (R483) -/

/-- VLV_LOSS (R329, R483): UP links are lost with reason LOCK, and the LINE_GO pairs are high-impedance. -/
def execVlvLoss (s : State) : Out :=
  anyDev s fun s =>
    let s := { s with aon := { s.aon with vlvOk := false } }
    (List.range s.part.heads).foldl (fun s h =>
      ((s.setFlag (F.LINE_LSTAT_LOCKUP h) false).linkLost h "LOCK").modHead h fun x => { x with go := .low }) s

/-- VLV_RETURN (R483): the downstream lanes send K28.5 again, with LINE_GO low. -/
def execVlvReturn (s : State) : Out :=
  anyDev s fun s =>
    let s := { s with aon := { s.aon with vlvOk := true } }
    (List.range s.part.heads).foldl (fun s h => s.modHead h fun x => { x with go := .low }) s

/-! ### VDRV (R129, R484) -/

/-- VDRV_LOW (R129, R484): the gates are held; the core supply has been qualified until now. -/
def execVdrvLow (vka : Nat) (s : State) : Out :=
  anyDev s fun s =>
    let s := if s.aon.vdrvOk then s.qualified vka else s
    { s with aon := { s.aon with vdrvOk := false } }

/-- VDRV_RISE (R129, R484): the hold ends, and VDRV qualifies the core supply while it stays. -/
def execVdrvRise (s : State) : Out := anyDev s fun s => { s with aon := { s.aon with vdrvOk := true } }

/-- The PWM output of phase `n` is tri-stated: by the phase's own state, or while VDRV is too low for a gate (R484). -/
def State.pwmTri (s : State) (n : Nat) : Bool := (s.ph n).tri || !s.aon.vdrvOk

/-- The bridge's gates may be driven: a mode that switches, and VDRV (R484). -/
def State.bridgeGates (s : State) : Bool := within 2 4 s.mode && s.aon.vdrvOk

end Sys2Proof.Machine
end

