-- ==== Sys2Proof/Machine/VerbsFault.lean ====
section
/-! DEFINITION. The verbs ROUTE, FAULT, CLEAR, FLT and SIGNAL (14_faults_junction). -/

namespace Sys2Proof.Machine

/-- A source's name as Felten writes it. -/
def evName (e : Nat) : String := "EV" ++ dec e

/-! ### ROUTE (R418) -/

/-- The stored routing of a source. -/
def State.routeFields (s : State) (e : Nat) : String :=
  let cause (n : Nat) (none_ : String) : String := if n = 0 then none_ else causeName e n
  evName e ++ " " ++ fieldsOut
    [("EVT", listOut ((bitsSet (s.get (F.ROUTE_EVT e)) 4).map dec)), ("NOTIFY", onOut (s.flag (F.ROUTE_NOTIFY e))),
     ("LOG", onOut (s.flag (F.ROUTE_LOG e))), ("FLT", onOut (s.flag (F.ROUTE_FLT e))),
     ("PROMOTE", clsName (s.get (F.ROUTE_PROMOTE e))), ("PCAUSE", cause (s.get (F.ROUTE_PCAUSE e)) "ALL"),
     ("START", if s.flag (F.ROUTE_TT_EN e) then ttName (s.get (F.ROUTE_TT e)) else "NONE"),
     ("STARTCAUSE", cause (s.get (F.ROUTE_TT_CAUSE e)) "ANY"), ("AFFECT", railList (bitsSet (s.get (F.ROUTE_AFFECT e)) 6))]

/-- A list of EVT pins as a mask. -/
def evtList (t : String) : Option Nat :=
  if t = "NONE" then some 0
  else
    let ms := (listItems t).map fun x => ["0", "1", "2", "3"].findIdx? (· == x)
    if ms.all Option.isSome then some (maskOf (ms.filterMap id)) else none

/-- A cause by its name, 0 for the word that names none in particular. -/
def causeArg (e : Nat) (word t : String) : Option Nat := if t = word then some 0 else (causeOf e t).map Prod.fst

/-- A raw argument judged: none where it is not given, NO 17 where it is not known. -/
def rawArg (a : Args) (name : String) (f : String → Option Nat) : Except Ans (Option Nat) :=
  match a.txt name with
  | none => .ok none
  | some t => match f t with
    | some v => .ok (some v)
    | none => .error (.range name)

/-- A timetable to be started: 8 for NONE. -/
def startArg (t : String) : Option Nat := if t = "NONE" then some 8 else readUnit "TT" 8 t

/-- The route of a source with the arguments given (R418): START=NONE clears TT_EN. -/
def State.routeStored (s : State) (e : Nat) (a : Args) (evt pc tt tc aff : Option Nat) : State :=
  let t := ((s.setArg (F.ROUTE_EVT e) evt).setArg (F.ROUTE_NOTIFY e) (a.nat "NOTIFY")).setArg (F.ROUTE_LOG e) (a.nat "LOG")
  let t := ((t.setArg (F.ROUTE_FLT e) (a.nat "FLT")).setArg (F.ROUTE_PROMOTE e) (a.nat "PROMOTE")).setArg (F.ROUTE_PCAUSE e) pc
  let t := match tt with
    | none => t
    | some 8 => t.setFlag (F.ROUTE_TT_EN e) false
    | some n => (t.setFlag (F.ROUTE_TT_EN e) true).set (F.ROUTE_TT e) n
  (t.setArg (F.ROUTE_TT_CAUSE e) tc).setArg (F.ROUTE_AFFECT e) aff

/-- The arguments of ROUTE. -/
def routeKinds : List (String × Kind) :=
  [("EVT", .raw), ("NOTIFY", .switch), ("LOG", .switch), ("FLT", .switch),
   ("PROMOTE", .enum ["NOTICE", "CAUTION", "DANGER", "BUFFERSTOP"]), ("PCAUSE", .raw), ("START", .raw), ("STARTCAUSE", .raw),
   ("AFFECT", .raw)]

/-- ROUTE_CMD (R418). -/
def execRouteCmd (p : PortId) (l : Line) (s : State) : Out :=
  verbRow .route false anyForm p l s fun s => do
    let e ← objEv s.part l
    nonAbsent (restToks l) "AFFECT" (absentRail s.part)
    let a ← parseArgs s.compat routeKinds (restToks l)
    let evt ← rawArg a "EVT" evtList
    let pc ← rawArg a "PCAUSE" (causeArg e "ALL")
    let tt ← rawArg a "START" startArg
    let tc ← rawArg a "STARTCAUSE" (causeArg e "ANY")
    let aff ← rawArg a "AFFECT" railMask
    let t := s.routeStored e a evt pc tt tc aff
    pure (t, .ok (t.routeFields e))

/-- ROUTE_QUERY (R418). -/
def execRouteQuery (p : PortId) (l : Line) (s : State) : Out :=
  verbRow .route true anyForm p l s fun s => do
    let e ← objEv s.part l
    noArgs (restToks l)
    pure (s, .ok (s.routeFields e))

/-! ### FAULT? (R419) -/

/-- The sources that satisfy a test. -/
def State.srcList (s : State) (f : Nat → Bool) : String :=
  listOut (((List.range 64).filter fun e => !sourceAbsent s.part e && f e).map evName)

/-- What FAULT? reports of the whole collector. -/
def State.faultFields (s : State) : String :=
  let e := s.get F.FAULT_FIRST_SRC
  let v := s.flag F.FAULT_FIRST_VALID
  fieldsOut
    [("FIRST", if v then evName e ++ ":" ++ causeName e (s.get F.FAULT_FIRST_CAUSE) ++ ":" ++ clsName (s.get F.FAULT_FIRST_CLASS)
        else "NONE"),
     ("FIRSTTICK", if v then dec (s.get F.FAULT_FIRST_T_TICK) else "NONE"), ("PRESENT", s.srcList s.srcPresent),
     ("LATCHED", s.srcList s.latched), ("FLT", if s.fltLow then "LOW" else "HIGH"),
     ("SIGNAL", if s.sigPull then "PULLED" else if s.sigLevel then "HIGH" else "LOW")]

/-- What FAULT? reports of one source. -/
def State.sourceFields (s : State) (e : Nat) : String :=
  let r := s.srcRec e
  evName e ++ " " ++ fieldsOut
    [("NAME", srcName e), ("PRESENT", bitOut (s.srcPresent e)), ("LATCHED", bitOut (s.latched e)), ("COUNT", dec r.count),
     ("FIRSTCAUSE", causeName e r.first), ("LASTCAUSE", causeName e r.last),
     ("LASTCLASS", if r.last = 0 then "NONE" else clsName r.lclass), ("TICK", dec r.tick)]

/-- FAULT_QUERY (R419). -/
def execFaultQuery (p : PortId) (l : Line) (s : State) : Out :=
  verbRow .fault true anyForm p l s fun s =>
    match l.toks with
    | [] => do pure (s, .ok s.faultFields)
    | _ => do
      let e ← objEv s.part l
      noArgs (restToks l)
      pure (s, .ok (s.sourceFields e))

/-! ### CLEAR (R420) -/

/-- CLEAR FAULT. -/
def clearsFault (l : Line) : Bool := objTok l == some "FAULT"

/-- CLEAR_CMD (R400, R420). -/
def execClearCmd (p : PortId) (l : Line) (s : State) : Out :=
  verbRow .clear false (fun l => !clearsFault l) p l s fun s => do
    let e ← objEv s.part l
    noArgs (restToks l)
    let t := s.clearSource e
    pure (t, .ok (evName e ++ " " ++ fieldsOut [("LATCHED", bitOut (t.latched e)), ("COUNT", dec (t.srcRec e).count)]))

/-- CLEAR_FAULT_CMD (R400, R420). -/
def execClearFaultCmd (p : PortId) (l : Line) (s : State) : Out :=
  verbRow .clear false clearsFault p l s fun s => do
    noArgs (restToks l)
    let t := (List.range 64).foldl State.clearSource s
    let t := (t.setWord (Reg.addr .FAULT_FIRST) 0#32).set F.FAULT_FIRST_T_TICK 0
    pure (t, .ok ("FAULT LATCHED=" ++ t.srcList t.latched))

/-! ### FLT (R421) -/

/-- The settings of FLT_N. -/
def State.fltFields (s : State) : List (String × String) :=
  [("MODE", ["PULSE", "LATCH", "LEVEL"].getD (s.get F.FLT_CTRL_MODE) "PULSE"), ("MIN", siOut s.compat 0 "us" 1000 (s.get F.FLT_CTRL_MIN : Nat)),
   ("ASSERT", onOut (s.flag F.FLT_CTRL_ASSERT))]

/-- The settings of FLT_N with the arguments given (R421). -/
def State.fltStored (s : State) (a : Args) : State :=
  ((s.setArg F.FLT_CTRL_MODE (a.nat "MODE")).setArg F.FLT_CTRL_MIN (a.nat "MIN")).setArg F.FLT_CTRL_ASSERT (a.nat "ASSERT")

/-- The arguments of FLT. -/
def fltKinds : List (String × Kind) :=
  [("MODE", .enum ["PULSE", "LATCH", "LEVEL"]), ("MIN", kTime 1000 1000 10 10000), ("ASSERT", .switch), ("RELEASE", .key)]

/-- FLT_CMD (R408, R421). -/
def execFltCmd (p : PortId) (l : Line) (s : State) : Out :=
  verbRow .flt false anyForm p l s fun s => do
    let a ← parseArgs s.compat fltKinds l.toks
    let t := s.fltStored a
    if a.has "RELEASE" ∧ t.get F.FLT_CTRL_MODE ≠ 1 then throw (.state "MODE")
    let t := if a.has "RELEASE" then t.fltRelease else t
    pure (t, .ok (fieldsOut t.fltFields))

/-- FLT_QUERY (R421). -/
def execFltQuery (p : PortId) (l : Line) (s : State) : Out :=
  verbRow .flt true anyForm p l s fun s => do
    noArgs l.toks
    pure (s, .ok (fieldsOut (s.fltFields ++ [("LEVEL", if s.fltLow then "LOW" else "HIGH")])))

/-! ### SIGNAL? (R422) -/

/-- SIGNAL_QUERY (R422). -/
def execSignalQuery (p : PortId) (l : Line) (s : State) : Out :=
  verbRow .signal true anyForm p l s fun s => do
    noArgs l.toks
    pure (s, .ok (fieldsOut
      [("LEVEL", if s.sigLevel then "HIGH" else "LOW"), ("PULL", bitOut s.sigPull),
       ("BY", listOut ((bitsSet (s.get F.SIG_STAT_BY) 3).map fun k => ["TT4", "STEP", "STUCK_HIGH"].getD k "")),
       ("FALLS", dec (s.get F.SIG_STAT_FALLS)), ("STUCK", bitOut (s.flag F.SIG_STAT_STUCK)),
       ("STUCKTIME", tkOut s.compat (2 ^ s.get F.SIG_CTRL_STUCK_K))]))

end Sys2Proof.Machine
end

