-- ==== Sys2Proof/Machine/VerbsStore.lean ====
section
/-! DEFINITION. The verbs LOAD (R231, R232), LOG, NV and SAVE (R463 to R465). -/

namespace Sys2Proof.Machine

/-! ### LOAD (R231, R232) -/

/-- The form of a LOAD line by its words after the timetable; any line of no other form is a BEGIN. -/
def loadForm (l : Line) : String :=
  match restToks l with
  | [] => "BEGIN"
  | t :: _ => if t ∈ ["END", "ABORT", "ERASE"] then t else if (cutEq t.toList).map (String.ofList ·.1) = some "AT" then "AT" else "BEGIN"

/-- The partitions that serve LOAD (R210, R460). -/
def State.servesLoad (s : State) : Except Ans Unit := do
  s.serves 2
  s.serves 9

/-- The words fit beside the other timetables. -/
def State.fits (s : State) (n len : Nat) : Bool := decide (s.plannedOthers n + len ≤ 512)

/-- LOAD_BEGIN (R231). -/
def execLoadBegin (p : PortId) (l : Line) (s : State) : Out :=
  verbRow .load false (fun l => loadForm l == "BEGIN") p l s fun s => do
    let n ← objTt l
    let a ← parseArgs s.compat [("BEGIN", .key), ("STEPS", .num 1 511), ("CRC", .num 0 65535)] (restToks l)
      (needs ["BEGIN", "STEPS", "CRC"])
    let k := (a.nat "STEPS").getD 0
    let crc := (a.nat "CRC").getD 0
    s.servesLoad
    if !s.fits n (k + 1) then throw (.refused "SPACE")
    pure ({ s with tt := { s.tt with staging := some { port := p, tt := n, n := k, crc := crc } } },
      .ok (ttName n ++ " BEGIN STEPS=" ++ dec k ++ " CRC=" ++ hex16 crc))

/-- The staging that a line of this port and timetable acts on. -/
def State.staged (s : State) (p : PortId) (n : Nat) : Except Ans Staging :=
  match s.tt.staging with
  | some g => if g.port = p ∧ g.tt = n then .ok g else .error (.state "NOSTAGE")
  | none => .error (.state "NOSTAGE")

/-- LOAD_AT (R231). -/
def execLoadAt (p : PortId) (l : Line) (s : State) : Out :=
  verbRow .load false (fun l => loadForm l == "AT") p l s fun s => do
    let n ← objTt l
    let words := (restToks l).tail
    match words.find? (·.toList.contains '='), words[8]? with
    | some t, _ => throw (.arg t)
    | none, some t => throw (.arg t)
    | none, none => pure ()
    if words.isEmpty then throw (.arg "AT")
    let (a, vs) ← together (parseArgs s.compat [("AT", .num 0 510)] ((restToks l).take 1))
      (bareValues s.compat (.num 0 0xFFFFFFFF) words)
    let i := (a.nat "AT").getD 0
    s.servesLoad
    let g ← s.staged p n
    if g.n < i + vs.length then throw (.range "AT")
    let ws := Tab.putList (fun _ => none) g.words i (vs.map fun v => some (BitVec.ofNat 32 v.toNat))
    pure ({ s with tt := { s.tt with staging := some { g with words := ws } } },
      .ok (ttName n ++ " AT=" ++ dec i ++ " COUNT=" ++ dec vs.length))

/-- The staged image judged (R204, R232): its words, or the refusal. -/
def Staging.image (g : Staging) : Except Ans (List Word) :=
  let ws := Tab.getList (fun _ => none) g.words 0 g.n
  let steps := ws.filterMap id
  if steps.length < g.n then .error (.no 26 "DATA" "MISSING")
  else if crc16 (wordBytes steps) ≠ g.crc then .error (.no 26 "DATA" "CRC")
  else match firstBad g.tt g.n 0 steps with
  | some k => .error (.no 26 "DATA" ("STEP=" ++ dec k))
  | none => .ok (headerWord g.tt g.n g.crc :: steps)

/-- TTn runs or is pending. -/
def State.ttBusy (s : State) (n : Nat) : Bool :=
  s.ttRuns n || (match s.tt.pend with | some x => x.tt == n | none => false)

/-- LOAD_END (R232). -/
def execLoadEnd (p : PortId) (l : Line) (s : State) : Out :=
  verbRow .load false (fun l => loadForm l == "END") p l s fun s => do
    let n ← objTt l
    noArgs (restToks l).tail
    s.servesLoad
    let g ← s.staged p n
    let ws ← g.image
    if s.ttBusy n then throw (.state "RUNNING")
    if !s.fits n ws.length then throw (.refused "SPACE")
    let s := { s with tt := { s.tt with staging := none } }
    pure (s.askCommit { tt := n, words := ws, owed := owe p l (ttName n) }, .queued)

/-- LOAD_ABORT (R231). -/
def execLoadAbort (p : PortId) (l : Line) (s : State) : Out :=
  verbRow .load false (fun l => loadForm l == "ABORT") p l s fun s => do
    let n ← objTt l
    noArgs (restToks l).tail
    s.servesLoad
    let _ ← s.staged p n
    pure ({ s with tt := { s.tt with staging := none } }, .ok (ttName n ++ " ABORT"))

/-- LOAD_ERASE (R232). -/
def execLoadErase (p : PortId) (l : Line) (s : State) : Out :=
  verbRow .load false (fun l => loadForm l == "ERASE") p l s fun s => do
    let n ← objTt l
    noArgs (restToks l).tail
    s.servesLoad
    if s.ttBusy n then throw (.state "RUNNING")
    if s.plannedLen n = 0 then pure (s, .ok (ttName n ++ " ERASE"))
    else pure (s.askCommit { tt := n, words := [], owed := owe p l (ttName n) }, .queued)

/-! ### LOG? (R447, R463) -/

/-- A record as LOG? writes it: TYPE as its name, the payload as twelve digits. -/
def recText (bs : List Byte) : String :=
  let typ := beNat ((bs.drop 2).take 1)
  joinWith ","
    [dec (beNat (bs.take 2)), (match typ with | 1 => "EV" | 2 => "MARK" | 3 => "STORE" | k => dec k),
     dec (beNat ((bs.drop 3).take 1)), dec (beNat ((bs.drop 4).take 4)), hexText 12 (beNat ((bs.drop 8).take 6))]

/-- A read-out of the sequence numbers listed: those not held are skipped and counted. -/
def State.readOut (s : State) (first : Nat) (ns : List Nat) : String :=
  let got := ns.filter s.holds
  joinWith " " (("FROM=" ++ dec first ++ " COUNT=" ++ dec ns.length ++ " SKIPPED=" ++ dec (ns.length - got.length)) ::
    got.map fun n => recText (s.slot (logSlot n)))

/-- LOG_QUERY (R463). -/
def execLogQuery (p : PortId) (l : Line) (s : State) : Out :=
  verbRow .log true anyForm p l s fun s => do
    let a ← parseArgs s.compat [("FROM", .num 0 65535), ("NEWEST", .key), ("COUNT", .num 1 5)] l.toks fun has =>
      if has "FROM" && has "NEWEST" then some "NEWEST" else if has "COUNT" && !has "FROM" && !has "NEWEST" then some "COUNT" else none
    let k := (a.nat "COUNT").getD 1
    match a.nat "FROM", a.has "NEWEST" with
    | none, false =>
      s.serves 9
      let num (n : Nat) : String := if s.store.empty then "NONE" else dec n
      pure (s, .ok (fieldsOut
        [("NEWEST", num s.newest), ("OLDEST", num s.oldest), ("RECORDS", dec (s.get F.NV_LOG_RECORDS)),
         ("TORN", dec (s.get F.NV_LOG2_TORN)), ("ERASED", dec (s.get F.NV_LOG2_ERASED)), ("LAPS", dec (s.get F.NV_LAPS_LAPS))]))
    | some n, _ =>
      let back (m : Nat) : Nat := (s.newest + 65536 - m) % 65536
      if s.store.empty ∨ back s.oldest < back n then throw (.range "FROM")
      s.serves 9
      pure (s, .ok (s.readOut n ((List.range k).map fun i => (n + i) % 65536)))
    | none, true =>
      if s.store.empty then throw (.range "NEWEST")
      s.serves 9
      pure (s, .ok (s.readOut s.newest ((List.range k).map fun i => (s.newest + 65536 - i) % 65536)))

/-! ### NV? and SAVE (R464, R465) -/

/-- NV_QUERY (R464). -/
def execNvQuery (p : PortId) (l : Line) (s : State) : Out :=
  verbRow .nv true anyForm p l s fun s => do
    noArgs l.toks
    s.serves 9
    let valid := (if s.flag F.NV_STAT_VALID0 then ["0"] else []) ++ (if s.flag F.NV_STAT_VALID1 then ["1"] else [])
    pure (s, .ok (fieldsOut
      [("BUSY", bitOut (s.flag F.NV_STAT_BUSY)), ("BANK", dec (s.get F.NV_STAT_BANK)), ("GEN", dec (s.get F.NV_GEN_GEN)),
       ("CFGSRC", ["DEFAULT", "NEWEST", "OLDER"].getD (s.get F.NV_STAT_CFG_SRC) "?"), ("VALID", listOut valid),
       ("CFGSKIP", dec (s.get F.NV_STAT_CFG_SKIP)), ("TTFREE", dec (s.get F.TT_VALID_FREE)),
       ("TORNTT", bitOut (s.flag F.NV_STAT_TORN_TT)), ("WEART", siOut s.compat 0 "s" 1000000000 (s.get F.NV_CTRL_WEAR_T : Nat)),
       ("SCRUB", onOut (s.flag F.NV_CTRL_SCRUB_EN)), ("SCRUBFIXED", dec (s.get F.NV_SCRUB_FIXED)),
       ("SCRUBLOST", dec (s.get F.NV_SCRUB_LOST)), ("TOKENS", dec (s.get F.NV_LOG2_TOKENS))]))

/-- SAVE_CONFIG_CMD (R465). -/
def execSaveConfigCmd (p : PortId) (l : Line) (s : State) : Out :=
  verbRow .save false anyForm p l s fun s => do
    let _ ← objOf (fun t => if t = "CONFIG" then some 0 else none) (fun _ => true) l
    noArgs (restToks l)
    s.serves 9
    let e := s.saveEntries
    if 168 < e.length then throw (.refused "SPACE")
    if s.store.save.isSome then throw (.state "PENDING")
    pure (s.saveBegin e (some (owe p l "CONFIG")), .queued)

end Sys2Proof.Machine
end

