-- ==== Sys2Proof/Machine/VerbsSys.lean ====
section
/-! DEFINITION. The verbs of the whole device: CAPS, STATE, PEEK, POKE, TIME, ROD and FREIGHT (00_scope, 02_felten,
03_self_timed_core), and the reads that advance an address (R475). -/

namespace Sys2Proof.Machine

/-! ### CAPS?, STATE?, TIME? (R3, R13, R75) -/

/-- CAPS_QUERY (R3, R64). -/
def execCapsQuery (p : PortId) (l : Line) (s : State) : Out :=
  verbRow .caps true anyForm p l s fun s => do
    noArgs l.toks
    let w := s.liveWord .SYS_CAPS
    let n (f : Field) : String := dec (bitsOf w f.lo f.width)
    pure (s, .ok ("PART=" ++ hexText 4 s.part.id ++ " REV=" ++ hexText 2 s.rev ++ " " ++ fieldsOut
      [("HEADS", n F.SYS_CAPS_HEADS), ("PHASES", n F.SYS_CAPS_PHASES), ("RAILS", listOut (s.part.railList.map railName)),
       ("HARVEST", listOut (((List.range 4).filter s.part.hasHarv).map harvName)), ("BRIDGE", n F.SYS_CAPS_BRIDGE),
       ("DOSE", n F.SYS_CAPS_DOSE), ("LIGHTGATE", n F.SYS_CAPS_LIGHTGATE), ("MON", n F.SYS_CAPS_MONITORS),
       ("FELTEN", n F.SYS_CAPS_FELTEN)]))

/-- A device state's name (R6). -/
def Dev.text : Dev → String
  | .reset => "RESET"
  | .selftest => "SELFTEST"
  | .run => "RUN"
  | .bufferStop => "BUFFER-STOP"

/-- STATE_QUERY (R13). -/
def execStateQuery (p : PortId) (l : Line) (s : State) : Out :=
  verbRow .state true anyForm p l s fun s => do
    noArgs l.toks
    pure (s, .ok (fieldsOut
      [("STATE", s.dev.text), ("COMPAT", bitOut s.compat), ("VCORE", vOut s.compat (10 * s.vcore10 : Nat)),
       ("LEVEL", if s.core.stby then "STBY" else "RUN"), ("GOOD", bitOut (s.flag F.SYS_VCORE_GOOD)),
       ("LASTRESET", s.lastReset.text)]))

/-- TIME_QUERY (R75). -/
def execTimeQuery (p : PortId) (l : Line) (s : State) : Out :=
  verbRow .time true anyForm p l s fun s => do
    noArgs l.toks
    pure (s, .ok (fieldsOut [("TICKS", dec (s.ticks % 2 ^ 64)), ("SOURCE", if s.aon.xtal then "XTAL" else "RC")]))

/-! ### ROD? (R82) -/

/-- Names of the rod's states (R77). -/
def rodName (k : Nat) : String := ["STOPPED", "ACQUIRING", "LOCKED", "TRACKING", "HOLDOVER"].getD k "?"

/-- An error in ppm with its sign. -/
def ppmOut (c : Bool) (e : Int) : String := if c then intOut e 1 else (if 0 ≤ e then "+" else "") ++ intOut e 1 ++ "PPM"

/-- ROD_QUERY (R82): FREQ is the count of the last window over its 64 ticks. -/
def execRodQuery (p : PortId) (l : Line) (s : State) : Out :=
  verbRow .rod true anyForm p l s fun s => do
    noArgs l.toks
    let n := s.get F.SYS_ROD_COUNT
    pure (s, .ok (fieldsOut
      [("STATE", rodName s.rod), ("FREQ", fOut s.compat (n * 512 : Nat)),
       ("ERR", ppmOut s.compat (2 * s.sget F.SYS_TIMEBASE_ROD_ERR)), ("COUNT", dec n), ("GEN", dec (s.get F.SYS_TIMEBASE_ROD_GEN)),
       ("OLDEST", dec s.rodOldest)]))

/-! ### FREIGHT? (R90) -/

/-- The Freight jobs by number (R87). -/
def jobNames : List String :=
  ["SCRUB_SRAM", "SCRUB_MIRROR", "SCRUB_TRIM", "CAL_DELAY", "CAL_ISNS", "CAL_HEADSNS", "NV_WEAR", "NV_SCRUB", "GAUGE_LEARN",
   "TELEMETRY"]

/-- The state of a job: RUN where its condition holds for one of its heads or phases (R90). -/
def State.jobState (s : State) (j : Nat) : String :=
  if s.jobFailed j then "FAILED" else if (jobUnits s.part j).any (s.jobCond j) then "RUN" else "WAIT"

/-- The latest completion of a job among its heads or phases, as (end tick, ticks taken). -/
def State.jobLast (s : State) (j : Nat) : Option (Nat × Nat) :=
  ((jobUnits s.part j).filterMap fun i => (s.job j i).last).foldl
    (fun a x => match a with | some y => if y.1 < x.1 then some x else a | none => some x) none

/-- A number of ticks in ms with 1 decimal. -/
def msOut (c : Bool) (n : Nat) : String := siOut c 1 "ms" 1000000 (n * 1000 : Nat) 32768

/-- FREIGHT_QUERY (R90): jobs with work pending are those that run (assumption 29). -/
def execFreightQuery (p : PortId) (l : Line) (s : State) : Out :=
  verbRow .freight true anyForm p l s fun s => do
    let c := s.compat
    let a ← parseArgs c [("JOB", .enum jobNames)] l.toks
    match a.nat "JOB" with
    | none =>
      pure (s, .ok (fieldsOut
        [("LATE", "0x" ++ hexText 3 (s.get F.SYS_FREIGHT_LATE)),
         ("PENDING", dec ((List.range 10).filter fun j => s.jobState j == "RUN").length)]))
    | some j =>
      let last := s.jobLast j
      pure (s, .ok (fieldsOut
        [("JOB", jobNames.getD j ""), ("STATE", s.jobState j),
         ("LAST", match last with | some (_, d) => msOut c d | none => "NONE"),
         ("AGE", match last with | some (e, _) => msOut c (s.ticks - e) | none => "NONE"),
         ("LATE", bitOut (s.bit F.SYS_FREIGHT_LATE j))]))

/-! ### PEEK? and POKE (R61, R62, R475) -/

/-- An address as PEEK? and POKE write it, with its value. -/
def peekText (a : Nat) (w : Word) : String := "0x" ++ hexText 4 a ++ "=" ++ hexWord w

/-- A line of bare numbers only: the names of those required and of all, and their values. -/
def bareNumbers (compat : Bool) (least most : List String) (toks : List String) : Except Ans (List Nat) := do
  match toks.find? (·.toList.contains '='), toks[most.length]?, least[toks.length]? with
  | some t, _, _ => throw (.arg t)
  | none, some t, _ => throw (.arg t)
  | none, none, some t => throw (.arg t)
  | none, none, none => pure ()
  let vs ← bareValues compat (.num 0 0xFFFFFFFF) toks
  pure (vs.map Int.toNat)

/-- An address of a register. -/
def isAddr (a : Nat) : Bool := a % 4 == 0 && decide (a < 65536)

/-- PEEK_QUERY (R61, R475): the values of one instant, then the advance of each register read that has one. Its object is the
address (R63), so that a line without one fails row 5 of R35. -/
def execPeekQuery (p : PortId) (l : Line) (s : State) : Out :=
  verbRow .peek true anyForm p l s fun s => do
    if l.toks.isEmpty then throw (.object "")
    let vs ← bareNumbers s.compat ["ADDRESS"] ["ADDRESS", "COUNT"] l.toks
    let a := vs.headD 0
    let n := vs.getD 1 1
    if !isAddr a then throw (.range "ADDRESS")
    if !within 1 8 n ∨ !isAddr (a + 4 * (n - 1)) then throw (.range "COUNT")
    let as := (List.range n).map fun i => a + 4 * i
    pure (as.foldl State.readAdvance s, .ok (joinWith " " (as.map fun a => peekText a (s.readReg a))))

/-- POKE_CMD (R62): one write, and the value read back without an advance. An address that is not a multiple of 4 is answered
NO 17 RANGE as R61 answers it for PEEK?: R62 does not say (DEDUCED, assumption 36). -/
def execPokeCmd (p : PortId) (l : Line) (s : State) : Out :=
  verbRow .poke false anyForm p l s fun s => do
    if l.toks.isEmpty then throw (.object "")
    let vs ← bareNumbers s.compat ["ADDRESS", "VALUE"] ["ADDRESS", "VALUE"] l.toks
    let a := vs.headD 0
    if !isAddr a then throw (.range "ADDRESS")
    let t := s.writeReg a (BitVec.ofNat 32 (vs.getD 1 0))
    pure (t, .ok (peekText a (t.readReg a)))

/-- TT_DATA_READ (R475): the address moves on. -/
def execTtDataRead (s : State) : Out := inRun s fun s => if s.underTest 2 then s else s.ttAdvance

/-- HEAD_MDATA_READ (R475): the entry moves on. -/
def execHeadMdataRead (h : Fin 4) (s : State) : Out :=
  inRun s fun s => if s.part.heads ≤ h ∨ s.underTest (headBp h) then s else s.mselAdvance h

end Sys2Proof.Machine
end

