-- ==== Sys2Proof/Machine/Dispatch.lean ====
section
/-! DEFINITION. The command dispatch: one arm per command of the table. -/

namespace Sys2Proof.Machine

/-- The effect of a command on everything but the queue. -/
def exec (i : Instr) (s : State) : Host.Outcome State Fault Refusal :=
  match i with
  | .powerOnReset => Sys2Proof.Machine.execPowerOnReset s
  | .aonStartRise belowMs mpp => Sys2Proof.Machine.execAonStartRise belowMs mpp s
  | .resetNLow => Sys2Proof.Machine.execResetNLow s
  | .coreLowFall => Sys2Proof.Machine.execCoreLowFall s
  | .endOfReset vka peak compatBall => Sys2Proof.Machine.execEndOfReset vka peak compatBall s
  | .bistCondCheck osc => Sys2Proof.Machine.execBistCondCheck osc s
  | .bistTerminalCount sig => Sys2Proof.Machine.execBistTerminalCount sig s
  | .autobootStart => Sys2Proof.Machine.execAutobootStart s
  | .keyHold5s => Sys2Proof.Machine.execKeyHold5s s
  | .keyHoldDrain => Sys2Proof.Machine.execKeyHoldDrain s
  | .drainRelease => Sys2Proof.Machine.execDrainRelease s
  | .lineTerminator p => Sys2Proof.Machine.execLineTerminator p s
  | .uartBreak p => Sys2Proof.Machine.execUartBreak p s
  | .ctsChange asserted => Sys2Proof.Machine.execCtsChange asserted s
  | .spiFrame mosi => Sys2Proof.Machine.execSpiFrame mosi s
  | .replySent p => Sys2Proof.Machine.execReplySent p s
  | .notifyQueueSpace p => Sys2Proof.Machine.execNotifyQueueSpace p s
  | .vioLoss => Sys2Proof.Machine.execVioLoss s
  | .vioReturn => Sys2Proof.Machine.execVioReturn s
  | .vlvLoss => Sys2Proof.Machine.execVlvLoss s
  | .vdrvLow vka => Sys2Proof.Machine.execVdrvLow vka s
  | .vdrvRise => Sys2Proof.Machine.execVdrvRise s
  | .capsQuery p l => Sys2Proof.Machine.execCapsQuery p l s
  | .stateQuery p l => Sys2Proof.Machine.execStateQuery p l s
  | .portCmd p l => Sys2Proof.Machine.execPortCmd p l s
  | .portQuery p l => Sys2Proof.Machine.execPortQuery p l s
  | .subCmd p l => Sys2Proof.Machine.execSubCmd p l s
  | .unsubCmd p l => Sys2Proof.Machine.execUnsubCmd p l s
  | .subQuery p l => Sys2Proof.Machine.execSubQuery p l s
  | .peekQuery p l => Sys2Proof.Machine.execPeekQuery p l s
  | .pokeCmd p l => Sys2Proof.Machine.execPokeCmd p l s
  | .timeQuery p l => Sys2Proof.Machine.execTimeQuery p l s
  | .rodQuery p l => Sys2Proof.Machine.execRodQuery p l s
  | .freightQuery p l => Sys2Proof.Machine.execFreightQuery p l s
  | .monCmd p l => Sys2Proof.Machine.execMonCmd p l s
  | .monQuery p l => Sys2Proof.Machine.execMonQuery p l s
  | .harvestCmd p l => Sys2Proof.Machine.execHarvestCmd p l s
  | .harvestQuery p l => Sys2Proof.Machine.execHarvestQuery p l s
  | .vkaQuery p l vka => Sys2Proof.Machine.execVkaQuery p l vka s
  | .stackCmd p l => Sys2Proof.Machine.execStackCmd p l s
  | .stackQuery p l => Sys2Proof.Machine.execStackQuery p l s
  | .stackCellQuery p l => Sys2Proof.Machine.execStackCellQuery p l s
  | .bridgeCmd p l => Sys2Proof.Machine.execBridgeCmd p l s
  | .bridgeQuery p l => Sys2Proof.Machine.execBridgeQuery p l s
  | .relaySetCmd p l => Sys2Proof.Machine.execRelaySetCmd p l s
  | .relayClrCmd p l => Sys2Proof.Machine.execRelayClrCmd p l s
  | .relayCfgCmd p l => Sys2Proof.Machine.execRelayCfgCmd p l s
  | .relayQuery p l => Sys2Proof.Machine.execRelayQuery p l s
  | .backupQuery p l => Sys2Proof.Machine.execBackupQuery p l s
  | .gaugeQuery p l => Sys2Proof.Machine.execGaugeQuery p l s
  | .rightawayQuery p l => Sys2Proof.Machine.execRightawayQuery p l s
  | .claimCmd p l => Sys2Proof.Machine.execClaimCmd p l s
  | .doneCmd p l => Sys2Proof.Machine.execDoneCmd p l s
  | .budgetCmd p l => Sys2Proof.Machine.execBudgetCmd p l s
  | .budgetQuery p l => Sys2Proof.Machine.execBudgetQuery p l s
  | .loadBegin p l => Sys2Proof.Machine.execLoadBegin p l s
  | .loadAt p l => Sys2Proof.Machine.execLoadAt p l s
  | .loadEnd p l => Sys2Proof.Machine.execLoadEnd p l s
  | .loadAbort p l => Sys2Proof.Machine.execLoadAbort p l s
  | .loadErase p l => Sys2Proof.Machine.execLoadErase p l s
  | .startCmd p l => Sys2Proof.Machine.execStartCmd p l s
  | .stopCmd p l => Sys2Proof.Machine.execStopCmd p l s
  | .ttQuery p l => Sys2Proof.Machine.execTtQuery p l s
  | .dependsCmd p l => Sys2Proof.Machine.execDependsCmd p l s
  | .dependsQuery p l => Sys2Proof.Machine.execDependsQuery p l s
  | .phaseCmd p l => Sys2Proof.Machine.execPhaseCmd p l s
  | .phaseQuery p l => Sys2Proof.Machine.execPhaseQuery p l s
  | .syncCmd p l => Sys2Proof.Machine.execSyncCmd p l s
  | .syncQuery p l => Sys2Proof.Machine.execSyncQuery p l s
  | .balanceCmd p l => Sys2Proof.Machine.execBalanceCmd p l s
  | .balanceQuery p l => Sys2Proof.Machine.execBalanceQuery p l s
  | .railCmd p l => Sys2Proof.Machine.execRailCmd p l s
  | .railQuery p l => Sys2Proof.Machine.execRailQuery p l s
  | .enableCmd p l => Sys2Proof.Machine.execEnableCmd p l s
  | .disableCmd p l => Sys2Proof.Machine.execDisableCmd p l s
  | .marginCmd p l => Sys2Proof.Machine.execMarginCmd p l s
  | .marginQuery p l => Sys2Proof.Machine.execMarginQuery p l s
  | .limitCmd p l => Sys2Proof.Machine.execLimitCmd p l s
  | .limitRestoreCmd p l => Sys2Proof.Machine.execLimitRestoreCmd p l s
  | .limitQuery p l => Sys2Proof.Machine.execLimitQuery p l s
  | .linkQuery p l => Sys2Proof.Machine.execLinkQuery p l s
  | .encCmd p l => Sys2Proof.Machine.execEncCmd p l s
  | .encQuery p l => Sys2Proof.Machine.execEncQuery p l s
  | .regCmd p l => Sys2Proof.Machine.execRegCmd p l s
  | .regQuery p l => Sys2Proof.Machine.execRegQuery p l s
  | .strobeCmd p l => Sys2Proof.Machine.execStrobeCmd p l s
  | .strobeQuery p l => Sys2Proof.Machine.execStrobeQuery p l s
  | .headQuery p l => Sys2Proof.Machine.execHeadQuery p l s
  | .doseCmd p l => Sys2Proof.Machine.execDoseCmd p l s
  | .doseQuery p l => Sys2Proof.Machine.execDoseQuery p l s
  | .lightgateCmd p l => Sys2Proof.Machine.execLightgateCmd p l s
  | .lightgateStartCmd p l parked => Sys2Proof.Machine.execLightgateStartCmd p l parked s
  | .lightgateAbortCmd p l => Sys2Proof.Machine.execLightgateAbortCmd p l s
  | .lightgateQuery p l => Sys2Proof.Machine.execLightgateQuery p l s
  | .calPhaseCmd p l => Sys2Proof.Machine.execCalPhaseCmd p l s
  | .calHeadCmd p l => Sys2Proof.Machine.execCalHeadCmd p l s
  | .calGaugeCmd p l => Sys2Proof.Machine.execCalGaugeCmd p l s
  | .routeCmd p l => Sys2Proof.Machine.execRouteCmd p l s
  | .routeQuery p l => Sys2Proof.Machine.execRouteQuery p l s
  | .faultQuery p l => Sys2Proof.Machine.execFaultQuery p l s
  | .clearCmd p l => Sys2Proof.Machine.execClearCmd p l s
  | .clearFaultCmd p l => Sys2Proof.Machine.execClearFaultCmd p l s
  | .fltCmd p l => Sys2Proof.Machine.execFltCmd p l s
  | .fltQuery p l => Sys2Proof.Machine.execFltQuery p l s
  | .signalQuery p l => Sys2Proof.Machine.execSignalQuery p l s
  | .bistCmd p l => Sys2Proof.Machine.execBistCmd p l s
  | .bistAbortCmd p l => Sys2Proof.Machine.execBistAbortCmd p l s
  | .bistPwrupCmd p l => Sys2Proof.Machine.execBistPwrupCmd p l s
  | .bistQuery p l => Sys2Proof.Machine.execBistQuery p l s
  | .logQuery p l => Sys2Proof.Machine.execLogQuery p l s
  | .nvQuery p l => Sys2Proof.Machine.execNvQuery p l s
  | .saveConfigCmd p l => Sys2Proof.Machine.execSaveConfigCmd p l s
  | .registerWrite a w => Sys2Proof.Machine.execRegisterWrite a w s
  | .ttDataRead => Sys2Proof.Machine.execTtDataRead s
  | .headMdataRead h => Sys2Proof.Machine.execHeadMdataRead h s
  | .faultLatchClear e => Sys2Proof.Machine.execFaultLatchClear e s
  | .ttCtrlStart => Sys2Proof.Machine.execTtCtrlStart s
  | .ttCtrlStop => Sys2Proof.Machine.execTtCtrlStop s
  | .relayCtrlSet => Sys2Proof.Machine.execRelayCtrlSet s
  | .relayCtrlClr => Sys2Proof.Machine.execRelayCtrlClr s
  | .railEnWrite r en => Sys2Proof.Machine.execRailEnWrite r en s
  | .railTargetWrite r w => Sys2Proof.Machine.execRailTargetWrite r w s
  | .phCalRequest n => Sys2Proof.Machine.execPhCalRequest n s
  | .phRestoreRequest n => Sys2Proof.Machine.execPhRestoreRequest n s
  | .lineTrainRequest h => Sys2Proof.Machine.execLineTrainRequest h s
  | .headResumeRequest h => Sys2Proof.Machine.execHeadResumeRequest h s
  | .headLgStart h parked => Sys2Proof.Machine.execHeadLgStart h parked s
  | .headLgAbort h => Sys2Proof.Machine.execHeadLgAbort h s
  | .headCalRequest h => Sys2Proof.Machine.execHeadCalRequest h s
  | .fltReleaseWrite => Sys2Proof.Machine.execFltReleaseWrite s
  | .bistStartRequest => Sys2Proof.Machine.execBistStartRequest s
  | .bistAbortRequest => Sys2Proof.Machine.execBistAbortRequest s
  | .nvSaveRequest => Sys2Proof.Machine.execNvSaveRequest s
  | .vcoreToStby => Sys2Proof.Machine.execVcoreToStby s
  | .vcoreToRun => Sys2Proof.Machine.execVcoreToRun s
  | .vcoreLowTimer => Sys2Proof.Machine.execVcoreLowTimer s
  | .xtalQualified => Sys2Proof.Machine.execXtalQualified s
  | .xtalLost => Sys2Proof.Machine.execXtalLost s
  | .rodWindowEnd count taps => Sys2Proof.Machine.execRodWindowEnd count taps s
  | .freightLateCheck j => Sys2Proof.Machine.execFreightLateCheck j s
  | .scrubSram done => Sys2Proof.Machine.execScrubSram done s
  | .scrubMirrorWord h k err => Sys2Proof.Machine.execScrubMirrorWord h k err s
  | .scrubTrimRequest h => Sys2Proof.Machine.execScrubTrimRequest h s
  | .calIsnsConversion n code offNs => Sys2Proof.Machine.execCalIsnsConversion n code offNs s
  | .calHeadsnsSample h vhead => Sys2Proof.Machine.execCalHeadsnsSample h vhead s
  | .nvScrubSlot normalOk marginOk => Sys2Proof.Machine.execNvScrubSlot normalOk marginOk s
  | .telemetrySample => Sys2Proof.Machine.execTelemetrySample s
  | .monitorSample n x => Sys2Proof.Machine.execMonitorSample n x s
  | .referenceRefresh mpp => Sys2Proof.Machine.execReferenceRefresh mpp s
  | .blankWindowClose n x => Sys2Proof.Machine.execBlankWindowClose n x s
  | .converterFree c x => Sys2Proof.Machine.execConverterFree c x s
  | .imbalanceTimer k => Sys2Proof.Machine.execImbalanceTimer k s
  | .fractionPeriod n => Sys2Proof.Machine.execFractionPeriod n s
  | .fractionDwellEnd n => Sys2Proof.Machine.execFractionDwellEnd n s
  | .inputClamp n => Sys2Proof.Machine.execInputClamp n s
  | .clampRelease n => Sys2Proof.Machine.execClampRelease n s
  | .keyPulseStart press => Sys2Proof.Machine.execKeyPulseStart press s
  | .keyPulseEnd vka stack => Sys2Proof.Machine.execKeyPulseEnd vka stack s
  | .resOnFall vka stack => Sys2Proof.Machine.execResOnFall vka stack s
  | .resOffRise vka => Sys2Proof.Machine.execResOffRise vka s
  | .resOffHoldTimer => Sys2Proof.Machine.execResOffHoldTimer s
  | .stackFeedLow vka => Sys2Proof.Machine.execStackFeedLow vka s
  | .stackFeedRecover vka => Sys2Proof.Machine.execStackFeedRecover vka s
  | .trickleStart vka => Sys2Proof.Machine.execTrickleStart vka s
  | .trickleStop mJ => Sys2Proof.Machine.execTrickleStop mJ s
  | .vkaClamp => Sys2Proof.Machine.execVkaClamp s
  | .vkaClampRelease => Sys2Proof.Machine.execVkaClampRelease s
  | .bkOnFall vka => Sys2Proof.Machine.execBkOnFall vka s
  | .backupEmpty => Sys2Proof.Machine.execBackupEmpty s
  | .relayGapEnd => Sys2Proof.Machine.execRelayGapEnd s
  | .relayArmed => Sys2Proof.Machine.execRelayArmed s
  | .relayPulseEnd => Sys2Proof.Machine.execRelayPulseEnd s
  | .relayCut => Sys2Proof.Machine.execRelayCut s
  | .relayUnarmed => Sys2Proof.Machine.execRelayUnarmed s
  | .bridgeCycle m => Sys2Proof.Machine.execBridgeCycle m s
  | .stackMeasTimer v iStack vbus pload => Sys2Proof.Machine.execStackMeasTimer v iStack vbus pload s
  | .fullSet => Sys2Proof.Machine.execFullSet s
  | .absorbZeroTimer => Sys2Proof.Machine.execAbsorbZeroTimer s
  | .bridgeOverloadTimer => Sys2Proof.Machine.execBridgeOverloadTimer s
  | .bridgePhaseIlim k over15 => Sys2Proof.Machine.execBridgePhaseIlim k over15 s
  | .mainsOkFall => Sys2Proof.Machine.execMainsOkFall s
  | .mainsOkRise => Sys2Proof.Machine.execMainsOkRise s
  | .mainsQualified => Sys2Proof.Machine.execMainsQualified s
  | .topupRequest => Sys2Proof.Machine.execTopupRequest s
  | .topupRetryTimer => Sys2Proof.Machine.execTopupRetryTimer s
  | .mainsWaitEnd => Sys2Proof.Machine.execMainsWaitEnd s
  | .pageClaimEdge sinceFall => Sys2Proof.Machine.execPageClaimEdge sinceFall s
  | .pageDoneEdge => Sys2Proof.Machine.execPageDoneEdge s
  | .gaugeCalRun => Sys2Proof.Machine.execGaugeCalRun s
  | .ttStart tt src => Sys2Proof.Machine.execTtStart tt src s
  | .ttPendingStart => Sys2Proof.Machine.execTtPendingStart s
  | .ttStepEnable => Sys2Proof.Machine.execTtStepEnable s
  | .ttStepDisable => Sys2Proof.Machine.execTtStepDisable s
  | .ttStepWait => Sys2Proof.Machine.execTtStepWait s
  | .ttStepCheck => Sys2Proof.Machine.execTtStepCheck s
  | .ttStepJump => Sys2Proof.Machine.execTtStepJump s
  | .ttStepMargin => Sys2Proof.Machine.execTtStepMargin s
  | .ttStepMark => Sys2Proof.Machine.execTtStepMark s
  | .ttStepHalt => Sys2Proof.Machine.execTtStepHalt s
  | .waitCondMet => Sys2Proof.Machine.execWaitCondMet s
  | .waitTimeout => Sys2Proof.Machine.execWaitTimeout s
  | .checkWindowEnd => Sys2Proof.Machine.execCheckWindowEnd s
  | .fallT1Expiry r => Sys2Proof.Machine.execFallT1Expiry r s
  | .fallT2Expiry r => Sys2Proof.Machine.execFallT2Expiry r s
  | .disableDependentWaitEnd r => Sys2Proof.Machine.execDisableDependentWaitEnd r s
  | .sigPulseEnd => Sys2Proof.Machine.execSigPulseEnd s
  | .railTrigger r e => Sys2Proof.Machine.execRailTrigger r e s
  | .phaseOnTimeEnd n => Sys2Proof.Machine.execPhaseOnTimeEnd n s
  | .phaseSample n code sensed t => Sys2Proof.Machine.execPhaseSample n code sensed t s
  | .lightLoadDecision r => Sys2Proof.Machine.execLightLoadDecision r s
  | .balanceInterval r => Sys2Proof.Machine.execBalanceInterval r s
  | .syncInEdge => Sys2Proof.Machine.execSyncInEdge s
  | .syncWindowEnd f => Sys2Proof.Machine.execSyncWindowEnd f s
  | .syncInLost => Sys2Proof.Machine.execSyncInLost s
  | .vinsSample code => Sys2Proof.Machine.execVinsSample code s
  | .railWaitReady r => Sys2Proof.Machine.execRailWaitReady r s
  | .onDelayEnd r => Sys2Proof.Machine.execOnDelayEnd r s
  | .offDelayEnd r => Sys2Proof.Machine.execOffDelayEnd r s
  | .vcmdStep r => Sys2Proof.Machine.execVcmdStep r s
  | .allPhaseResponse r => Sys2Proof.Machine.execAllPhaseResponse r s
  | .responseOnTimeEnd r ns back => Sys2Proof.Machine.execResponseOnTimeEnd r ns back s
  | .boostStart r g => Sys2Proof.Machine.execBoostStart r g s
  | .phaseLimitTrip n => Sys2Proof.Machine.execPhaseLimitTrip n s
  | .phaseShortTrip n => Sys2Proof.Machine.execPhaseShortTrip n s
  | .hiccupOffEnd r => Sys2Proof.Machine.execHiccupOffEnd r s
  | .hiccupCountReset r => Sys2Proof.Machine.execHiccupCountReset r s
  | .overloadTimerExpiry r => Sys2Proof.Machine.execOverloadTimerExpiry r s
  | .overvoltTrip r mV => Sys2Proof.Machine.execOvervoltTrip r mV s
  | .tsnsConversion r mV => Sys2Proof.Machine.execTsnsConversion r mV s
  | .tsnsFaultTrip r => Sys2Proof.Machine.execTsnsFaultTrip r s
  | .upstreamLock h => Sys2Proof.Machine.execUpstreamLock h s
  | .upstreamQuiet h => Sys2Proof.Machine.execUpstreamQuiet h s
  | .trainAttemptStart h => Sys2Proof.Machine.execTrainAttemptStart h s
  | .identReceived h chars => Sys2Proof.Machine.execIdentReceived h chars s
  | .probeAck h chars => Sys2Proof.Machine.execProbeAck h chars s
  | .trainTimeout h => Sys2Proof.Machine.execTrainTimeout h s
  | .linkLockLoss h => Sys2Proof.Machine.execLinkLockLoss h s
  | .linkRetryTimer h => Sys2Proof.Machine.execLinkRetryTimer h s
  | .retriesResetTimer h => Sys2Proof.Machine.execRetriesResetTimer h s
  | .memblockReceived h chars => Sys2Proof.Machine.execMemblockReceived h chars s
  | .memblockTimeout h => Sys2Proof.Machine.execMemblockTimeout h s
  | .trimAck h chars => Sys2Proof.Machine.execTrimAck h chars s
  | .trimAckTimeout h => Sys2Proof.Machine.execTrimAckTimeout h s
  | .sideReplyReceived h chars => Sys2Proof.Machine.execSideReplyReceived h chars s
  | .encCount h mv t => Sys2Proof.Machine.execEncCount h mv t s
  | .encIndex h => Sys2Proof.Machine.execEncIndex h s
  | .lineGoRise h t => Sys2Proof.Machine.execLineGoRise h t s
  | .groupPulseRise h => Sys2Proof.Machine.execGroupPulseRise h s
  | .pulseFall h => Sys2Proof.Machine.execPulseFall h s
  | .reportReceived h chars t => Sys2Proof.Machine.execReportReceived h chars t s
  | .reportDue h => Sys2Proof.Machine.execReportDue h s
  | .frameSendStart h t => Sys2Proof.Machine.execFrameSendStart h t s
  | .frameCommitted h t => Sys2Proof.Machine.execFrameCommitted h t s
  | .lgRunStart h parked => Sys2Proof.Machine.execLgRunStart h parked s
  | .lgTestLine h dark lit rep => Sys2Proof.Machine.execLgTestLine h dark lit rep s
  | .lgRunDone h => Sys2Proof.Machine.execLgRunDone h s
  | .hparkFall h => Sys2Proof.Machine.execHparkFall h s
  | .causeGrant => Sys2Proof.Machine.execCauseGrant s
  | .fltMinExpiry => Sys2Proof.Machine.execFltMinExpiry s
  | .evtPulseEnd m => Sys2Proof.Machine.execEvtPulseEnd m s
  | .signalFall => Sys2Proof.Machine.execSignalFall s
  | .signalStuckLow => Sys2Proof.Machine.execSignalStuckLow s
  | .signalRise => Sys2Proof.Machine.execSignalRise s
  | .slotWriteDone verifyOk => Sys2Proof.Machine.execSlotWriteDone verifyOk s
  | .tokenGain => Sys2Proof.Machine.execTokenGain s
  | .byteReceived p b => Sys2Proof.Machine.execByteReceived p b s
  | .vlvReturn => Sys2Proof.Machine.execVlvReturn s
  | .goodRise => Sys2Proof.Machine.execGoodRise s
  | .goodFall => Sys2Proof.Machine.execGoodFall s
  | .backupUpdate code used => Sys2Proof.Machine.execBackupUpdate code used s
  | .phaseEligible n => Sys2Proof.Machine.execPhaseEligible n s
  | .referenceEdgeInternal => Sys2Proof.Machine.execReferenceEdgeInternal s
  | .syncInFall high => Sys2Proof.Machine.execSyncInFall high s
  | .rodCoarseStep trim => Sys2Proof.Machine.execRodCoarseStep trim s
  | .dischargeSinkLimit n => Sys2Proof.Machine.execDischargeSinkLimit n s
  | .dischargeRestart n => Sys2Proof.Machine.execDischargeRestart n s
  | .testOscTrim trim => Sys2Proof.Machine.execTestOscTrim trim s

end Sys2Proof.Machine
end

