-- ==== Sys2Proof/Machine/Due.lean ====
section
/-! DEFINITION. The timers of the tick counter that have run out, each as the command that ends it (R72): what a tick on an
empty queue does by itself. -/

namespace Sys2Proof.Machine

/-- A timer started or due at `t` has run out, `n` ticks later. -/
def State.over (s : State) (t : Option Nat) (n : Nat := 0) : Bool :=
  match t with
  | some t => decide (t + n ≤ s.ticks)
  | none => false

/-- The commands of a list whose condition holds. -/
def dueOf (l : List (Bool × Instr)) : List Instr := (l.filter Prod.fst).map Prod.snd

/-- The timers of the core and of the always-on domain (R66, R69, R87, R147, R413). -/
def State.dueCore (s : State) : List Instr :=
  dueOf [(s.over s.core.lowAt, .vcoreLowTimer),
    (s.over s.core.stbyAt 1024 && !s.core.stby, .vcoreToStby),
    (s.over s.bridge.qualAt, .mainsQualified),
    (s.over s.aon.keyHold 163840 && !s.causePresent 61 3, .keyHold5s),
    (s.over s.aon.keyHold 327680 && !s.aon.drain, .keyHoldDrain),
    (s.over (s.job 9 0).since 256, .telemetrySample)]

/-- The timers of the relay, of the reservoir and of the bridge (R131, R140, R142, R143, R145, R152, R156, R157). -/
def State.duePower (s : State) : List Instr :=
  dueOf ([(s.over s.relay.gapAt, .relayGapEnd),
      (s.over s.relay.shot || s.over (s.relay.run.map Prod.snd), .relayPulseEnd),
      (s.over s.relay.armAt, .relayUnarmed),
      (s.over s.relay.retryAt, .topupRetryTimer),
      (s.over s.relay.mainsAt, .mainsWaitEnd),
      (s.over s.bridge.fullAt 64 && !s.flag F.RES_STATUS_FULL, .fullSet),
      (s.over s.bridge.absAt 32 && !s.bridge.absOver, .absorbZeroTimer),
      (s.over s.bridge.limAt 32, .bridgeOverloadTimer)] ++
    (List.finRange 8).map fun k : Fin 8 => (s.over (Tab.get (fun _ => none) s.bridge.balAt k), Instr.imbalanceTimer k))

/-- The timers of one harvest input (R121). -/
def State.dueHarv (s : State) (i : Fin 4) : List Instr :=
  dueOf [(s.over (s.harv i).nextAt, .fractionPeriod i), (s.over (s.harv i).dwellAt, .fractionDwellEnd i)]

/-- The timers of one rail (R224, R226, R278, R280, R302, R304). -/
def State.dueRail (s : State) (r : Fin 6) : List Instr :=
  let x := s.rail r
  let fall (k : Nat) : Bool := match x.fall with | some f => f.stage == k && s.over f.till | none => false
  dueOf [(s.over x.dlyAt && s.rs r == rsOnDelay, .onDelayEnd r),
    (s.over x.dlyAt && s.rs r == rsOffDelay, .offDelayEnd r),
    (s.over x.hicAt, .hiccupOffEnd r),
    (s.over x.cleanFrom 32768, .hiccupCountReset r),
    (s.over x.ovlAt, .overloadTimerExpiry r),
    (fall 0, .disableDependentWaitEnd r), (fall 2, .fallT1Expiry r), (fall 3, .fallT2Expiry r)]

/-- The timers of one head link (R330). -/
def State.dueHead (s : State) (h : Fin 4) : List Instr :=
  dueOf [(s.over (s.head h).retryAt, .linkRetryTimer h), (s.over (s.head h).upAt 32768, .retriesResetTimer h)]

/-- The timers of the timetables and of SIGNAL_N (R201, R218, R220, R229, R411). -/
def State.dueTt (s : State) : List Instr :=
  let wait := s.tt.run.map TtRun.wait
  dueOf [(match wait with | some (.wait _ _ _ t) => s.over t | _ => false, .waitTimeout),
    (match wait with | some (.check _ _ _ _ _ _ till _ _) => s.over (some till) | _ => false, .checkWindowEnd),
    (s.over s.tt.sigPulseAt, .sigPulseEnd),
    (s.over s.flt.stuckAt, .signalStuckLow)]

/-- The periods of Freight jobs that have become late (R88). -/
def State.dueJobs (s : State) : List Instr :=
  dueOf ((List.finRange 10).map fun j : Fin 10 =>
    ((s.jobDeadlines j).any fun d => decide (d.2 ≤ s.ticks), Instr.freightLateCheck j))

/-- The timers that have run out at the tick counter as it stands, in the order in which one tick ends them
(assumption 10). -/
def State.due (s : State) : List Instr :=
  s.dueCore ++ s.duePower ++ (List.finRange 4).flatMap s.dueHarv ++ (List.finRange 6).flatMap s.dueRail ++
    (List.finRange 4).flatMap s.dueHead ++ s.dueTt ++ s.dueJobs

/-- A command carried out by the block itself: a command that stops leaves the state. -/
def State.self (s : State) (i : Instr) : State :=
  match exec i s with
  | .next t => t
  | .fault _ => s
  | .refused _ => s

/-- The tick counter advanced. -/
def State.tick (s : State) : State := { s with ticks := s.ticks + 1 }

/-- One tick passes, and every interval that ends at its edge ends (R72; assumption 10). While the always-on domain does not
run there is no tick. -/
def State.idle (s : State) : State := if s.aon.running then s.tick.due.foldl State.self s.tick else s

end Sys2Proof.Machine
end

