-- ==== Sys2Proof/Safety.lean ====
section
/-! DEFINITION. The words in which statements speak of runs: commands that are a power cycle, the registers that a command
may change, the causes it hands to the collector, the line it grants and the reply it sends. -/

namespace Sys2Proof.Safety

open Sys2Proof.Machine

/-- Commands that are a power cycle, and so may leave BUFFER-STOP (R8). -/
def PowerCycle : Instr → Bool
  | .powerOnReset | .aonStartRise _ _ | .drainRelease => true
  | _ => false

/-- Every register whose address is not in `as` reads the same in `t` as in `s`. -/
def OnlyRegs (as : List Nat) (s t : State) : Prop := ∀ a, a ∉ as → t.word a = s.word a

/-- The registers that right-away writes (R180, R190). -/
def raRegs : List Nat := [Reg.addr .GAUGE_RA, Reg.addr .GAUGE_TIME]

/-- From `s` to `t` the collector is handed further causes, among them the cause called `name` of source `e`. -/
def Tells (s t : State) (e : Nat) (name : String) : Prop :=
  ∃ l, t.flt.causes = s.flt.causes ++ l ∧ ∃ c ∈ l, c.src = e ∧ causeName e c.no = name

/-- Command `c` on `s` completes, and leaves `t` with the part, the revision and the queue of `s`. -/
def Does (c : Instr) (s t : State) : Prop := exec c s = .next (s.commit t)

/-- Line `l` of port `p` is granted next, it is a line of verb `v` in the form of the row, and it waits for no partition
under test. -/
def Grants (s : State) (p : PortId) (l : Line) (v : Verb) (query : Bool) : Prop :=
  s.dev = .run ∧ s.chosen p l = true ∧ l.verb = v ∧ l.query = query ∧ s.mustWait l = false

/-- What field `f` of `s` is left with where the arguments `a` may give it under the name `n`. -/
def given (a : Args) (n : String) (f : Field) (s : State) : Nat := (a.nat n).getD (s.get f) % 2 ^ f.width

/-- `s` with its next line taken out of the queue. -/
def granted (s : State) : State :=
  match s.choice with
  | some w => s.grantLine w
  | none => s

/-- `t` with the reply that answer `a` to line `l` of port `p` makes. -/
def replied (s t : State) (p : PortId) (l : Line) (a : Ans) : State := s.commit (t.answer p l a)

/-- Command `c`, granted as line `l` of port `p`, turns the rest of the work into `t` and is answered OK with `obj` and the
fields `names` in order, among them each of `vals`. -/
def AnswersWith (c : Instr) (s t : State) (p : PortId) (l : Line) (obj : String) (names : List String)
    (vals : List (String × String)) : Prop :=
  ∃ fs, exec c s = .next (replied s t p l (.ok (obj ++ fieldsOut fs))) ∧ fs.map Prod.fst = names ∧ ∀ x ∈ vals, x ∈ fs

/-- Query `c`, granted as line `l` of port `p`, is answered so, and takes nothing but its line out of the queue. -/
def Answers (c : Instr) (s : State) (p : PortId) (l : Line) (obj : String) (names : List String)
    (vals : List (String × String)) : Prop := AnswersWith c s (granted s) p l obj names vals

end Sys2Proof.Safety
end

