-- ==== Sys2Proof/Certificates/Slice0/Obligations.lean ====
section
/-! DEFINITION. The statements about this block, for the provers: each is a property of every state, drawn from the rules of
the spec that its docstring names. -/

open Sys2Proof Sys2Proof.Machine Sys2Proof.Safety

/-- For every command c, queue rest cs and state s, a step of s with c at the front of its queue answers what exec
answers for c on s with the rest as its queue. On an empty queue (assumption 10) a step adds one to the tick counter
while the always-on domain runs and changes nothing else where no interval ends at that edge; where one ends, it answers
what exec answers for the command that ends it; with the domain stopped it changes nothing. -/
def Obligations.StepRunsFront : Prop :=
  ∀ (c : Instr) (cs : List Instr) (s t : State), t = { s with pending := [], ticks := s.ticks + 1 } →
    step { s with pending := c :: cs } = exec c { s with pending := cs } ∧
    (s.aon.running = true → t.due = [] → step { s with pending := [] } = .next t) ∧
    (s.aon.running = true → t.due = [c] → step { s with pending := [] } = exec c t) ∧
    (s.aon.running = false → step { s with pending := [] } = .next { s with pending := [] })

/-- Every command on every state answers a next state, whose part, silicon revision and queue of waiting commands are
those of the state before. -/
def Obligations.EveryCommandCompletes : Prop :=
  ∀ (c : Instr) (s : State), ∃ t, exec c s = .next t ∧ t.pending = s.pending ∧ t.part = s.part ∧ t.rev = s.rev

/-- In every state whose device state is BUFFER-STOP, every command but the three of a power cycle (POWER_ON_RESET,
AON_START_RISE, DRAIN_RELEASE) leaves the device state at BUFFER-STOP. -/
def Obligations.BufferStopHolds : Prop :=
  ∀ (c : Instr) (s t : State), s.dev = .bufferStop → PowerCycle c = false → exec c s = .next t → t.dev = .bufferStop

/-- Every step from every state keeps the part and the revision, takes exactly the front command out of the queue, and
leaves BUFFER-STOP only with a power cycle at the front. -/
def Obligations.StepInvariant : Prop :=
  ∀ (s t : State), step s = .next t →
    t.part = s.part ∧ t.rev = s.rev ∧ t.pending = s.pending.tail ∧
      (s.dev = .bufferStop → (∀ c, s.pending.head? = some c → PowerCycle c = false) → t.dev = .bufferStop)

/-- The reset state has an empty queue and is in RESET with the tick counter at 0, its register table is in canonical
form, and the registers shown read their reset words; the part and the revision in SYS_ID and SYS_CAPS are the model's
choice (assumption 1). -/
def Obligations.ResetState : Prop :=
  State.reset.pending = [] ∧ State.reset.dev = .reset ∧ State.reset.ticks = 0 ∧
    Tab.wf (resetWord State.reset.part) State.reset.regs = true ∧ State.reset.readReg (Reg.addr .SYS_ID) = 0x48734401#32 ∧
    State.reset.readReg (Reg.addr .SYS_CAPS) = 0x20C7FD04#32 ∧ State.reset.readReg (Reg.addr .SYS_SYNC) = 0x001007D1#32 ∧
    State.reset.readReg (Reg.addr .RELAY_CTRL) = 0x1605DCA0#32 ∧ bitsOf (State.reset.readReg (Reg.addr .SYS_STATE)) 0 2 = 0

/-- In RUN: with the standby conditions met for 1,024 ticks VCORE goes to STBY_LVL; with one of them gone it goes back to RUN_LVL, at
once where GOOD is 1, else when GOOD rises; while GOOD falls RIGHTAWAY is 0 and VCORE lies below 0.80 V; the 2-tick
timer raises EV63 VCORE_LOW. No other register changes, but those of right-away. (Parts of R66, R67, R68, R69.) -/
def Obligations.VcoreLevels : Prop :=
  ∀ s : State, s.dev = .run →
    (∀ d, s.core.stby = false → s.standbyOk = true → s.core.stbyAt = some d →
      ∃ t, exec .vcoreToStby s = .next t ∧ t.core.stby = true ∧ t.core.vcore = 10 * s.get F.SYS_VCORE_STBY_LVL ∧
        t.ticks = max s.ticks (d + 1024) ∧ OnlyRegs [] s t) ∧
    (s.core.stbyAt = none → Does .vcoreToStby s s) ∧
    (s.core.stby = true → s.standbyOk = false →
      ∃ t, exec .vcoreToRun s = .next t ∧ t.core.stby = false ∧
        (s.flag F.SYS_VCORE_GOOD = true → t.core.vcore = 10 * s.get F.SYS_VCORE_RUN_LVL) ∧ OnlyRegs [] s t) ∧
    (s.flag F.SYS_VCORE_GOOD = false → s.core.stby = false →
      ∃ t, exec .goodRise s = .next t ∧ t.flag F.SYS_VCORE_GOOD = true ∧ t.core.vcore = 10 * s.get F.SYS_VCORE_RUN_LVL ∧
        OnlyRegs (Reg.addr .SYS_VCORE :: raRegs) s t) ∧
    (s.flag F.SYS_VCORE_GOOD = true →
      ∃ t, exec .goodFall s = .next t ∧ t.flag F.SYS_VCORE_GOOD = false ∧ t.flag F.GAUGE_RA_RIGHTAWAY = false ∧ t.core.vcore < 800) ∧
    (∀ d, s.core.lowAt = some d →
      ∃ t, exec .vcoreLowTimer s = .next t ∧ t.core.lowAt = none ∧ Tells s t 63 "VCORE_LOW" ∧ OnlyRegs [] s t)

/-- In RUN: the crystal qualified becomes the tick source and a rod in HOLDOVER acquires again; the crystal lost gives
the tick back to RC, puts a running rod into HOLDOVER and raises EV63 XTAL_LOST; a coarse step moves the coarse trim;
a window within 20 ppm ends in LOCKED and publishes its count, its error and its tap codes under the next generation;
the test oscillator takes its trim. The window is at most 10 periods of 500,000 from nominal here. (Parts of R73, R76,
R77, R490.) -/
def Obligations.TickSourceAndRod : Prop :=
  ∀ s : State, s.dev = .run →
    (s.aon.running = true → s.aon.xtal = false →
      ∃ t, exec .xtalQualified s = .next t ∧ t.aon.xtal = true ∧
        t.rod = (if s.rod = 4 then 1 else s.rod) ∧ OnlyRegs (Reg.addr .SYS_TIMEBASE :: raRegs) s t) ∧
    (s.aon.xtal = true →
      ∃ t, exec .xtalLost s = .next t ∧ t.aon.xtal = false ∧ Tells s t 63 "XTAL_LOST" ∧
        t.rod = (if s.rod = 0 then 0 else 4) ∧ OnlyRegs (Reg.addr .SYS_TIMEBASE :: raRegs) s t) ∧
    (∀ trim d, s.rod = 1 → s.aon.xtal = true → s.core.coarseN < 10 → s.core.winAt = some d →
      ∃ t, exec (.rodCoarseStep trim) s = .next t ∧ t.core.coarse = trim ∧ t.core.coarseN = s.core.coarseN + 1 ∧
        t.ticks = max s.ticks (d + 2) ∧ OnlyRegs [] s t) ∧
    (∀ count taps, 499990 ≤ count → count ≤ 500010 → s.rod = 1 ∨ s.rod = 2 ∨ s.rod = 3 → s.aon.xtal = true →
      10 ≤ s.core.coarseN →
      ∃ t, exec (.rodWindowEnd count taps) s = .next t ∧ t.rod = 2 ∧ t.get F.SYS_ROD_COUNT = count ∧
        t.sget F.SYS_TIMEBASE_ROD_ERR = (count : Int) - 500000 ∧
        t.get F.SYS_TIMEBASE_ROD_GEN = (s.get F.SYS_TIMEBASE_ROD_GEN + 1) % 256 ∧ t.core.calCount = count ∧ t.core.calTaps = taps) ∧
    (∀ trim, s.aon.xtal = true → Does (.testOscTrim trim) s { s with core := { s.core with oscTrim := trim } }) ∧
    (∀ trim, s.aon.xtal = false → Does (.testOscTrim trim) s s)

/-- In RUN: a job of one unit whose condition has held for four periods without a completion gets its LATE bit and EV63
FREIGHT_LATE at that tick, and no other register changes; without a deadline nothing is late. With no line waiting for a
grant, the last portion of an SRAM scrub and a telemetry period complete their jobs, whose records then hold the tick of
the completion and the time since the period began; while lines wait and fewer than seven have passed since the last
Freight grant, Freight does nothing. (Parts of R83, R87, R88, R90.) -/
def Obligations.FreightJobsReport : Prop :=
  ∀ s : State, s.dev = .run →
    (∀ (j : Fin 10) p d, jobPeriod j = some p → jobUnits s.part j = [0] → s.jobCond j 0 = true → s.works (s.jobBp j 0) = true →
      (s.job j 0).since = some d → (s.job j 0).late = false → (s.job j 0).paused = none →
      ∃ t, exec (.freightLateCheck j) s = .next t ∧ t.bit F.SYS_FREIGHT_LATE j = true ∧ Tells s t 63 "FREIGHT_LATE" ∧
        t.ticks = max s.ticks (d + 4 * p) ∧ OnlyRegs [Reg.addr .SYS_FREIGHT] s t) ∧
    (∀ j : Fin 10, s.jobDeadlines j = [] → Does (.freightLateCheck j) s s) ∧
    (∀ d, s.lineWaits = false → s.works 0 = true → (s.job 0 0).since = some d → (s.job 0 0).paused = none →
      ∃ t, exec (.scrubSram true) s = .next t ∧ (t.job 0 0).last = some (s.ticks, s.ticks - d) ∧
        (t.job 0 0).since = some s.ticks ∧ OnlyRegs [] s t) ∧
    (∀ d, s.lineWaits = false → s.works 0 = true → (s.job 9 0).since = some d → (s.job 9 0).paused = none →
      (∀ c : Nat, c < 4 → (s.adc c).busy ≠ none) →
      ∃ t, exec .telemetrySample s = .next t ∧ (t.job 9 0).last = some (max s.ticks (d + 256), max s.ticks (d + 256) - d) ∧
        t.ticks = max s.ticks (d + 256) ∧ (t.adc 0).freight = (s.adc 0).freight ++ [.freight] ∧ OnlyRegs [] s t) ∧
    (∀ done, s.lineWaits = true → s.core.passRun < 7 → Does (.scrubSram done) s s ∧ Does .telemetrySample s s)

/-- For thresholds that R99 allows, a sample calls for a move to BELOW exactly when it lies below LO, to ABOVE exactly
when it lies above HI, from BELOW back to INSIDE at LO + HYS or more, from ABOVE back at HI − HYS or less, and from
UNSETTLED to INSIDE only HYS inside both; no sample calls for UNSETTLED; with CONFIRM 1 a call moves at once, and a
repeated call short of CONFIRM only counts. (Parts of R99, R100, R101.) -/
def Obligations.WindowStates : Prop :=
  ∀ (lo hi hys x : Nat), lo < hi → 2 * hys ≤ hi - lo →
    (windowMove .unsettled lo hi hys x = some .inside ↔ lo + hys ≤ x ∧ x + hys ≤ hi) ∧
    (∀ st : MonState, st ≠ .below → (windowMove st lo hi hys x = some .below ↔ x < lo)) ∧
    (∀ st : MonState, st ≠ .above → (windowMove st lo hi hys x = some .above ↔ hi < x)) ∧
    (windowMove .below lo hi hys x = some .inside ↔ lo + hys ≤ x ∧ x ≤ hi) ∧
    (windowMove .above lo hi hys x = some .inside ↔ x + hys ≤ hi ∧ lo ≤ x) ∧
    windowMove .inside lo hi hys x ≠ some .inside ∧ (∀ st, windowMove st lo hi hys x ≠ some .unsettled) ∧
    (∀ (st m : MonState) (cnt : Nat), confirm st (some m) none 0 1 = (m, none, 0) ∧
      (cnt + 1 < 8 → confirm st (some m) (some m) cnt 8 = (st, some m, cnt + 1)))

/-- In RUN, with monitor n sampling: a sample comes at the next edge of its divider. One not blanked is taken at once,
unless its converter is busy in CONVERT mode; a blanked one waits for its window, under the thresholds it woke with; a
window that closes with no sample waiting just closes. Of a monitor of VCORE in WINDOW mode the state after the sample is
the one that the window and CONFIRM give, MISS and LAST read 0, and no register but MONn_STATUS and those of right-away
changes. A converter that becomes free takes the lowest-numbered monitor that waits, then Freight in order. (Parts of
R92, R93, R100, R101, R104, R105, R106, R107.) -/
def Obligations.MonitorCommands : Prop :=
  ∀ (s w : State) (n : Fin 24) (x : Nat), s.dev = .run → s.samples n = true → w = s.wakeUp n →
    w.ticks = max s.ticks (s.monEdge n) ∧
    ((s.mon n).blank = false → s.flag (F.MON_CTRL_MODE n) = false ∨ (s.adc (s.get (F.MON_CTRL_ADC n))).busy = none →
      Does (.monitorSample n x) s (w.takeSample n x).evalRa) ∧
    ((s.mon n).blank = false → s.flag (F.MON_CTRL_MODE n) = true → (s.adc (s.get (F.MON_CTRL_ADC n))).busy ≠ none →
      Does (.monitorSample n x) s
        ((w.modAdc (s.get (F.MON_CTRL_ADC n)) fun a => { a with mons := Nat.lor a.mons (2 ^ n.val) }).modMon n
          fun y => { y with wake := some (w.wakeNow n) }).evalRa) ∧
    ((s.mon n).blank = true → (s.mon n).wait = false →
      Does (.monitorSample n x) s (w.modMon n fun y => { y with wait := true, wake := some (w.wakeNow n) }).evalRa) ∧
    ((s.mon n).wait = false → Does (.blankWindowClose n x) s (s.modMon n fun y => { y with blank := false, wait := false })) ∧
    ((s.mon n).blank = true → (s.mon n).wait = true →
      Does (.blankWindowClose n x) s ((s.modMon n fun y => { y with blank := false, wait := false }).sampleDue n x).evalRa) ∧
    ((s.mon n).blank = false → s.flag (F.MON_CTRL_MODE n) = false → s.get (F.MON_CTRL_INPUT n) = 15 → s.tt.run = none →
      ∃ t, exec (.monitorSample n x) s = .next t ∧ t.ticks = max s.ticks (s.monEdge n) ∧
        t.monState n = (s.judge n (s.wakeNow n) (s.monState n) (s.mon n).tgt (s.mon n).cnt (x % 4096)).1 ∧
        t.get (F.MON_STATUS_MISS n) = 0 ∧ t.get (F.MON_STATUS_LAST n) = 0 ∧ (t.mon n).missRun = 0 ∧
        OnlyRegs (Reg.addr (.MON_STATUS n) :: raRegs) s t) ∧
    (∀ (c : Fin 4) m ms, (s.adc c).busy = some .freight → bitsSet (s.adc c).mons 24 = m :: ms →
      ∃ t, exec (.converterFree c x) s = .next t ∧ (t.adc c).busy = some (.monitor m) ∧
        (t.adc c).mons = maskMinus (s.adc c).mons (2 ^ m) ∧ (t.adc c).freight = (s.adc c).freight ∧ OnlyRegs raRegs s t) ∧
    (∀ (c : Fin 4) r rs, (s.adc c).busy = some .freight → bitsSet (s.adc c).mons 24 = [] → (s.adc c).freight = r :: rs →
      ∃ t, exec (.converterFree c x) s = .next t ∧ (t.adc c).busy = some r ∧ (t.adc c).freight = rs ∧ OnlyRegs raRegs s t) ∧
    (∀ c : Fin 4, Does (.converterFree c x) s (s.convDone c x).evalRa)

/-- In RUN, the timer of a balancing output that is still high raises EV42 IMBALANCE at its deadline and changes no
register; of one that has gone low, or that has no timer, it does nothing. An output that goes high starts its timer of
2^23 ticks, and one that goes low ends it and is no longer PRESENT. (Parts of R142, R163.) -/
def Obligations.CellBalanceTimer : Prop :=
  ∀ (s : State) (k : Fin 8), s.dev = .run →
    (∀ d, Tab.get (fun _ => none) s.bridge.balAt k = some d → s.bit F.RES_BAL_BAL_ON k = true →
      ∃ t, exec (.imbalanceTimer k) s = .next t ∧ Tells s t 42 "IMBALANCE" ∧ OnlyRegs [] s t ∧ t.ticks = max s.ticks d ∧
        Tab.get (fun _ => none) t.bridge.balAt k = none) ∧
    (s.bit F.RES_BAL_BAL_ON k = false ∨ Tab.get (fun _ => none) s.bridge.balAt k = none → Does (.imbalanceTimer k) s s) ∧
    (s.bit F.RES_BAL_BAL_ON k = false →
      Tab.get (fun _ => none) (s.setBal k true).bridge.balAt k = some (s.ticks + 2 ^ 23) ∧ (s.setBal k true).bit F.RES_BAL_BAL_ON k = true) ∧
    Tab.get (fun _ => none) (s.setBal k false).bridge.balAt k = none ∧ (s.setBal k false).bit F.RES_BAL_BAL_ON k = false ∧
    (∀ b, OnlyRegs [Reg.addr .RES_BAL] s (s.setBal k b))

/-- In RUN, for a harvest input i the part has: a reference refresh comes at its edge and samples MPPSET of every input,
below 10 mV as OFF; a FRACTION period that is due starts an open-circuit sample, its dwell and the next period; the end
of the dwell asks for the conversion at Freight rank; the input's comparator clamps it, with EV40 CLAMP, and releases it;
VKA_CLAMP stops the converters, so that no input reads HARVEST, and its release lets them go on. (Parts of R94, R117,
R120, R121, R126, R134.) -/
def Obligations.HarvestInputs : Prop :=
  ∀ (s : State) (i : Fin 4), s.dev = .run → s.part.hasHarv i = true →
    (∀ mpp, s.aon.running = true →
      ∃ t, exec (.referenceRefresh mpp) s = .next t ∧ t.ticks = max s.ticks s.refreshEdge ∧ t.core.refAt = t.ticks ∧
        t.get (F.HARV_SET_SET i) = min 4095 (roundNat (mpp.getD i 0 * (harvGain i).1) (harvGain i).2) ∧
        (t.harv i).off = decide (mpp.getD i 0 < 10000) ∧
        OnlyRegs ((List.range 4).flatMap fun j => [Reg.addr (.HARV_SET j), Reg.addr (.HARV_STATUS j)]) s t) ∧
    (∀ d, (s.harv i).nextAt = some d → s.harvMode i = 1 → (s.harv i).voc = .none →
      ∃ t, exec (.fractionPeriod i) s = .next t ∧ t.ticks = max s.ticks d ∧ (t.harv i).voc = .dwell ∧
        (t.harv i).dwellAt = some (t.ticks + 2 ^ s.get (F.HARV_CTRL_DWELL i)) ∧
        (t.harv i).nextAt = some (t.ticks + 2 ^ s.get (F.HARV_CTRL_PERIOD i) * 32768) ∧ OnlyRegs [Reg.addr (.HARV_STATUS i)] s t) ∧
    (∀ d, (s.harv i).voc = .dwell → (s.harv i).dwellAt = some d → (∀ c : Nat, c < 4 → (s.adc c).busy ≠ none) →
      ∃ t, exec (.fractionDwellEnd i) s = .next t ∧ t.ticks = max s.ticks d ∧ (t.harv i).voc = .convert ∧
        (t.harv i).dwellAt = none ∧ (t.adc 0).freight = (s.adc 0).freight ++ [.voc i] ∧ OnlyRegs [Reg.addr (.HARV_STATUS i)] s t) ∧
    (∃ t, exec (.inputClamp i) s = .next t ∧ (t.harv i).clampOwn = true ∧ t.get (F.HARV_STATUS_STATE i) = 4 ∧
      ((s.harv i).clampOwn = false → (s.harv i).clampMon = false → Tells s t 40 "CLAMP") ∧ OnlyRegs [Reg.addr (.HARV_STATUS i)] s t) ∧
    (∃ t, exec (.clampRelease i) s = .next t ∧ (t.harv i).clampOwn = false ∧
      (t.get (F.HARV_STATUS_STATE i) = 4 ↔ (s.harv i).clampMon = true) ∧ OnlyRegs [Reg.addr (.HARV_STATUS i)] s t) ∧
    (∃ t, exec .vkaClamp s = .next t ∧ t.aon.vkaClamp = true ∧ t.get (F.HARV_STATUS_STATE i) ≠ 2 ∧
      OnlyRegs ((List.range 4).map fun j => Reg.addr (.HARV_STATUS j)) s t) ∧
    (∃ t, exec .vkaClampRelease s = .next t ∧ t.aon.vkaClamp = false ∧
      OnlyRegs ((List.range 4).map fun j => Reg.addr (.HARV_STATUS j)) s t)

/-- A clamp set on an input raises EV40 CLAMP, its STATE reads CLAMP (4), and no register but the input's HARV_STATUS
changes. (Parts of R117, R134, R135.) -/
def Obligations.HarvestClampPresent : Prop :=
  ∀ (s : State) (i : Fin 4), s.dev = .run →
    ((s.harv i).clampOwn = false → (s.harv i).clampMon = false → Tells s (s.setClamp i true false) 40 "CLAMP") ∧
    (∀ own mon, ((s.setClamp i own mon).harv i).clampOwn = own ∧ ((s.setClamp i own mon).harv i).clampMon = mon) ∧
    (∀ own mon a, a ≠ Reg.addr (.HARV_STATUS i) → (s.setClamp i own mon).word a = s.word a) ∧
    (s.setClamp i true false).get (F.HARV_STATUS_STATE i) = 4

/-- In RUN: a PRESS begins a hold at the present tick and a RELEASE ends it; the end of a PRESS with the stack at
1.000 V or more raises EV40 KEY_PRESS and that of a RELEASE raises KEY_RELEASE; no register changes. (Parts of R125,
R134, R413.) -/
def Obligations.KeyPulses : Prop :=
  ∀ s : State, s.dev = .run →
    (s.aon.keyPulse = .none →
      ∃ t, exec (.keyPulseStart true) s = .next t ∧ t.aon.keyPulse = .press ∧ t.aon.keyHold = some s.ticks ∧ OnlyRegs [] s t) ∧
    (s.aon.keyPulse = .none →
      ∃ t, exec (.keyPulseStart false) s = .next t ∧ t.aon.keyPulse = .release ∧ t.aon.keyHold = none ∧ OnlyRegs [] s t) ∧
    (∀ vka stack, s.aon.keyPulse = .release →
      ∃ t, exec (.keyPulseEnd vka stack) s = .next t ∧ t.aon.keyPulse = .none ∧ Tells s t 40 "KEY_RELEASE" ∧ OnlyRegs [] s t) ∧
    (∀ vka stack, s.aon.keyPulse = .press → 1000 ≤ stack →
      ∃ t, exec (.keyPulseEnd vka stack) s = .next t ∧ t.aon.keyPulse = .none ∧ Tells s t 40 "KEY_PRESS" ∧ OnlyRegs [] s t)

/-- In RUN with the always-on domain running and no drain: the reservoir takes VKA below the level that harvest must hold
with the stack able to feed it; harvest takes it back at RES_OFF, from the backup cell and from a feed with no relay pulse
in hand, or when the feed has delivered nothing; a feed that runs low gives it to harvest; a recovered stack takes it from
the backup cell; the backup cell takes it at BK_ON; each change of SOURCE raises EV41 SOURCE and writes HARV_START alone.
A trickle burst at TRICKLE_ON sets TRICKLE, and its end adds its energy modulo 2^32. (Parts of R127, R128, R134, R160.) -/
def Obligations.KeepAliveSource : Prop :=
  ∀ (s : State) (vka : Nat), s.dev = .run → s.aon.running = true → s.aon.drain = false →
    (∀ stack, 1050 ≤ stack → s.get F.HARV_START_SOURCE = 0 → vka < s.holdLevel →
      ∃ t, exec (.resOnFall vka stack) s = .next t ∧ t.get F.HARV_START_SOURCE = 1 ∧ t.aon.feedLow = false ∧ Tells s t 41 "SOURCE" ∧
        OnlyRegs [Reg.addr .HARV_START] s t) ∧
    (∀ stack, s.holdLevel ≤ vka → Does (.resOnFall vka stack) s s) ∧
    (s.get F.HARV_START_SOURCE = 2 ∨ s.get F.HARV_START_SOURCE = 1 ∧ s.relayIdle = true → s.get F.HARV_KA_RES_OFF * 25 ≤ vka →
      ∃ t, exec (.resOffRise vka) s = .next t ∧ t.get F.HARV_START_SOURCE = 0 ∧ Tells s t 41 "SOURCE" ∧
        OnlyRegs [Reg.addr .HARV_START] s t) ∧
    (s.get F.HARV_START_SOURCE = 1 → s.relayIdle = true →
      ∃ t, exec .resOffHoldTimer s = .next t ∧ t.get F.HARV_START_SOURCE = 0 ∧ Tells s t 41 "SOURCE" ∧
        OnlyRegs [Reg.addr .HARV_START] s t) ∧
    (s.get F.HARV_START_SOURCE = 1 →
      ∃ t, exec (.stackFeedLow vka) s = .next t ∧ t.get F.HARV_START_SOURCE = 0 ∧ t.aon.feedLow = true ∧ Tells s t 41 "SOURCE" ∧
        OnlyRegs [Reg.addr .HARV_START] s t) ∧
    (s.get F.HARV_START_SOURCE = 2 ∨ s.get F.HARV_START_SOURCE = 0 ∧ s.aon.feedLow = true ∧ vka < s.holdLevel →
      ∃ t, exec (.stackFeedRecover vka) s = .next t ∧ t.get F.HARV_START_SOURCE = 1 ∧ t.aon.feedLow = false ∧
        Tells s t 41 "SOURCE" ∧ OnlyRegs [Reg.addr .HARV_START] s t) ∧
    (s.flag F.BACKUP_STATUS_PRESENT = true → s.get F.HARV_START_SOURCE ≠ 2 → vka ≤ s.bkOn →
      ∃ t, exec (.bkOnFall vka) s = .next t ∧ t.get F.HARV_START_SOURCE = 2 ∧ Tells s t 41 "SOURCE" ∧
        OnlyRegs [Reg.addr .HARV_START] s t) ∧
    (s.get F.HARV_START_SOURCE = 0 → s.relay.wait = none → s.atFull = false → s.get F.HARV_KA_TRICKLE_ON * 25 ≤ vka →
      ∃ t, exec (.trickleStart vka) s = .next t ∧ t.flag F.HARV_START_TRICKLE = true ∧ OnlyRegs [Reg.addr .HARV_START] s t) ∧
    (∀ mJ, ∃ t, exec (.trickleStop mJ) s = .next t ∧ t.flag F.HARV_START_TRICKLE = false ∧
      t.get F.HARV_TRICKLE_ENERGY = (s.get F.HARV_TRICKLE_ENERGY + mJ) % 2 ^ 32 ∧
        OnlyRegs [Reg.addr .HARV_START, Reg.addr .HARV_TRICKLE] s t)

/-- In RUN: a cell below 1.900 V sets EMPTY and raises EV45 EMPTY; an update of a cell above 2.150 V stores its
voltage, adds the energy drawn, and shows it PRESENT, neither LOW nor EMPTY. No other register changes. (Parts of
R161, R163, R164.) -/
def Obligations.BackupCell : Prop :=
  ∀ s : State, s.dev = .run → s.aon.running = true →
    (s.flag F.BACKUP_STATUS_EMPTY = false →
      ∃ t, exec .backupEmpty s = .next t ∧ t.flag F.BACKUP_STATUS_EMPTY = true ∧ Tells s t 45 "EMPTY" ∧
        OnlyRegs [Reg.addr .BACKUP_STATUS] s t) ∧
    (∀ code used, 1434 ≤ code → code < 4096 → s.get F.BACKUP_STATUS_USED + used < 65536 →
      ∃ t, exec (.backupUpdate code used) s = .next t ∧ t.get F.BACKUP_STATUS_VBACKUP = code ∧
        t.get F.BACKUP_STATUS_USED = s.get F.BACKUP_STATUS_USED + used ∧ t.flag F.BACKUP_STATUS_PRESENT = true ∧
        t.flag F.BACKUP_STATUS_LOW = false ∧ t.flag F.BACKUP_STATUS_EMPTY = false ∧ OnlyRegs [Reg.addr .BACKUP_STATUS] s t)

/-- In RUN: the gap ends and a waiting request waits for arming for 2,048 ticks; armed, it runs for WIDTH ticks, unless it
is an opening whose partition has failed, which is refused; a
pulse that has run its width leaves the relay CLOSED or OPEN, is counted, starts the gap of 32 ticks and raises EV44
SET or CLR; a pulse cut at RELAY_STOP leaves it UNKNOWN with CUT set; a request not armed is abandoned with UNARMED
set. Ends of pulses are stated here for the recovery shot, which owes no reply and no step. (Parts of R131, R152,
R153, R164.) -/
def Obligations.RelayPulses : Prop :=
  ∀ s : State, s.dev = .run →
    (∀ d, s.relay.gapAt = some d →
      Does .relayGapEnd s ({ s.reach d with relay := { s.relay with
        gapAt := none, armAt := if s.relay.wait.isSome then some (max s.ticks d + 2048) else none } } : State).relayBits) ∧
    (∀ r a, s.relay.wait = some r → s.relay.armAt = some a → r.set = true ∨ s.failed 4 = false ∧ s.failed 6 = false →
      ∃ t, exec .relayArmed s = .next t ∧ t.relay.wait = none ∧ t.relay.run = some (r, s.ticks + s.get F.RELAY_CTRL_WIDTH) ∧
        t.flag F.RELAY_STATUS_PEND = true ∧ t.flag F.HARV_START_RELAY_PEND = false ∧
        OnlyRegs [Reg.addr .RELAY_STATUS, Reg.addr .HARV_START] s t) ∧
    (∀ r a, s.relay.wait = some r → s.relay.armAt = some a → r.set = false → r.why = .recovery → s.failed 4 = true ∨ s.failed 6 = true →
      ∃ t, exec .relayArmed s = .next t ∧ t.relay.wait = none ∧ t.relay.run = s.relay.run ∧ Tells s t 44 "REFUSED" ∧
        OnlyRegs [Reg.addr .RELAY_STATUS, Reg.addr .HARV_START] s t) ∧
    (∀ r d, s.relay.shot = none → s.relay.run = some (r, d) → r.why = .recovery →
      ∃ t, exec .relayPulseEnd s = .next t ∧ t.get F.RELAY_STATUS_STATE = (if r.set then 2 else 1) ∧ t.relay.run = none ∧
        t.relay.gapAt = some (max s.ticks d + 32) ∧ Tells s t 44 (if r.set then "SET" else "CLR") ∧
        t.get F.RELAY_STATUS_COUNT = (s.get F.RELAY_STATUS_COUNT + 1) % 2 ^ F.RELAY_STATUS_COUNT.width) ∧
    (∀ r d, s.relay.shot = none → s.relay.run = some (r, d) → r.why = .recovery →
      ∃ t, exec .relayCut s = .next t ∧ t.get F.RELAY_STATUS_STATE = 0 ∧ t.flag F.RELAY_STATUS_CUT = true ∧
        Tells s t 41 "RELAY_CUT" ∧ OnlyRegs [Reg.addr .RELAY_STATUS, Reg.addr .HARV_START] s t) ∧
    (∀ r d, s.relay.wait = some r → s.relay.armAt = some d → r.why = .recovery →
      ∃ t, exec .relayUnarmed s = .next t ∧ t.relay.wait = none ∧ t.flag F.RELAY_STATUS_UNARMED = true ∧
        Tells s t 41 "RELAY_UNARMED" ∧ OnlyRegs [Reg.addr .RELAY_STATUS, Reg.addr .HARV_START] s t)

/-- In RUN: with the top-up conditions met a top-up closure raises EV44 TOPUP and asks for RELAY_SET; the retry timer
runs out; a mains wait that ends with the relay CLOSED sets WAIT_MAINS and raises EV44 MAINS_ABSENT where the mains has
not qualified in it, and just ends where it has.
(Parts of R156, R157, R163.) -/
def Obligations.TopUpAndMainsWait : Prop :=
  ∀ s : State, s.dev = .run →
    (s.topupDue = true →
      Does .topupRequest s (((s.setClosure .topup).raise 44 "TOPUP").relayRequest { set := true, why := .topup })) ∧
    (∀ d, s.relay.retryAt = some d →
      Does .topupRetryTimer s { s with ticks := max s.ticks d, relay := { s.relay with retryAt := none } }) ∧
    (∀ d, s.relay.mainsAt = some d → s.relay.mainsMet = false → s.get F.RELAY_STATUS_STATE = 2 →
      ∃ t, exec .mainsWaitEnd s = .next t ∧ t.flag F.RELAY_STATUS_WAIT_MAINS = true ∧ Tells s t 44 "MAINS_ABSENT" ∧
        t.relay.mainsAt = none ∧ t.ticks = max s.ticks d ∧ OnlyRegs [Reg.addr .RELAY_STATUS] s t) ∧
    (∀ d, s.relay.mainsAt = some d → s.relay.mainsMet = true →
      Does .mainsWaitEnd s { s with ticks := max s.ticks d, relay := { s.relay with mainsAt := none } })

/-- In RUN with BP4 working: a stack measurement while the bridge does not switch stores the bus voltage and clears
LIMITED; a switching cycle stores the bus voltage; FULL is set 64 ticks after the stack came near FULL_V and raises
EV42 FULL; ABSORB is over 32 ticks after its current reached zero, and its mode ends with the switching cycle in
progress; a limit that has bound for 32 ticks in SUPPORT raises EV43 OVERLOAD; a phase that reaches ILIM ends its on-time
and opens the blanking of the bridge's edges. (Parts of R106, R139, R140, R143, R144, R145, R148, R169.) -/
def Obligations.BridgeCommands : Prop :=
  ∀ s : State, s.dev = .run →
    (∀ v i b p, within 2 4 s.mode = false → s.works 4 = true → b < 4096 →
      ∃ t, exec (.stackMeasTimer v i b p) s = .next t ∧ t.gauge.prev = none ∧ t.flag F.BR_STATUS_LIMITED = false ∧
        t.get F.BR_STATUS_VBUS = b) ∧
    (∀ m : BridgeMeas, within 2 4 s.mode = true → s.works 4 = true → m.vbus < 4096 →
      ∃ t, exec (.bridgeCycle m) s = .next t ∧ t.get F.BR_STATUS_VBUS = m.vbus) ∧
    (∀ d, s.bridge.fullAt = some d → s.flag F.RES_STATUS_FULL = false → s.relay.closure = .none →
      ∃ t, exec .fullSet s = .next t ∧ t.flag F.RES_STATUS_FULL = true ∧ Tells s t 42 "FULL" ∧ t.ticks = max s.ticks (d + 64) ∧
        OnlyRegs [Reg.addr .RES_STATUS] s t) ∧
    (∀ d, s.bridge.absAt = some d → s.mode = 3 →
      ∃ t, exec .absorbZeroTimer s = .next t ∧ t.ticks = max s.ticks (d + 32) ∧ t.bridge.absOver = true ∧ t.mode = 3 ∧
        OnlyRegs [] s t) ∧
    (∀ m : BridgeMeas, s.mode = 3 → s.bridge.absOver = true → s.bridge.absEdge = false → s.works 4 = true →
      ∃ t, exec (.bridgeCycle m) s = .next t ∧ t.mode ≠ 3) ∧
    (∀ d, s.bridge.limAt = some d → s.mode = 4 → s.causePresent 43 2 = false →
      ∃ t, exec .bridgeOverloadTimer s = .next t ∧ Tells s t 43 "OVERLOAD" ∧ OnlyRegs [] s t) ∧
    (∀ k : Fin 2, within 2 4 s.mode = true → s.works 4 = true →
      Does (.bridgePhaseIlim k false) s
        ({ s with bridge := { s.bridge with ended := Nat.lor s.bridge.ended (2 ^ k.val) } }.openBlank 21))

/-- In RUN: MAINS_OK low is taken at once; MAINS_OK high starts a qualification of 64 ticks; at its end mains is
qualified, WAIT_MAINS is 0 and a relay of unknown state counts as CLOSED. (Parts of R147, R153, R157.) -/
def Obligations.MainsQualification : Prop :=
  ∀ s : State, s.dev = .run →
    (∃ t, exec .mainsOkFall s = .next t ∧ t.flag F.BR_STATUS_MAINS_OK = false ∧ t.flag F.BR_STATUS_MAINS_Q = false ∧
      t.bridge.qualAt = none) ∧
    (s.flag F.BR_STATUS_MAINS_OK = false →
      ∃ t, exec .mainsOkRise s = .next t ∧ t.flag F.BR_STATUS_MAINS_OK = true ∧ t.bridge.qualAt = some (s.ticks + 64) ∧
        OnlyRegs [Reg.addr .BR_STATUS] s t) ∧
    (∀ d, s.bridge.qualAt = some d → s.flag F.BR_STATUS_MAINS_OK = true → s.get F.RELAY_STATUS_STATE = 0 →
      ∃ t, exec .mainsQualified s = .next t ∧ t.flag F.BR_STATUS_MAINS_Q = true ∧ t.get F.RELAY_STATUS_STATE = 2 ∧
        t.flag F.RELAY_STATUS_WAIT_MAINS = false ∧ t.ticks = max s.ticks d)

/-- From SELFTEST and RUN, RESET_N low and VKA below CORE_LOW enter RESET, each recorded as LASTRESET; the tick counter,
the stored bytes, the keep-alive source, the relay's state and the crystal are kept, the ports' lines and the queue are
emptied, the bridge is OFF, no timetable runs, and every rail is OFF; CORE_LOW sets VKA_RESET and ends the qualification
of the core supply. In BUFFER-STOP RESET_N does nothing. A power-on reset outside BUFFER-STOP enters RESET with the tick
counter zeroed, the always-on domain stopped and COLD set. A slot write in progress is cut off: the bytes are stated for
none. (Parts of R7, R71, R126, R135, R443.) -/
def Obligations.ResetEntries : Prop :=
  ∀ s : State,
    (s.dev = .selftest ∨ s.dev = .run →
      (∃ t, exec .resetNLow s = .next t ∧ t.dev = .reset ∧ t.lastReset = .resetn ∧ t.ticks = s.ticks ∧
        (s.store.job = none → t.store.bytes = s.store.bytes) ∧ t.get F.HARV_START_SOURCE = s.get F.HARV_START_SOURCE ∧
        t.get F.RELAY_STATUS_STATE = s.get F.RELAY_STATUS_STATE ∧ t.aon = s.aon ∧ t.queue = [] ∧ t.mode = 0 ∧ t.tt.run = none ∧
        ∀ r : Nat, r < 6 → t.rs r = rsOff) ∧
      (∃ t, exec .coreLowFall s = .next t ∧ t.dev = .reset ∧ t.lastReset = .corelow ∧ t.ticks = s.ticks ∧
        (s.store.job = none → t.store.bytes = s.store.bytes) ∧ t.flag F.HARV_START_VKA_RESET = true ∧
        t.aon = { s.aon with coreQual := false })) ∧
    (s.dev = .bufferStop → Does .resetNLow s s) ∧
    (s.dev ≠ .bufferStop →
      ∃ t, exec .powerOnReset s = .next t ∧ t.dev = .reset ∧ t.lastReset = .por ∧ t.ticks = 0 ∧
        (s.store.job = none → t.store.bytes = s.store.bytes) ∧ t.aon.running = false ∧ t.aon.xtal = false ∧
        t.flag F.HARV_START_COLD = true ∧ t.queue = [] ∧ t.tt.run = none)

/-- In RESET with the always-on domain running, no drain, VKA at 2.000 V or more and the core supply qualified, RESET
ends: COMPAT is as the ball stands, VCORE is GOOD, and the device is in SELFTEST with BP0 first where PWRUP is set, else in
RUN; with VKA lower, or the supply not qualified, nothing happens. A KEY hold of 163,840 ticks in RUN raises EV61
KEY_HOLD; one of 327,680 ticks closes the drain switch and ends a trickle burst. AON_START starts the always-on domain
with the inputs' MPPSET sampled. The release of the drain completes the power cycle that leaves BUFFER-STOP for RESET.
(Parts of R6, R8, R10, R114, R120, R129, R413, R427.) -/
def Obligations.EndOfResetAndKeyHold : Prop :=
  ∀ (s : State) (vka peak : Nat) (cb : Bool),
    (s.dev = .reset → s.aon.running = true → s.aon.drain = false → 2000 ≤ vka → s.coreOk vka peak = true →
      ∃ t, exec (.endOfReset vka peak cb) s = .next t ∧ t.compat = cb ∧ t.flag F.SYS_VCORE_GOOD = true ∧ t.aon.leftReset = true ∧
        t.aon.coreQual = true ∧ (t.dev = .selftest ∨ t.dev = .run) ∧
        (t.dev = .selftest → t.bist.run = some { bp := 0, how := .powerup } ∧ t.flag F.BIST_CTRL_PWRUP = true) ∧
        (t.dev = .run → t.bist.run = none)) ∧
    (s.dev = .reset → vka < 2000 ∨ s.coreOk vka peak = false → Does (.endOfReset vka peak cb) s s) ∧
    (∀ d, s.dev = .run → s.aon.keyHold = some d →
      (∃ t, exec .keyHold5s s = .next t ∧ Tells s t 61 "KEY_HOLD" ∧ t.ticks = max s.ticks (d + 163840) ∧ OnlyRegs [] s t) ∧
      (∃ t, exec .keyHoldDrain s = .next t ∧ t.aon.drain = true ∧ t.flag F.HARV_START_TRICKLE = false ∧
        t.ticks = max s.ticks (d + 327680) ∧ (∀ i : Nat, s.part.hasHarv i = true → i < 4 → t.get (F.HARV_STATUS_STATE i) ≠ 2) ∧
        OnlyRegs (Reg.addr .HARV_START :: (List.range 4).map fun j => Reg.addr (.HARV_STATUS j)) s t)) ∧
    (∀ (ms : Nat) mpp, s.dev = .reset → s.aon.running = false →
      ∃ t, exec (.aonStartRise ms mpp) s = .next t ∧ t.aon.running = true ∧ t.dev = .reset ∧ t.ticks = s.ticks ∧
        ∀ i : Nat, s.part.hasHarv i = true → i < 4 → (t.harv i).off = decide (mpp.getD i 0 < 10000)) ∧
    (s.dev = .bufferStop → s.aon.drain = true → s.aon.running = false →
      ∃ t, exec .drainRelease s = .next t ∧ t.aon.drain = false ∧ t.dev = .reset ∧ t.lastReset = .por ∧ t.ticks = 0) ∧
    (s.dev ≠ .bufferStop → s.aon.drain = true → s.aon.running = false →
      Does .drainRelease s { s with aon := { s.aon with drain := false } })

/-- In RUN: VIO going discards each port's line and output, counts its notifications as lost, reads the parks as low and
aborts a light-gate run; at its return the ports resume with an empty line and the settings they hold; VLV going loses
every UP link and reports no lock; at its return LINE_GO of every head is low; VDRV low holds every PWM output tri-stated
and the bridge gates off, and keeps the core supply qualified where VKA stands at CORE_LOW or above; its rise ends the
hold. (Parts of R48, R129, R329, R385, R482, R483, R484.) -/
def Obligations.SupplyCommands : Prop :=
  ∀ (s : State) (vka : Nat), s.dev = .run →
    (s.aon.vioOk = true →
      ∃ t, exec .vioLoss s = .next t ∧ t.aon.vioOk = false ∧ t.queue = s.queue ∧
        (∀ p : PortId, (t.port p).out = [] ∧ (t.port p).rx = [] ∧ (t.port p).dropped = (s.port p).dropped + (s.port p).notices) ∧
        ∀ h : Nat, h < s.part.heads → (t.head h).hpark = false ∧ t.flag (F.HEAD_LGSTAT_PARKED h) = false ∧ t.lgRunning h = false) ∧
    (s.aon.vioOk = false → Does .vioLoss s s) ∧
    (s.aon.vioOk = false →
      ∃ t, exec .vioReturn s = .next t ∧ t.aon.vioOk = true ∧ (∀ p : PortId, (t.port p).rx = [] ∧ (t.port p).set = (s.port p).set ∧
        (t.port p).out = (s.port p).out) ∧ OnlyRegs [] s t) ∧
    (∃ t, exec .vlvLoss s = .next t ∧ t.aon.vlvOk = false ∧
      ∀ h : Nat, h < s.part.heads → t.flag (F.LINE_LSTAT_LOCKUP h) = false ∧ t.link h ≠ 3 ∧ (t.head h).go = .low) ∧
    (∃ t, exec .vlvReturn s = .next t ∧ t.aon.vlvOk = true ∧ OnlyRegs [] s t ∧
      ∀ h : Nat, h < s.part.heads → (t.head h).go = .low) ∧
    (∃ t, exec (.vdrvLow vka) s = .next t ∧ t.aon.vdrvOk = false ∧ (∀ n, t.pwmTri n = true) ∧ t.bridgeGates = false ∧
      t.aon.coreQual = (s.aon.coreQual || s.aon.vdrvOk && decide (1800 ≤ vka)) ∧ OnlyRegs [] s t) ∧
    (∃ t, exec .vdrvRise s = .next t ∧ t.aon.vdrvOk = true ∧ (∀ n, t.pwmTri n = (s.ph n).tri) ∧
      t.bridgeGates = within 2 4 s.mode ∧ OnlyRegs [] s t)

/-- In RUN with VIO present: a printing byte is added to the line in progress of a UART port that has space, and
nothing is queued; a terminator empties the line and queues at most one command; the line time? is queued as the query
TIME in upper case; a line lost to an overrun is answered 23 OVERRUN; a break returns the port to the settings of the
image, discards its line and raises EV58 BREAK; CTS is recorded. No register changes. (Parts of R30, R31, R34, R52,
R53, R54, R57.) -/
def Obligations.BytesAndLines : Prop :=
  ∀ (s : State) (p : PortId), s.dev = .run → s.aon.vioOk = true →
    (∀ b : Byte, p ≠ .spi → 32 ≤ b.toNat → b.toNat ≤ 126 → s.failed 1 = false → (s.port p).skip = false → s.held256 p < 256 →
      (s.port p).rx.length < 160 →
      ∃ t, exec (.byteReceived p b) s = .next t ∧ (t.port p).rx = (s.port p).rx ++ [b] ∧ t.queue = s.queue ∧ OnlyRegs [] s t) ∧
    (∃ t, exec (.lineTerminator p) s = .next t ∧ (t.port p).rx = [] ∧ (t.port p).cr = true ∧ OnlyRegs [] s t ∧
      ∃ c, t.queue = s.queue ++ c ∧ c.length ≤ 1) ∧
    ((s.port p).rx = [0x74#8, 0x69#8, 0x6D#8, 0x65#8, 0x3F#8] → (s.port p).extra = 0 → (s.port p).skip = false →
      (s.port p).overrun = false → (s.port p).bad = false → s.strict p = false → s.failed 1 = false → (s.waiting p).length < 8 →
      ∃ t, exec (.lineTerminator p) s = .next t ∧ t.queue = s.queue ++
        [⟨p, { verb := .time, query := true, prio := false, toks := [], tag := none, len := 5 }, s.grants⟩]) ∧
    ((s.port p).overrun = true → s.failed 1 = false →
      ∃ t i, exec (.lineTerminator p) s = .next t ∧ t.queue = s.queue ∧ i ∈ (t.port p).out ∧ i.kind = .reply ∧
        i.text = noText s.compat 23 "OVERRUN" "") ∧
    (p ≠ .spi → ∃ t, exec (.uartBreak p) s = .next t ∧ (t.port p).set = s.portDefault p ∧ (t.port p).rx = [] ∧
      t.queue = s.queue ∧ Tells s t 58 "BREAK" ∧ OnlyRegs [] s t) ∧
    (∀ lvl, Does (.ctsChange lvl) s { s with host := { s.host with cts := lvl } })

/-- In RUN with the port able to send: the first line of the output leaves in the form of the port, unless CTS holds
HOST; the count of dropped notifications is sent as !LOST once there is space, with CR LF before it and the partial line
again after it on a TYPED port with a line begun, and EV58 LOST is raised; an SPI frame
clocks out as many bytes as it clocks in, the first of them the number of bytes waiting, at most 255. (Parts of R47,
R48, R49, R50, R52, R55.) -/
def Obligations.OutputOfPorts : Prop :=
  ∀ (s : State) (p : PortId), s.dev = .run → s.canSend = true →
    (∀ i rest, (s.port p).out = i :: rest → i.kind ≠ .echo → i.apply = none → (p = .host ∧ s.host.set.flow = true → s.host.cts = true) →
      ∃ t, exec (.replySent p) s = .next t ∧ (t.port p).out = rest ∧ (t.port p).sent = lineOut (s.strict p) i.text ∧
        (t.port p).set = (s.port p).set ∧ OnlyRegs [] s t) ∧
    (s.host.set.flow = true → s.host.cts = false → Does (.replySent .host) s s) ∧
    (0 < (s.port p).dropped → (s.port p).notices < 32 → s.typed p = true → (s.port p).rx ≠ [] → (s.port p).out = [] →
      ∃ t, exec (.notifyQueueSpace p) s = .next t ∧ (t.port p).dropped = 0 ∧ (t.port p).out =
        [⟨.echo, crlf, none⟩, ⟨.lost, "!LOST " ++ dec (s.port p).dropped, none⟩, ⟨.echo, textOf (s.port p).rx, none⟩]) ∧
    (0 < (s.port p).dropped → (s.port p).notices < 32 → s.typed p = false ∨ (s.port p).rx = [] →
      ∃ t i, exec (.notifyQueueSpace p) s = .next t ∧ (t.port p).dropped = 0 ∧ (t.port p).out = (s.port p).out ++ [i] ∧
        i.kind = .lost ∧ i.text = "!LOST " ++ dec (s.port p).dropped ∧ Tells s t 58 "LOST" ∧ OnlyRegs [] s t) ∧
    (∀ mosi, ∃ t, exec (.spiFrame mosi) s = .next t ∧ t.spi.miso.length = mosi.length ∧
      (mosi ≠ [] → t.spi.miso.head? = some (BitVec.ofNat 8 (min s.spiBytes.length 255))))

/-- In RUN: a start request for a valid timetable runs it from step 0 with LAST_FAIL 0 where the executor is free, which
TT_STATUS shows and EV60 START reports; while another timetable runs it takes the pending slot, and a timetable it
replaces there is reported; TT4 abandons the one that runs and empties the slot; while TT4 runs every request is ignored with
EV60 IGNORED, and under a failed BP2 reported with START_FAILED. A request from TT_CTRL is one for SEL, and STOP abandons
the running timetable or takes it out of the slot, TT4 excepted; the pending timetable starts once the executor is free;
TT0 starts at boot once no cause is held. (Parts of R205, R206, R207, R209, R210, R211, R235, R236.) -/
def Obligations.TimetableStarts : Prop :=
  ∀ (s : State) (n : Fin 8) (src : StartSrc), s.dev = .run →
    ((n.val, src) ∉ s.tt.asked → Does (.ttStart n src) s s) ∧
    ((n.val, src) ∈ s.tt.asked → s.failed 2 = false → s.tt.run = none → s.ttValid n = true →
      ∃ t, exec (.ttStart n src) s = .next t ∧ t.tt.run = some { tt := n, danger := src == .fault } ∧
        t.tt.asked = s.tt.asked.erase (n.val, src) ∧ t.flag F.TT_STATUS_EXEC = true ∧ t.get F.TT_STATUS_EXEC_TT = n ∧
        t.get F.TT_STATUS_STEP = 0 ∧ t.flag F.TT_STATUS_LAST_FAIL = false ∧ Tells s t 60 "START" ∧
        t.tt.pend = (if n = 4 then none else s.tt.pend) ∧
        OnlyRegs [Reg.addr .TT_STATUS, Reg.addr .SIG_STAT, Reg.addr .RELAY_STATUS] s t) ∧
    (∀ r, (n.val, src) ∈ s.tt.asked → s.failed 2 = false → s.tt.run = some r → r.tt ≠ 4 → n ≠ 4 → s.ttValid n = true →
      ∃ t, exec (.ttStart n src) s = .next t ∧ t.tt.run = some r ∧ t.tt.pend = some { tt := n, src := src, owed := none } ∧
        t.flag F.TT_STATUS_PEND = true ∧ t.get F.TT_STATUS_PEND_TT = n ∧ (s.tt.pend ≠ none → Tells s t 60 "PEND_REPLACED") ∧
        OnlyRegs [Reg.addr .TT_STATUS] s t) ∧
    (∀ r, (4, src) ∈ s.tt.asked → s.failed 2 = false → s.tt.run = some r → r.tt < 8 → r.tt ≠ 4 → s.ttValid 4 = true →
      ∃ t, exec (.ttStart 4 src) s = .next t ∧ t.tt.run = some { tt := 4, danger := src == .fault } ∧ t.tt.pend = none ∧
        t.bit F.TT_VALID_ABANDONED r.tt = true ∧ (s.tt.pend ≠ none → t.flag F.TT_STATUS_PEND = false) ∧
        Tells s t 60 "ABANDONED" ∧ Tells s t 60 "START") ∧
    ((n.val, src) ∈ s.tt.asked → s.failed 2 = false → s.ttRuns 4 = true →
      ∃ t, exec (.ttStart n src) s = .next t ∧ t.tt.run = s.tt.run ∧ t.tt.pend = s.tt.pend ∧ Tells s t 60 "IGNORED" ∧
        OnlyRegs [] s t) ∧
    ((n.val, src) ∈ s.tt.asked → s.failed 2 = true →
      ∃ t, exec (.ttStart n src) s = .next t ∧ t.tt.run = s.tt.run ∧ Tells s t 60 "START_FAILED" ∧ OnlyRegs [] s t) ∧
    (∀ x, s.tt.run = none → s.tt.pend = some x → x.tt < 8 → x.owed = none → s.failed 2 = false →
      ∃ t, exec .ttPendingStart s = .next t ∧ t.tt.pend = none ∧ t.flag F.TT_STATUS_PEND = false ∧
        t.tt.run = some { tt := x.tt, danger := x.src == .fault } ∧ t.get F.TT_STATUS_EXEC_TT = x.tt ∧ Tells s t 60 "START") ∧
    (s.tt.bootPend = true → s.flt.causes = [] → s.flag F.TT_CTRL_AUTOBOOT = true → s.ttValid 0 = true → s.failed 2 = false →
      s.tt.run = none → ∃ t, exec .autobootStart s = .next t ∧ t.tt.bootPend = false ∧ t.tt.run = some { tt := 0, danger := false } ∧
        Tells s t 60 "START") ∧
    (s.failed 2 = false → s.tt.run = none → s.ttValid (s.get F.TT_CTRL_SEL) = true →
      ∃ t, exec .ttCtrlStart s = .next t ∧ t.tt.run = some { tt := s.get F.TT_CTRL_SEL, danger := false } ∧ Tells s t 60 "START") ∧
    (∀ r, s.failed 2 = false → s.tt.run = some r → r.tt = s.get F.TT_CTRL_SEL → r.tt ≠ 4 →
      ∃ t, exec .ttCtrlStop s = .next t ∧ t.tt.run = none ∧ t.flag F.TT_STATUS_EXEC = false ∧ t.bit F.TT_VALID_ABANDONED r.tt = true ∧
        Tells s t 60 "ABANDONED" ∧ t.tt.pend = s.tt.pend) ∧
    (∀ x, s.failed 2 = false → s.tt.pend = some x → x.owed = none → x.tt = s.get F.TT_CTRL_SEL → x.tt ≠ 4 →
      s.ttRuns x.tt = false → ∃ t, exec .ttCtrlStop s = .next t ∧ t.tt.pend = none ∧ t.flag F.TT_STATUS_PEND = false ∧
        t.tt.run = s.tt.run ∧ OnlyRegs [Reg.addr .TT_STATUS] s t) ∧
    (s.get F.TT_CTRL_SEL = 4 → Does .ttCtrlStop s s)

/-- In RUN, with a timetable running and ready for its step: ENABLE and DISABLE of the signal pull it and release it and go
on; ENABLE of a rail that is not shed, or is shed, goes on, and turns it on only where it is not shed; of the relay it
waits for the pulse; DISABLE starts the fall of its rail with its times; WAIT TIME waits M × 2^E ticks; CHECK watches its object
over its window; an unconditional JUMP without a limit goes to its target; MARGIN of no rail is skipped; MARK stores its
code in TT_MARK; HALT ends the timetable, releases its pulls and raises EV60 HALT. Another opcode does nothing. (Parts of R199,
R200, R201, R202, R203, R209, R223, R229.) -/
def Obligations.TimetableSteps : Prop :=
  ∀ (s : State) (r : TtRun) (w : Word), s.dev = .run → s.tt.run = some r → r.wait = .ready → s.failed 2 = false →
    s.ttStepWord r.tt r.step = w →
    (∀ b : Bool, stepOp w = (if b then 0 else 1) → bitsOf w 24 4 = 7 →
      ∃ t, exec (if b then .ttStepEnable else .ttStepDisable) s = .next t ∧ t.bit F.SIG_STAT_BY 1 = b ∧
        t.tt.run = some { r with step := r.step + 1, pull := b } ∧ OnlyRegs [Reg.addr .TT_STATUS, Reg.addr .SIG_STAT] s t) ∧
    (∀ q, stepOp w = 0 → bitsOf w 24 4 = q → q < 6 → s.part.hasRail q = true → s.works (railBp q) = true →
      Does .ttStepEnable s (if s.bit F.TT_STATUS_SHED q then s.ttNext else (s.turnOn q).ttNext)) ∧
    (∀ q, stepOp w = 0 ∨ stepOp w = 1 → bitsOf w 24 4 = q → q < 6 ∨ 7 < q → s.part.hasRail q = false →
      ∃ t, exec (if stepOp w = 0 then .ttStepEnable else .ttStepDisable) s = .next t ∧
        t.tt.run = some { r with step := r.step + 1 } ∧ OnlyRegs [Reg.addr .TT_STATUS] s t) ∧
    (stepOp w = 0 → bitsOf w 24 4 = 6 → s.underTest 4 = false →
      Does .ttStepEnable s ((s.relayRequest { set := true, why := .step }).ttWait .relay)) ∧
    (∀ q, stepOp w = 1 → bitsOf w 24 4 = q → q < 6 → s.part.hasRail q = true → s.works (railBp q) = true →
      Does .ttStepDisable s
        ((s.ttWait (.fall q)).disableRail q (64 * bitsOf w 8 8) (64 * bitsOf w 0 8) (some (r.tt, r.step)))) ∧
    (stepOp w = 2 → bitsOf w 24 4 = 0 →
      ∃ t, exec .ttStepWait s = .next t ∧ OnlyRegs [Reg.addr .TT_STATUS] s t ∧ t.tt.run = some { r with
        wait := .wait 0 (bitsOf w 18 6) (bitsOf w 16 2) (some (s.ticks + bitsOf w 0 12 * 2 ^ bitsOf w 12 4)) }) ∧
    (∀ k, stepOp w = 3 → bitsOf w 27 1 = 0 → bitsOf w 22 5 = k → s.part.hasRail k = true →
      ∃ t, exec .ttStepCheck s = .next t ∧ OnlyRegs [Reg.addr .TT_STATUS] s t ∧ t.tt.run = some { r with
        wait := .check 0 k (bitsOf w 20 2) (bitsOf w 17 3) (bitsOf w 14 3) 0 (s.ticks + bitsOf w 0 10 * 2 ^ bitsOf w 10 4) s.ticks
          (s.checkGood 0 k) }) ∧
    (stepOp w = 4 → bitsOf w 26 2 = 0 → bitsOf w 18 8 = 0 →
      ∃ t u, exec .ttStepJump s = .next t ∧ t.tt.run = some u ∧ u.tt = r.tt ∧ u.wait = .ready ∧ u.step = bitsOf w 0 9 ∧
        t.get F.TT_STATUS_STEP = bitsOf w 0 9 ∧ OnlyRegs [Reg.addr .TT_STATUS] s t) ∧
    (stepOp w = 4 → bitsOf w 26 2 = 1 → s.flag F.TT_STATUS_LAST_FAIL = true →
      ∃ t, exec .ttStepJump s = .next t ∧ t.tt.run = some { r with step := r.step + 1 } ∧ OnlyRegs [Reg.addr .TT_STATUS] s t) ∧
    (∀ q, stepOp w = 5 → bitsOf w 24 4 = q → 6 ≤ q → Does .ttStepMargin s s.ttNext) ∧
    (stepOp w = 6 → r.tt < 8 →
      ∃ t, exec .ttStepMark s = .next t ∧ t.get F.TT_MARK_CODE = bitsOf w 0 16 ∧ t.get F.TT_MARK_TT = r.tt ∧
        t.flag F.TT_MARK_SEEN = true ∧ Tab.get (fun _ => none) t.tt.marks r.tt = some (bitsOf w 0 16) ∧
        t.tt.run = some { r with step := r.step + 1 }) ∧
    (stepOp w = 7 →
      ∃ t, exec .ttStepHalt s = .next t ∧ t.tt.run = none ∧ t.flag F.TT_STATUS_EXEC = false ∧ Tells s t 60 "HALT" ∧
        t.bit F.SIG_STAT_BY 0 = false ∧ t.bit F.SIG_STAT_BY 1 = false ∧ t.tt.pend = s.tt.pend ∧
        OnlyRegs [Reg.addr .TT_STATUS, Reg.addr .SIG_STAT] s t) ∧
    (stepOp w ≠ 7 → Does .ttStepHalt s s) ∧ (stepOp w ≠ 4 → Does .ttStepJump s s)

/-- In RUN, with a timetable running: a condition that is met ends its wait with LAST_FAIL 0, one that is not met does not;
a WAIT TIME ends at its tick; a timeout of a condition and a window that ends without a pass set LAST_FAIL and raise EV60,
and with ACT 0 the next step follows, with ACT 2 the timetable ends; the pull of STUCK_HIGH ends with its pulse. No register but
TT_STATUS, or SIG_STAT, changes. (Parts of R201, R218, R219, R220, R229.) -/
def Obligations.TimetableWaits : Prop :=
  ∀ (s : State) (r : TtRun), s.dev = .run → s.tt.run = some r →
    (∀ cond ev act till, r.wait = .wait cond ev act till → s.condHolds cond ev = true →
      ∃ t, exec .waitCondMet s = .next t ∧ t.flag F.TT_STATUS_LAST_FAIL = false ∧
        t.tt.run = some { r with step := r.step + 1, wait := .ready } ∧ t.get F.TT_STATUS_STEP = (r.step + 1) % 512 ∧
        OnlyRegs [Reg.addr .TT_STATUS] s t) ∧
    (∀ cond ev act till, r.wait = .wait cond ev act till → s.condHolds cond ev = false → Does .waitCondMet s s) ∧
    (s.condHolds 3 0 = s.flag F.BR_STATUS_MAINS_Q ∧ s.condHolds 4 0 = !s.flag F.BR_STATUS_MAINS_OK ∧
      s.condHolds 5 0 = s.flag F.RES_STATUS_FULL ∧ s.condHolds 1 0 = !s.condHolds 2 0 ∧
      s.condHolds 6 0 = (s.get F.GAUGE_RA_CLAIMS == 0)) ∧
    (∀ ev act d, r.wait = .wait 0 ev act (some d) →
      ∃ t, exec .waitTimeout s = .next t ∧ t.ticks = max s.ticks d ∧
        t.tt.run = some { r with step := r.step + 1, wait := .ready } ∧ OnlyRegs [Reg.addr .TT_STATUS] s t) ∧
    (∀ cond ev d, r.wait = .wait cond ev 0 (some d) → cond ≠ 0 →
      ∃ t, exec .waitTimeout s = .next t ∧ t.flag F.TT_STATUS_LAST_FAIL = true ∧ Tells s t 60 "WAIT_TIMEOUT" ∧
        t.tt.run = some { r with step := r.step + 1, wait := .ready } ∧ OnlyRegs [Reg.addr .TT_STATUS] s t) ∧
    (∀ kind idx dw ch seen till since good, r.wait = .check kind idx 0 dw ch seen till since good →
      ∃ t, exec .checkWindowEnd s = .next t ∧ t.ticks = max s.ticks till ∧ t.flag F.TT_STATUS_LAST_FAIL = true ∧
        Tells s t 60 "CHECK_FAIL" ∧ t.tt.run = some { r with step := r.step + 1, wait := .ready } ∧
        OnlyRegs [Reg.addr .TT_STATUS] s t) ∧
    (∀ kind idx dw ch seen till since good, r.wait = .check kind idx 2 dw ch seen till since good →
      ∃ t, exec .checkWindowEnd s = .next t ∧ t.tt.run = none ∧ t.flag F.TT_STATUS_EXEC = false ∧ Tells s t 60 "CHECK_FAIL" ∧
        OnlyRegs [Reg.addr .TT_STATUS, Reg.addr .SIG_STAT] s t) ∧
    (∀ d, s.tt.sigPulseAt = some d →
      ∃ t, exec .sigPulseEnd s = .next t ∧ t.bit F.SIG_STAT_BY 2 = false ∧ t.tt.sigPulseAt = none ∧ t.tt.run = some r ∧
        t.ticks = max s.ticks d ∧ OnlyRegs [Reg.addr .SIG_STAT] s t)

/-- CAPS?, STATE?, TIME?, ROD?, FREIGHT?, PORT? and SUB?, granted without an object, are answered OK with exactly the
fields their rules name, in their order, with the values shown, and change nothing but the queue of lines and the
output. (Parts of R3, R13, R46, R50, R75, R82, R90.) -/
def Obligations.SystemQueries : Prop :=
  ∀ (s : State) (p : PortId) (l : Line), l.toks = [] →
    (Grants s p l .caps true → Answers (.capsQuery p l) s p l
      ("PART=" ++ hexText 4 s.part.id ++ " REV=" ++ hexText 2 s.rev ++ " ")
      ["HEADS", "PHASES", "RAILS", "HARVEST", "BRIDGE", "DOSE", "LIGHTGATE", "MON", "FELTEN"]
      [("RAILS", listOut (s.part.railList.map railName))]) ∧
    (Grants s p l .state true → Answers (.stateQuery p l) s p l "" ["STATE", "COMPAT", "VCORE", "LEVEL", "GOOD", "LASTRESET"]
      [("STATE", "RUN"), ("COMPAT", bitOut s.compat), ("LEVEL", if s.core.stby then "STBY" else "RUN")]) ∧
    (Grants s p l .time true → Answers (.timeQuery p l) s p l "" ["TICKS", "SOURCE"]
      [("TICKS", dec (s.ticks % 2 ^ 64)), ("SOURCE", if s.aon.xtal then "XTAL" else "RC")]) ∧
    (Grants s p l .rod true → Answers (.rodQuery p l) s p l "" ["STATE", "FREQ", "ERR", "COUNT", "GEN", "OLDEST"]
      [("STATE", rodName s.rod), ("COUNT", dec (s.get F.SYS_ROD_COUNT)), ("GEN", dec (s.get F.SYS_TIMEBASE_ROD_GEN))]) ∧
    (Grants s p l .freight true → Answers (.freightQuery p l) s p l "" ["LATE", "PENDING"]
      [("LATE", "0x" ++ hexText 3 (s.get F.SYS_FREIGHT_LATE))]) ∧
    (Grants s p l .port true → Answers (.portQuery p l) s p l (portName p ++ " ") ["MODE", "BAUD", "FLOW"]
      [("MODE", if (s.port p).set.strict && !s.compat then "STRICT" else "TYPED"),
       ("FLOW", if (s.port p).set.flow then "RTSCTS" else "NONE")]) ∧
    (Grants s p l .sub true → Answers (.subQuery p l) s p l "" ["EV", "CLASS", "PULL"]
      [("CLASS", if (s.port p).subs.clsEn then clsName (s.port p).subs.cls ++ "+" else "NONE"),
       ("PULL", onOut (s.port p).subs.pull)]) ∧
    (granted s).regs = s.regs ∧ (granted s).flt = s.flt ∧ (granted s).tt = s.tt

/-- Granted: PEEK of one register answers its address and value and then advances the address it reads from, where it
has one; POKE makes one register write and answers the value read back; SUB and UNSUB change the subscription of their
port as their selections say and answer it, a source that the part lacks is ABSENT; PORT answers the settings, and those it
names take effect with the end of the reply and not before. PEEK? without an address is NO 15; a POKE to an address that
is not a multiple of 4 is NO 17, which is the model's choice (assumption 36). (Parts of R4, R46, R50, R51, R61, R62, R63, R475.) -/
def Obligations.PeekPokeSubPort : Prop :=
  ∀ (s : State) (p : PortId) (l : Line),
    (∀ a, Grants s p l .peek true → bareNumbers s.compat ["ADDRESS"] ["ADDRESS", "COUNT"] l.toks = .ok [a] → isAddr a = true →
      exec (.peekQuery p l) s =
        .next (replied s ((granted s).readAdvance a) p l (.ok (peekText a ((granted s).readReg a))))) ∧
    (∀ a v, Grants s p l .poke false → bareNumbers s.compat ["ADDRESS", "VALUE"] ["ADDRESS", "VALUE"] l.toks = .ok [a, v] →
      isAddr a = true →
      exec (.pokeCmd p l) s = .next (replied s ((granted s).writeReg a (BitVec.ofNat 32 v)) p l
        (.ok (peekText a (((granted s).writeReg a (BitVec.ofNat 32 v)).readReg a))))) ∧
    (∀ b, Grants s p l .sub false → subLine s.part true (s.port p).subs l.toks = .ok b →
      AnswersWith (.subCmd p l) s ((granted s).modPort p fun x => { x with subs := b }) p l "" ["EV", "CLASS", "PULL"]
        [("PULL", onOut b.pull)]) ∧
    (∀ b, Grants s p l .unsub false → subLine s.part false (s.port p).subs l.toks = .ok b →
      AnswersWith (.unsubCmd p l) s ((granted s).modPort p fun x => { x with subs := b }) p l "" ["EV", "CLASS", "PULL"]
        [("PULL", onOut b.pull)]) ∧
    (∀ (k : Part) (b : Subs), subLine k true b ["PULL"] = .ok { b with pull := true } ∧
      subLine k false b ["PULL"] = .ok { b with pull := false } ∧ subLine k false b ["ALL"] = .ok {} ∧
      subLine k true b ["EV", "DANGER+"] = .ok { b with clsEn := true, cls := if b.clsEn then min b.cls 2 else 2 } ∧
      subLine k true b ["EV", "EV60"] = .ok { b with mask := Nat.lor b.mask (2 ^ 60) } ∧
      subLine k true b ["EV", "10-12"] = .ok { b with mask := Nat.lor b.mask 7168 } ∧
      (k.heads ≤ 2 → subLine k true b ["EV", "LINE2"] = .error .absent)) ∧
    (Grants s .host l .port false → s.compat = false → l.toks = ["BAUD=230400", "FLOW=RTSCTS"] →
      exec (.portCmd .host l) s = .next (replied s (granted s) .host l
        (.port (portFields false .host { s.portNext .host with baud := 230400, flow := true }) .host
          { baud := some 230400, flow := some true }))) ∧
    (∀ c : PortChange, Grants s p l .port false → s.compat = false → s.canSend = true → l.toks = [portName p, "MODE=STRICT"] →
      c = { strict := some true } →
      exec (.portCmd p l) s = .next (replied s (granted s) p l (.port (portFields false p ((s.portNext p).after c)) p c)) ∧
        ((replied s (granted s) p l (.port (portFields false p ((s.portNext p).after c)) p c)).port p).set = (s.port p).set) ∧
    (Grants s p l .peek true → l.toks = [] →
      exec (.peekQuery p l) s = .next (replied s (granted s) p l (.no 15 "OBJECT" ""))) ∧
    (∀ v, Grants s p l .poke false → bareNumbers s.compat ["ADDRESS", "VALUE"] ["ADDRESS", "VALUE"] l.toks = .ok [2, v] →
      exec (.pokeCmd p l) s = .next (replied s (granted s) p l (.no 17 "RANGE" "ADDRESS")))

/-- MON?, HARVEST?, VKA?, STACK?, STACK? CELLn, BRIDGE?, RELAY?, BACKUP?, GAUGE?, RIGHTAWAY? and BUDGET?, granted on a
unit that is there and whose partition has not failed, are answered OK with exactly the fields their rules name, in
their order, with the values shown, and change nothing but the queue of lines and the output. (Parts of R112, R136,
R137, R165, R166, R167, R168, R191, R192, R193.) -/
def Obligations.PowerQueries : Prop :=
  ∀ (s : State) (p : PortId) (l : Line) (n v : Nat),
    (Grants s p l .mon true → objMon s.part l = .ok n → restToks l = [] → s.failed 5 = false →
      Answers (.monQuery p l) s p l ("MON" ++ dec n ++ " ")
      (["EN", "INPUT", "MODE"] ++ (if s.flag (F.MON_CTRL_MODE n) then ["ADC", "RES"] else []) ++
      ["LO", "HI", "HYS", "CONFIRM", "EVENTS", "PERIOD", "STBYPERIOD", "BLANK", "BLANKW", "STATE", "VALUE"] ++
      (if s.get (F.MON_CTRL_INPUT n) = nodeCells then ["CELL"] else []) ++ ["MISS"])
      [("EN", onOut (s.flag (F.MON_CTRL_EN n))), ("INPUT", inputName (s.get (F.MON_CTRL_INPUT n))),
       ("CONFIRM", dec (s.get (F.MON_CTRL_CONFIRM n) + 1)), ("MISS", dec (s.get (F.MON_STATUS_MISS n)))]) ∧
    (Grants s p l .harvest true → objHarv s.part l = .ok n → restToks l = [] →
      Answers (.harvestQuery p l) s p l (harvName n ++ " ")
      ["MODE", "FRACTION", "PERIOD", "DWELL", "VMIN", "VMAX", "HOLD", "SET", "OP", "VOC", "STATE", "PULLED"]
      [("PULLED", bitOut (s.flag (F.HARV_STATUS_PULLED n)))]) ∧
    (Grants s p l .vka true → l.toks = [] →
      Answers (.vkaQuery p l v) s p l ""
      ["VKA", "SOURCE", "TRICKLE", "RELAY", "TRICKLED", "RESON", "RESOFF", "TRICKLEOFF", "TRICKLEON", "CORESTART"]
      [("VKA", vOut s.compat (v % 4096 * 1500 : Nat) 1000), ("SOURCE", kaName (s.get F.HARV_START_SOURCE))]) ∧
    (Grants s p l .stack true → l.toks = [] → s.failed 4 = false →
      Answers (.stackQuery p l) s p l ""
      ["CELLS", "CELLMAX", "FULLV", "FLOOR", "BALSTART", "BALDELTA", "BAL", "V", "I", "FULL", "ATFLOOR"]
      [("CELLS", dec (s.get F.RES_CFG_CELLS)), ("FULL", bitOut (s.flag F.RES_STATUS_FULL))]) ∧
    (Grants s p l .stack true → s.objCell l = .ok n → restToks l = [] → s.failed 4 = false →
      Answers (.stackCellQuery p l) s p l ("CELL" ++ dec (n + 1) ++ " ")
      ["V", "BAL"]
      [("BAL", onOut (s.bit F.RES_BAL_BAL_ON n))]) ∧
    (Grants s p l .bridge true → l.toks = [] → s.failed 4 = false →
      Answers (.bridgeQuery p l) s p l ""
      ["EN", "CHARGE", "SUPPORT", "ABSORB", "CHGPOWER", "CHGCURRENT", "SUPPOWER", "ABSPOWER", "SUPV", "ABSV", "ILIM", "FREQ", "MODE", "MAINS", "BUS", "PBUS", "LIMITED"]
      [("EN", onOut (s.flag F.BR_CTRL_EN)), ("MODE", modeName s.mode)]) ∧
    (Grants s p l .relay true → l.toks = [] → s.failed 4 = false →
      Answers (.relayQuery p l) s p l ""
      ["STATE", "PENDING", "CLOSURE", "WIDTH", "TOPUP", "TOPUPEN", "MAINSWAIT", "WAITMAINS", "COUNT"]
      [("STATE", relayName (s.get F.RELAY_STATUS_STATE)), ("COUNT", dec (s.get F.RELAY_STATUS_COUNT))]) ∧
    (Grants s p l .backup true → l.toks = [] → s.failed 4 = false →
      Answers (.backupQuery p l) s p l ""
      ["PRESENT", "ACTIVE", "V", "LOW", "EMPTY", "USED"]
      [("ACTIVE", bitOut (s.get F.HARV_START_SOURCE == 2)), ("EMPTY", bitOut (s.flag F.BACKUP_STATUS_EMPTY))]) ∧
    (Grants s p l .gauge true → l.toks = [] → s.failed 6 = false →
      Answers (.gaugeQuery p l) s p l ""
      ["AVAIL", "RAW", "ESRLOSS", "CAP", "CAPSRC", "ESR", "ETA", "PAGES", "FREE", "PSTACK", "PLOAD", "RUNTIME", "WAIT"]
      [("AVAIL", jOut s.compat s.gauge.eAvail), ("RAW", jOut s.compat s.gauge.eRaw)]) ∧
    (Grants s p l .rightaway true → l.toks = [] → s.failed 6 = false →
      Answers (.rightawayQuery p l) s p l ""
      (["STATE", "CLAIMS", "NEED", "AVAIL", "HOLD"] ++
      if s.flag F.GAUGE_RA_RIGHTAWAY ∨ (granted s).holdMask ≠ 0 then [] else ["DEFICIT", "WAIT"])
      [("STATE", onOut (s.flag F.GAUGE_RA_RIGHTAWAY)), ("CLAIMS", dec s.claims)]) ∧
    (Grants s p l .budget true → l.toks = [] → s.failed 6 = false →
      Answers (.budgetQuery p l) s p l ""
      ["SET", "FLOOR", "FORCE", "PAGET", "ETA", "HYS", "HEADS", "LEARNN", "LOADSNS", "CAPNOM", "ESR", "INFORCE", "LEARNED", "SOURCE", "PENDING"]
      [("SET", jOut s.compat (s.get F.GAUGE_BUDGET_BUDGET)), ("PENDING", bitOut (s.flag F.GAUGE_RA_PEND_LOWER))])

/-- PHASE?, SYNC?, BALANCE?, RAIL?, MARGIN?, LIMIT?, DEPENDS? and TT?, granted without a form on a unit that is there
and whose partition has not failed, are answered OK with exactly the fields their rules name, in their order, with the
values shown, and change nothing but the queue of lines, the output and, for PHASE? of an unassigned phase, the
counter of free values (assumption 3). (Parts of R233, R234, R270, R271, R272, R295, R297, R320.) -/
def Obligations.RailQueries : Prop :=
  ∀ (s : State) (p : PortId) (l : Line) (n : Nat),
    (Grants s p l .phase true → objPhase s.part l = .ok n → restToks l = [] → s.failed (s.phBp n) = false →
      AnswersWith (.phaseQuery p l) s ((granted s).offsetOut n).2 p l (phName n ++ " ")
      ["RAIL", "STATE", "RANK", "I", "OFFSET", "TRIM", "PINNED", "ONTIME", "OFSBAD", "CAL"]
      [("RAIL", railOpt (s.get (F.PH_CTRL_RAIL n))), ("RANK", dec (s.get (F.PH_STATUS_RANK n)))]) ∧
    (Grants s p l .sync true → l.toks = [] → s.failed 4 = false →
      Answers (.syncQuery p l) s p l ""
      ["MODE", "FREQ", "OUT", "SHIFT", "MARK", "SOURCE", "QUAL", "FIN", "ANCHORED", "VIN"]
      [("MODE", if s.flag F.SYS_SYNC_MODE then "EXTERNAL" else "INTERNAL"), ("SHIFT", dec (s.get F.SYS_SYNC_OUT_SHIFT))]) ∧
    (Grants s p l .balance true → objRail s.part l = .ok n → restToks l = [] → s.failed (railBp n) = false →
      Answers (.balanceQuery p l) s p l (railName n ++ " ")
      ["MODE", "LIMIT", "DEADBAND", "MIN", "DIV", "OFFSET", "RIPPLE", "MINOFF", "ISGAIN", "AUTOSHED", "SHED", "ADD", "MINPH"]
      [("DIV", dec (2 ^ s.get (F.RAIL_SW_DIV n))), ("MINPH", dec (s.get (F.RAIL_LIGHT_MIN_PH n) + 1))]) ∧
    (Grants s p l .rail true → objRail s.part l = .ok n → restToks l = [] → s.failed (railBp n) = false →
      Answers (.railQuery p l) s p l (railName n ++ " ")
      ["TARGET", "LOADLINE", "STATE"]
      [("TARGET", vOut s.compat (s.get (F.RAIL_TARGET_TARGET n) : Nat)), ("STATE", rsName (s.rs n))]) ∧
    (Grants s p l .margin true → objRail s.part l = .ok n → restToks l = [] → s.failed (railBp n) = false →
      Answers (.marginQuery p l) s p l (railName n ++ " ")
      ["MARGIN", "VSETM", "STATE"]
      [("MARGIN", pctOut s.compat (s.sget (F.RAIL_TARGET_MARGIN n)) 10), ("VSETM", vOut s.compat (s.vSetm n))]) ∧
    (Grants s p l .limit true → objRail s.part l = .ok n → restToks l = [] → s.failed (railBp n) = false →
      Answers (.limitQuery p l) s p l (railName n ++ " ")
      ["CURRENT", "OV", "OTWARN", "OTSHUT", "HICCUPN", "HICCUPT", "HICCUPMAX", "OVERLOAD"]
      [("CURRENT", aOut s.compat (s.get (F.RAIL_LIMIT_LIMIT n) * 100 : Nat)), ("HICCUPN", dec (s.get (F.RAIL_LIMIT_HICCUP_N n)))]) ∧
    (Grants s p l .depends true → objRail s.part l = .ok n → restToks l = [] → s.failed (railBp n) = false →
      Answers (.dependsQuery p l) s p l (railName n ++ " ")
      ["ON", "PGLO", "PGHI", "OFFV", "TRACK", "GOOD", "SHED"]
      [("TRACK", onOut (s.flag (F.TT_PG_TRACK n))), ("SHED", bitOut (s.bit F.TT_STATUS_SHED n))]) ∧
    (Grants s p l .tt true → objTt l = .ok n → restToks l = [] → s.failed 2 = false →
      Answers (.ttQuery p l) s p l (ttName n ++ " ")
      ["VALID", "STEPS", "CRC", "START", "LEN", "STATE", "STEP", "LASTMARK", "EXEC", "PENDING", "FREE"]
      [("VALID", bitOut (s.ttValid n)), ("LEN", dec (s.get (F.TT_DIR_LEN n))), ("EXEC", ttOpt (s.tt.run.map TtRun.tt))])

/-- LINK?, ENC?, REG?, STROBE?, HEAD?, DOSE? and LIGHTGATE?, granted without a form on a head that is there and whose
partition has not failed, are answered OK with exactly the fields their rules name, in their order, with the values
shown, and change nothing but the queue of lines and the output. HEAD? reads NONE before the first attach. (Parts of
R351, R352, R353, R389, R390, R391.) -/
def Obligations.HeadQueries : Prop :=
  ∀ (s : State) (p : PortId) (l : Line) (n : Nat),
    (Grants s p l .link true → objHead s.part l = .ok n → restToks l = [] → s.failed (headBp n) = false →
      Answers (.linkQuery p l) s p l (headName n ++ " ")
      ["STATE", "LANES", "UPLOCK", "RETRIES", "CRCUP", "FRAMEBAD", "READY", "NOTREADY"]
      [("UPLOCK", bitOut (s.flag (F.LINE_LSTAT_LOCKUP n))), ("RETRIES", dec (s.get (F.LINE_LSTAT_RETRIES n)))]) ∧
    (Grants s p l .enc true → objHead s.part l = .ok n → restToks l = [] → s.failed (headBp n) = false →
      Answers (.encQuery p l) s p l (headName n ++ " ")
      ["EN", "CPL", "DIR", "BACKLASH", "POS", "HWM", "ZPOS", "LINE", "LPRED", "RUN", "WAITHWM", "DROPPED", "INHIBITED", "REPORTMISS", "BACKLASHCNT", "REVERSE", "ILLEGAL"]
      [("CPL", dec (s.get (F.LINE_CTRL_CPL n))), ("LINE", dec (s.get (F.LINE_LINE_LINE n)))]) ∧
    (Grants s p l .reg true → objHead s.part l = .ok n → restToks l = [] → s.failed (headBp n) = false →
      Answers (.regQuery p l) s p l (headName n ++ " ")
      ["OFFSET"]
      [("OFFSET", intText (s.sget (F.LINE_REG_REG n)))]) ∧
    (Grants s p l .strobe true → objHead s.part l = .ok n → restToks l = [] → s.failed (headBp n) = false →
      Answers (.strobeQuery p l) s p l (headName n ++ " ")
      ["GROUPS", "OFF1", "OFF2", "OFF3", "WMAX"]
      [("GROUPS", dec (s.groups n)), ("OFF1", dec (s.get (F.LINE_GROUP_GOFF1 n)))]) ∧
    (Grants s p l .head true → objHead s.part l = .ok n → restToks l = [] → s.failed (headBp n) = false →
      Answers (.headQuery p l) s p l (headName n ++ " ")
      ["MODEL", "SERIAL", "FORMAT", "RANK", "W0", "TREF", "VREF", "KT", "KV", "IEM", "TRIMLIM"]
      [("W0", if (s.head n).attached then siOut s.compat 0 "ns" 1 (s.get (F.HEAD_PAR0_W0_NOM n) : Nat) else "NONE")]) ∧
    (Grants s p l .dose true → objHead s.part l = .ok n → restToks l = [] → s.failed (headBp n) = false →
      Answers (.doseQuery p l) s p l (headName n ++ " ")
      ["GAIN", "WMIN", "PRIME", "TMIN", "TMAX", "TWARN", "TLIMIT", "TSHUT", "THYS", "FBLIMIT", "VDIFF", "RANKS", "INHIBIT"]
      [("FBLIMIT", dec (s.get (F.HEAD_FB_FB_LIMIT n))), ("INHIBIT", onOut (s.flag (F.HEAD_CTRL_INHIBIT n)))]) ∧
    (Grants s p l .lightgate true → objHead s.part l = .ok n → restToks l = [] → s.failed (headBp n) = false →
      Answers (.lightgateQuery p l) s p l (headName n ++ " ")
      ["HIDEMAX", "WEAK", "DEAD", "DEADMAX", "WIDTH", "PERIOD", "STATE", "PARKED", "EMITTER", "FAILS"]
      [("DEADMAX", dec (s.get (F.HEAD_LG_DEAD_MAX n))), ("FAILS", dec (s.head n).dead.length)])

/-- ROUTE?, FAULT?, FAULT? EVn, FLT?, SIGNAL?, BIST?, BIST? BPn, LOG? and NV?, granted, are answered OK with exactly
the fields their rules name, in their order, with the values shown, and change nothing but the queue of lines and the
output. (Parts of R418, R419, R421, R422, R439, R463, R464.) -/
def Obligations.JunctionQueries : Prop :=
  ∀ (s : State) (p : PortId) (l : Line) (n : Nat),
    (Grants s p l .route true → objEv s.part l = .ok n → restToks l = [] →
      Answers (.routeQuery p l) s p l (evName n ++ " ")
      ["EVT", "NOTIFY", "LOG", "FLT", "PROMOTE", "PCAUSE", "START", "STARTCAUSE", "AFFECT"]
      [("NOTIFY", onOut (s.flag (F.ROUTE_NOTIFY n))), ("LOG", onOut (s.flag (F.ROUTE_LOG n)))]) ∧
    (Grants s p l .fault true → l.toks = [] →
      Answers (.faultQuery p l) s p l ""
      ["FIRST", "FIRSTTICK", "PRESENT", "LATCHED", "FLT", "SIGNAL"]
      [("FIRSTTICK", if s.flag F.FAULT_FIRST_VALID then dec (s.get F.FAULT_FIRST_T_TICK) else "NONE")]) ∧
    (Grants s p l .fault true → objEv s.part l = .ok n → restToks l = [] →
      Answers (.faultQuery p l) s p l (evName n ++ " ")
      ["NAME", "PRESENT", "LATCHED", "COUNT", "FIRSTCAUSE", "LASTCAUSE", "LASTCLASS", "TICK"]
      [("NAME", srcName n), ("COUNT", dec (s.srcRec n).count), ("LASTCAUSE", causeName n (s.srcRec n).last)]) ∧
    (Grants s p l .flt true → l.toks = [] →
      Answers (.fltQuery p l) s p l ""
      ["MODE", "MIN", "ASSERT", "LEVEL"]
      [("ASSERT", onOut (s.flag F.FLT_CTRL_ASSERT))]) ∧
    (Grants s p l .signal true → l.toks = [] →
      Answers (.signalQuery p l) s p l ""
      ["LEVEL", "PULL", "BY", "FALLS", "STUCK", "STUCKTIME"]
      [("FALLS", dec (s.get F.SIG_STAT_FALLS)), ("STUCK", bitOut (s.flag F.SIG_STAT_STUCK))]) ∧
    (Grants s p l .bist true → l.toks = [] →
      Answers (.bistQuery p l) s p l ""
      ["PWRUP", "STATE", "FAILED", "OSC", "COND", "PWAIT"]
      [("PWRUP", onOut (s.flag F.BIST_CTRL_PWRUP)), ("STATE", match s.bist.run with | some r => bpName r.bp | none => "IDLE")]) ∧
    (Grants s p l .bist true → objBp l = .ok n → restToks l = [] →
      Answers (.bistQuery p l) s p l (bpName n ++ " ")
      ["RESULT", "SOURCE", "PATTERNS", "TOTAL", "SIG", "EXPECT", "REASON", "FAILED", "LIVE"]
      [("RESULT", resultName (s.get (F.BIST_RES_RESULT n))), ("TOTAL", dec (bistP n)), ("FAILED", bitOut (s.failed n))]) ∧
    (Grants s p l .log true → l.toks = [] → s.failed 9 = false →
      Answers (.logQuery p l) s p l ""
      ["NEWEST", "OLDEST", "RECORDS", "TORN", "ERASED", "LAPS"]
      [("RECORDS", dec (s.get F.NV_LOG_RECORDS)), ("TORN", dec (s.get F.NV_LOG2_TORN))]) ∧
    (Grants s p l .nv true → l.toks = [] → s.failed 9 = false →
      Answers (.nvQuery p l) s p l ""
      ["BUSY", "BANK", "GEN", "CFGSRC", "VALID", "CFGSKIP", "TTFREE", "TORNTT", "WEART", "SCRUB", "SCRUBFIXED", "SCRUBLOST", "TOKENS"]
      [("BANK", dec (s.get F.NV_STAT_BANK)), ("GEN", dec (s.get F.NV_GEN_GEN))])

/-- What HARVEST, STACK, BRIDGE, RELAY, BUDGET, SYNC, BALANCE, LIMIT, RAIL, ENC, STROBE, DOSE, LIGHTGATE and FLT
store: each argument given in its field, each field whose argument is not given unchanged, and no other register
changed. (Parts of R136, R165, R166.) -/
def Obligations.SettingsStored : Prop :=
  ∀ (s : State) (a : Args) (n : Nat) (v : Option Nat),
    (s.harvStored n a).get (F.HARV_CTRL_MODE n) = given a "MODE" (F.HARV_CTRL_MODE n) s ∧
    (s.harvStored n a).get (F.HARV_CTRL_FRAC n) = given a "FRACTION" (F.HARV_CTRL_FRAC n) s ∧
    (s.harvStored n a).get (F.HARV_CTRL_PERIOD n) = given a "PERIOD" (F.HARV_CTRL_PERIOD n) s ∧
    (s.harvStored n a).get (F.HARV_CTRL_DWELL n) = given a "DWELL" (F.HARV_CTRL_DWELL n) s ∧
    (s.harvStored n a).get (F.HARV_CTRL_HOLDV n) = given a "HOLD" (F.HARV_CTRL_HOLDV n) s ∧
    (s.harvStored n a).get (F.HARV_LIM_VMIN n) = given a "VMIN" (F.HARV_LIM_VMIN n) s ∧
    (s.harvStored n a).get (F.HARV_LIM_VMAX n) = given a "VMAX" (F.HARV_LIM_VMAX n) s ∧
    OnlyRegs [Reg.addr (.HARV_CTRL n), Reg.addr (.HARV_LIM n)] s (s.harvStored n a) ∧
    (s.stackStored a).get F.RES_CFG_CELLS = given a "CELLS" F.RES_CFG_CELLS s ∧
    (s.stackStored a).get F.RES_CFG_CELL_MAX = given a "CELLMAX" F.RES_CFG_CELL_MAX s ∧
    (s.stackStored a).get F.RES_CFG_FLOOR_V = given a "FLOOR" F.RES_CFG_FLOOR_V s ∧
    (s.stackStored a).get F.RES_BAL_BAL_START = given a "BALSTART" F.RES_BAL_BAL_START s ∧
    (s.stackStored a).get F.RES_BAL_BAL_DELTA = given a "BALDELTA" F.RES_BAL_BAL_DELTA s ∧
    (s.stackStored a).get F.RES_BAL_BAL_EN = given a "BAL" F.RES_BAL_BAL_EN s ∧
    OnlyRegs [Reg.addr .RES_CFG, Reg.addr .RES_BAL] s (s.stackStored a) ∧
    (s.bridgeStored a).get F.BR_CTRL_EN = given a "EN" F.BR_CTRL_EN s ∧
    (s.bridgeStored a).get F.BR_CTRL_CHG_EN = given a "CHARGE" F.BR_CTRL_CHG_EN s ∧
    (s.bridgeStored a).get F.BR_CTRL_SUP_EN = given a "SUPPORT" F.BR_CTRL_SUP_EN s ∧
    (s.bridgeStored a).get F.BR_CTRL_ABS_EN = given a "ABSORB" F.BR_CTRL_ABS_EN s ∧
    (s.bridgeStored a).get F.BR_CTRL_CHG_P = given a "CHGPOWER" F.BR_CTRL_CHG_P s ∧
    (s.bridgeStored a).get F.BR_CTRL_SUP_P = given a "SUPPOWER" F.BR_CTRL_SUP_P s ∧
    (s.bridgeStored a).get F.BR_CTRL_ABS_P = given a "ABSPOWER" F.BR_CTRL_ABS_P s ∧
    (s.bridgeStored a).get F.BR_LIM_CHG_I = given a "CHGCURRENT" F.BR_LIM_CHG_I s ∧
    (s.bridgeStored a).get F.BR_LIM_ILIM = given a "ILIM" F.BR_LIM_ILIM s ∧
    (s.bridgeStored a).get F.BR_LIM_FREQ = given a "FREQ" F.BR_LIM_FREQ s ∧
    (s.bridgeStored a).get F.BR_SET_SUP_V = given a "SUPV" F.BR_SET_SUP_V s ∧
    (s.bridgeStored a).get F.BR_SET_ABS_V = given a "ABSV" F.BR_SET_ABS_V s ∧
    OnlyRegs [Reg.addr .BR_CTRL, Reg.addr .BR_LIM, Reg.addr .BR_SET] s (s.bridgeStored a) ∧
    (s.relayStored a).get F.RELAY_CTRL_WIDTH = given a "WIDTH" F.RELAY_CTRL_WIDTH s ∧
    (s.relayStored a).get F.RELAY_CTRL_TOPUP_J = given a "TOPUP" F.RELAY_CTRL_TOPUP_J s ∧
    (s.relayStored a).get F.RELAY_CTRL_TOPUP_EN = given a "TOPUPEN" F.RELAY_CTRL_TOPUP_EN s ∧
    OnlyRegs [Reg.addr .RELAY_CTRL] s (s.relayStored a) ∧
    (s.budgetStored a v).get F.GAUGE_BUDGET_BUDGET = given a "SET" F.GAUGE_BUDGET_BUDGET s ∧
    (s.budgetStored a v).get F.GAUGE_BUDGET_FLOOR_RES = given a "FLOOR" F.GAUGE_BUDGET_FLOOR_RES s ∧
    (s.budgetStored a v).get F.GAUGE_BUDGET_FORCE = given a "FORCE" F.GAUGE_BUDGET_FORCE s ∧
    (s.budgetStored a v).get F.GAUGE_CFG_PAGE_T = given a "PAGET" F.GAUGE_CFG_PAGE_T s ∧
    (s.budgetStored a v).get F.GAUGE_CFG_ETA = given a "ETA" F.GAUGE_CFG_ETA s ∧
    (s.budgetStored a v).get F.GAUGE_CFG_RA_HYS = given a "HYS" F.GAUGE_CFG_RA_HYS s ∧
    (s.budgetStored a v).get F.GAUGE_CFG_LEARN_N = given a "LEARNN" F.GAUGE_CFG_LEARN_N s ∧
    (s.budgetStored a v).get F.GAUGE_CFG_LOAD_SNS = given a "LOADSNS" F.GAUGE_CFG_LOAD_SNS s ∧
    (s.budgetStored a v).get F.GAUGE_CAP_CAP_NOM = given a "CAPNOM" F.GAUGE_CAP_CAP_NOM s ∧
    (s.budgetStored a v).get F.GAUGE_ESR_ESR_SET = given a "ESR" F.GAUGE_ESR_ESR_SET s ∧
    OnlyRegs [Reg.addr .GAUGE_BUDGET, Reg.addr .GAUGE_CFG, Reg.addr .GAUGE_CAP, Reg.addr .GAUGE_ESR] s (s.budgetStored a v) ∧
    (s.syncStored a).get F.SYS_SYNC_MODE = given a "MODE" F.SYS_SYNC_MODE s ∧
    (s.syncStored a).get F.SYS_SYNC_FINT = given a "FREQ" F.SYS_SYNC_FINT s ∧
    (s.syncStored a).get F.SYS_SYNC_OUT_EN = given a "OUT" F.SYS_SYNC_OUT_EN s ∧
    (s.syncStored a).get F.SYS_SYNC_OUT_SHIFT = given a "SHIFT" F.SYS_SYNC_OUT_SHIFT s ∧
    (s.syncStored a).get F.SYS_SYNC_OUT_MARK = given a "MARK" F.SYS_SYNC_OUT_MARK s ∧
    OnlyRegs [Reg.addr .SYS_SYNC] s (s.syncStored a) ∧
    (s.balanceStored n a v).get (F.RAIL_BAL_MODE n) = given a "MODE" (F.RAIL_BAL_MODE n) s ∧
    (s.balanceStored n a v).get (F.RAIL_BAL_LIM n) = given a "LIMIT" (F.RAIL_BAL_LIM n) s ∧
    (s.balanceStored n a v).get (F.RAIL_BAL_DB n) = given a "DEADBAND" (F.RAIL_BAL_DB n) s ∧
    (s.balanceStored n a v).get (F.RAIL_BAL_BAL_MIN n) = given a "MIN" (F.RAIL_BAL_BAL_MIN n) s ∧
    (s.balanceStored n a v).get (F.RAIL_SW_OFFSET n) = given a "OFFSET" (F.RAIL_SW_OFFSET n) s ∧
    (s.balanceStored n a v).get (F.RAIL_SW_RIPPLE n) = given a "RIPPLE" (F.RAIL_SW_RIPPLE n) s ∧
    (s.balanceStored n a v).get (F.RAIL_SW_MIN_OFF n) = given a "MINOFF" (F.RAIL_SW_MIN_OFF n) s ∧
    (s.balanceStored n a v).get (F.RAIL_SW_ISGAIN n) = given a "ISGAIN" (F.RAIL_SW_ISGAIN n) s ∧
    (s.balanceStored n a v).get (F.RAIL_LIGHT_AUTOSHED n) = given a "AUTOSHED" (F.RAIL_LIGHT_AUTOSHED n) s ∧
    (s.balanceStored n a v).get (F.RAIL_LIGHT_SHED_I n) = given a "SHED" (F.RAIL_LIGHT_SHED_I n) s ∧
    (s.balanceStored n a v).get (F.RAIL_LIGHT_ADD_I n) = given a "ADD" (F.RAIL_LIGHT_ADD_I n) s ∧
    OnlyRegs [Reg.addr (.RAIL_BAL n), Reg.addr (.RAIL_SW n), Reg.addr (.RAIL_LIGHT n)] s (s.balanceStored n a v) ∧
    (s.limitStored n a).get (F.RAIL_LIMIT_LIMIT n) = given a "CURRENT" (F.RAIL_LIMIT_LIMIT n) s ∧
    (s.limitStored n a).get (F.RAIL_LIMIT_HICCUP_N n) = given a "HICCUPN" (F.RAIL_LIMIT_HICCUP_N n) s ∧
    (s.limitStored n a).get (F.RAIL_LIMIT_HICCUP_T n) = given a "HICCUPT" (F.RAIL_LIMIT_HICCUP_T n) s ∧
    (s.limitStored n a).get (F.RAIL_LIMIT_HICCUP_MAX n) = given a "HICCUPMAX" (F.RAIL_LIMIT_HICCUP_MAX n) s ∧
    (s.limitStored n a).get (F.RAIL_PROT_OV_PCT n) = given a "OV" (F.RAIL_PROT_OV_PCT n) s ∧
    (s.limitStored n a).get (F.RAIL_PROT_OT_WARN n) = given a "OTWARN" (F.RAIL_PROT_OT_WARN n) s ∧
    (s.limitStored n a).get (F.RAIL_PROT_OT_SHUT n) = given a "OTSHUT" (F.RAIL_PROT_OT_SHUT n) s ∧
    (s.limitStored n a).get (F.RAIL_PROT_OVL_T n) = given a "OVERLOAD" (F.RAIL_PROT_OVL_T n) s ∧
    OnlyRegs [Reg.addr (.RAIL_LIMIT n), Reg.addr (.RAIL_PROT n)] s (s.limitStored n a) ∧
    (s.railStored n a).get (F.RAIL_TARGET_TARGET n) = given a "TARGET" (F.RAIL_TARGET_TARGET n) s ∧
    (s.railStored n a).get (F.RAIL_TARGET_LOADLINE n) = given a "LOADLINE" (F.RAIL_TARGET_LOADLINE n) s ∧
    (s.railStored n a).get (F.RAIL_DELAY_ON_DLY n) = given a "ONDELAY" (F.RAIL_DELAY_ON_DLY n) s ∧
    (s.railStored n a).get (F.RAIL_DELAY_OFF_DLY n) = given a "OFFDELAY" (F.RAIL_DELAY_OFF_DLY n) s ∧
    (s.railStored n a).get (F.RAIL_RAMP_ON_SLEW n) = given a "ONSLEW" (F.RAIL_RAMP_ON_SLEW n) s ∧
    (s.railStored n a).get (F.RAIL_RAMP_OFF_SLEW n) = given a "OFFSLEW" (F.RAIL_RAMP_OFF_SLEW n) s ∧
    (s.railStored n a).get (F.RAIL_RAMP_MOVE_SLEW n) = given a "MOVESLEW" (F.RAIL_RAMP_MOVE_SLEW n) s ∧
    (s.railStored n a).get (F.RAIL_NL_NL_EN n) = given a "NL" (F.RAIL_NL_NL_EN n) s ∧
    (s.railStored n a).get (F.RAIL_NL_NL_THR n) = given a "NLTHR" (F.RAIL_NL_NL_THR n) s ∧
    (s.railStored n a).get (F.RAIL_NL_NL_MAXON n) = given a "NLMAXON" (F.RAIL_NL_NL_MAXON n) s ∧
    (s.railStored n a).get (F.RAIL_ANT_ANT_EN n) = given a "ANT" (F.RAIL_ANT_ANT_EN n) s ∧
    (s.railStored n a).get (F.RAIL_ANT_IEM n) = given a "IEM" (F.RAIL_ANT_IEM n) s ∧
    (s.railStored n a).get (F.RAIL_ANT_LPH n) = given a "LPH" (F.RAIL_ANT_LPH n) s ∧
    (s.railStored n a).get (F.RAIL_ANT_ANT_DLY n) = given a "ANTDLY" (F.RAIL_ANT_ANT_DLY n) s ∧
    OnlyRegs [Reg.addr (.RAIL_TARGET n), Reg.addr (.RAIL_DELAY n), Reg.addr (.RAIL_RAMP n), Reg.addr (.RAIL_NL n), Reg.addr (.RAIL_ANT n)] s (s.railStored n a) ∧
    (s.encStored n a).get (F.LINE_CTRL_CPL n) = given a "CPL" (F.LINE_CTRL_CPL n) s ∧
    (s.encStored n a).get (F.LINE_CTRL_DIR n) = given a "DIR" (F.LINE_CTRL_DIR n) s ∧
    (s.encStored n a).get (F.LINE_CTRL_BACKLASH n) = given a "BACKLASH" (F.LINE_CTRL_BACKLASH n) s ∧
    (s.encStored n a).get (F.LINE_CTRL_EN n) = given a "EN" (F.LINE_CTRL_EN n) s ∧
    OnlyRegs [Reg.addr (.LINE_CTRL n)] s (s.encStored n a) ∧
    (s.strobeStored n a).get (F.LINE_CTRL_NGRP n) = given a "GROUPS" (F.LINE_CTRL_NGRP n) s ∧
    (s.strobeStored n a).get (F.LINE_GROUP_GOFF1 n) = given a "OFF1" (F.LINE_GROUP_GOFF1 n) s ∧
    (s.strobeStored n a).get (F.LINE_GROUP_GOFF2 n) = given a "OFF2" (F.LINE_GROUP_GOFF2 n) s ∧
    (s.strobeStored n a).get (F.LINE_GROUP_GOFF3 n) = given a "OFF3" (F.LINE_GROUP_GOFF3 n) s ∧
    OnlyRegs [Reg.addr (.LINE_CTRL n), Reg.addr (.LINE_GROUP n)] s (s.strobeStored n a) ∧
    (s.doseStored n a v).get (F.HEAD_CTRL_GAIN n) = given a "GAIN" (F.HEAD_CTRL_GAIN n) s ∧
    (s.doseStored n a v).get (F.HEAD_CTRL_W_MIN n) = given a "WMIN" (F.HEAD_CTRL_W_MIN n) s ∧
    (s.doseStored n a v).get (F.HEAD_CTRL_PRIME_W n) = given a "PRIME" (F.HEAD_CTRL_PRIME_W n) s ∧
    (s.doseStored n a v).get (F.HEAD_CTRL_INHIBIT n) = given a "INHIBIT" (F.HEAD_CTRL_INHIBIT n) s ∧
    (s.doseStored n a v).get (F.HEAD_TCOR_TCOR_MIN n) = given a "TMIN" (F.HEAD_TCOR_TCOR_MIN n) s ∧
    (s.doseStored n a v).get (F.HEAD_TCOR_TCOR_MAX n) = given a "TMAX" (F.HEAD_TCOR_TCOR_MAX n) s ∧
    (s.doseStored n a v).get (F.HEAD_TEMP_T_WARN n) = given a "TWARN" (F.HEAD_TEMP_T_WARN n) s ∧
    (s.doseStored n a v).get (F.HEAD_TEMP_T_LIMIT n) = given a "TLIMIT" (F.HEAD_TEMP_T_LIMIT n) s ∧
    (s.doseStored n a v).get (F.HEAD_TEMP_T_SHUT n) = given a "TSHUT" (F.HEAD_TEMP_T_SHUT n) s ∧
    (s.doseStored n a v).get (F.HEAD_TEMP_T_HYS n) = given a "THYS" (F.HEAD_TEMP_T_HYS n) s ∧
    (s.doseStored n a v).get (F.HEAD_FB_FB_LIMIT n) = given a "FBLIMIT" (F.HEAD_FB_FB_LIMIT n) s ∧
    (s.doseStored n a v).get (F.HEAD_FB_VDIFF n) = given a "VDIFF" (F.HEAD_FB_VDIFF n) s ∧
    OnlyRegs [Reg.addr (.HEAD_CTRL n), Reg.addr (.HEAD_TCOR n), Reg.addr (.HEAD_TEMP n), Reg.addr (.HEAD_FB n), Reg.addr (.HEAD_RANK n)] s (s.doseStored n a v) ∧
    (s.lgStored n a).get (F.HEAD_LG_HIDE_MAX n) = given a "HIDEMAX" (F.HEAD_LG_HIDE_MAX n) s ∧
    (s.lgStored n a).get (F.HEAD_LG_WEAK_PCT n) = given a "WEAK" (F.HEAD_LG_WEAK_PCT n) s ∧
    (s.lgStored n a).get (F.HEAD_LG_DEAD_PCT n) = given a "DEAD" (F.HEAD_LG_DEAD_PCT n) s ∧
    (s.lgStored n a).get (F.HEAD_LG_DEAD_MAX n) = given a "DEADMAX" (F.HEAD_LG_DEAD_MAX n) s ∧
    (s.lgStored n a).get (F.HEAD_LGT_TW n) = given a "WIDTH" (F.HEAD_LGT_TW n) s ∧
    (s.lgStored n a).get (F.HEAD_LGT_TPER n) = given a "PERIOD" (F.HEAD_LGT_TPER n) s ∧
    OnlyRegs [Reg.addr (.HEAD_LG n), Reg.addr (.HEAD_LGT n)] s (s.lgStored n a) ∧
    (s.fltStored a).get F.FLT_CTRL_MODE = given a "MODE" F.FLT_CTRL_MODE s ∧
    (s.fltStored a).get F.FLT_CTRL_MIN = given a "MIN" F.FLT_CTRL_MIN s ∧
    (s.fltStored a).get F.FLT_CTRL_ASSERT = given a "ASSERT" F.FLT_CTRL_ASSERT s ∧
    OnlyRegs [Reg.addr .FLT_CTRL] s (s.fltStored a)

/-- Granted, with arguments that its rule accepts, MON, HARVEST, STACK, BRIDGE and RELAY store them, start what their
change starts, and answer the settings as they then stand; RELAY SET and RELAY CLR are answered QUEUED and requested;
an opening that R154 forbids is refused with the reason, by command and by register; a claimed sheet forbids an
opening. (Parts of R111, R136, R154, R164, R165, R166, R167.) -/
def Obligations.PowerCommands : Prop :=
  ∀ (s g t : State) (p : PortId) (l : Line) (a : Args) (n : Nat), g = granted s →
    (∀ ev, Grants s p l .mon false → objMon s.part l = .ok n → nonAbsent (restToks l) "INPUT" (absentIn inputNames s.part.hasInput) = .ok () →
      nonAbsent (restToks l) "BLANK" (absentIn blankNames s.part.hasBlank) = .ok () →
      parseArgs s.compat (monKinds (g.monInput n (restToks l)) (g.monConv n (restToks l)) (rawValue (restToks l) "STBYPERIOD" == some "OFF"))
        (restToks l) = .ok a →
      ev = (a.txt "EVENTS").bind eventMask → (a.txt "EVENTS").isSome = ev.isSome →
      t = g.monStored n a (g.monConv n (restToks l)) ev
        (if rawValue (restToks l) "STBYPERIOD" = some "OFF" then some 15 else a.nat "STBYPERIOD") →
      t.regOk (.MON_CTRL n) = true → t.thrOk n = true → s.failed 5 = false →
      exec (.monCmd p l) s = .next (replied s (g.monWritten t n) p l (.ok ((g.monWritten t n).monFields n)))) ∧
    (Grants s p l .harvest false → objHarv s.part l = .ok n → parseArgs s.compat (harvKinds n) (restToks l) = .ok a →
      t = g.harvStored n a → t.get (F.HARV_LIM_VMIN n) ≤ t.get (F.HARV_LIM_VMAX n) → ¬(n = 3 ∧ a.nat "MODE" = some 1) →
      exec (.harvestCmd p l) s = .next (replied s (if a.isEmpty then t else t.harvSet n) p l
        (.ok ((if a.isEmpty then t else t.harvSet n).harvFields n)))) ∧
    (Grants s p l .stack false → parseArgs s.compat stackKinds l.toks = .ok a → t = g.stackStored a → t.regOk .RES_CFG = true →
      g.changeOk t .RES_CFG = true → s.failed 4 = false →
      exec (.stackCmd p l) s = .next (replied s (g.stackWritten t) p l (.ok (fieldsOut ((g.stackWritten t).stackFields false))))) ∧
    (Grants s p l .bridge false → parseArgs s.compat bridgeKinds l.toks = .ok a → s.failed 4 = false →
      ((a.nat "EN" = some 0 ∨ a.nat "SUPPORT" = some 0) → s.bridgeKeeps = false) →
      t = (g.bridgeStored a).bridgeWritten (a.nat "EN" == some 1) →
      exec (.bridgeCmd p l) s = .next (replied s t p l (.ok t.bridgeFields))) ∧
    (Grants s p l .relay false → l.toks = ["SET"] → s.failed 4 = false →
      exec (.relaySetCmd p l) s =
        .next (replied s (g.relayRequest { set := true, why := .command p l.tag }) p l .queued)) ∧
    (Grants s p l .relay false → l.toks = ["CLR"] → g.relayRefusal = none →
      exec (.relayClrCmd p l) s =
        .next (replied s (g.relayRequest { set := false, why := .command p l.tag }) p l .queued)) ∧
    (∀ why, Grants s p l .relay false → l.toks = ["CLR"] → g.relayRefusal = some why →
      exec (.relayClrCmd p l) s = .next (replied s (g.relayRefused why) p l (relayAnswer why))) ∧
    (Grants s p l .relay false → relaySets l = false → relayClears l = false → parseArgs s.compat relayKinds l.toks = .ok a →
      s.failed 4 = false → t = (if a.has "TOPUPEN" then (g.relayStored a).topupWritten else g.relayStored a) →
      exec (.relayCfgCmd p l) s = .next (replied s t p l (.ok (fieldsOut t.relayFields)))) ∧
    (s.dev = .run → s.works 4 = true → s.flag F.RELAY_CTRL_SET = false →
      Does .relayCtrlSet s ((s.relayRequest { set := true, why := .register }).setFlag F.RELAY_CTRL_SET true)) ∧
    (s.dev = .run → s.works 4 = true → s.flag F.RELAY_CTRL_CLR = false → s.relayRefusal = none →
      Does .relayCtrlClr s ((s.relayRequest { set := false, why := .register }).setFlag F.RELAY_CTRL_CLR true)) ∧
    (∀ why, s.dev = .run → s.works 4 = true → s.flag F.RELAY_CTRL_CLR = false → s.relayRefusal = some why →
      Does .relayCtrlClr s (s.relayRefused why)) ∧
    (0 < s.claims → s.failed 4 = false → s.failed 6 = false → s.relayRefusal = some "CLAIMED")

/-- In RUN with no test: an edge of PAGE_CLAIM counts a claim, permitted while RIGHTAWAY is high and else, later than
20 µs after its fall, reported as UNPERMITTED; at CLAIMS 4 it overflows; an edge of PAGE_DONE releases one sheet, or
raises DONE_EXTRA at CLAIMS 0; under COMPAT, without VIO and with BP6 FAILED the pins do not count. CLAIM and DONE do
the same and answer the count. (Parts of R182, R183, R184, R185, R188, R193.) -/
def Obligations.ClaimsAndReleases : Prop :=
  ∀ (s g : State) (p : PortId) (l : Line) (k : Nat), g = granted s → s.dev = .run → s.bist.run = none →
    (s.pinsCount = true → s.claims < 4 → s.flag F.GAUGE_RA_RIGHTAWAY = true →
      ∃ t, exec (.pageClaimEdge k) s = .next t ∧ t.claims = s.claims + 1 ∧
        t.get F.GAUGE_COUNT_UNPERMITTED = s.get F.GAUGE_COUNT_UNPERMITTED ∧
        OnlyRegs (Reg.addr .RELAY_STATUS :: raRegs) s t) ∧
    (s.pinsCount = true → s.claims < 4 → s.flag F.GAUGE_RA_RIGHTAWAY = false → 20 < k →
      ∃ t, exec (.pageClaimEdge k) s = .next t ∧ t.claims = s.claims + 1 ∧ Tells s t 47 "UNPERMITTED" ∧
        t.get F.GAUGE_COUNT_UNPERMITTED = min 255 (s.get F.GAUGE_COUNT_UNPERMITTED + 1)) ∧
    (s.pinsCount = true → 4 ≤ s.claims →
      ∃ t, exec (.pageClaimEdge k) s = .next t ∧ t.claims = s.claims ∧ Tells s t 47 "OVERFLOW" ∧
        t.get F.GAUGE_COUNT_OVERFLOW = min 255 (s.get F.GAUGE_COUNT_OVERFLOW + 1) ∧ OnlyRegs [Reg.addr .GAUGE_COUNT] s t) ∧
    (s.pinsCount = true → s.claims = 0 →
      ∃ t, exec .pageDoneEdge s = .next t ∧ t.claims = 0 ∧ Tells s t 47 "DONE_EXTRA" ∧ OnlyRegs [] s t) ∧
    (s.pinsCount = true → 2 ≤ s.claims → s.flag F.GAUGE_CFG_LOAD_SNS = false →
      (∀ r : Nat, r < 4 → s.flag (F.RAIL_PSTAT_OVERLOAD r) = false) →
      ∃ t, exec .pageDoneEdge s = .next t ∧ t.claims = s.claims - 1 ∧
        t.get F.GAUGE_COUNT_RELEASES = (s.get F.GAUGE_COUNT_RELEASES + 1) % 2 ^ F.GAUGE_COUNT_RELEASES.width ∧
        t.gauge.acc = 0 ∧ OnlyRegs (Reg.addr .GAUGE_COUNT :: raRegs) s t) ∧
    (s.pinsCount = false → Does (.pageClaimEdge k) s s ∧ Does .pageDoneEdge s s) ∧
    (Grants s p l .claim false → l.toks = [] → g.claimRefusal = none → s.claims < 4 →
      AnswersWith (.claimCmd p l) s (g.countClaim true) p l "" ["CLAIMS", "NEED", "AVAIL"] [("CLAIMS", dec (s.claims + 1))]) ∧
    (Grants s p l .done false → l.toks = [] → s.failed 6 = false → 0 < s.claims →
      AnswersWith (.doneCmd p l) s g.release p l "" ["CLAIMS"] [("CLAIMS", dec g.release.claims)]) ∧
    (Grants s p l .done false → l.toks = [] → s.failed 6 = false → s.claims = 0 →
      exec (.doneCmd p l) s = .next (replied s (g.raise 47 "DONE_EXTRA") p l (.state "NOCLAIM")))

/-- BUDGET stores its arguments and evaluates the gauge anew; CAL GAUGE is done at once where no sheet is claimed,
else QUEUED; the queued calibration runs at CLAIMS 0: the measured capacitance, ESR and efficiency and the learned
entries are discarded, and its lines are answered. (Parts of R177, R179, R192, R194.) -/
def Obligations.BudgetAndGaugeCalibration : Prop :=
  ∀ (s g t : State) (p : PortId) (l : Line) (a : Args) (heads : Option Nat), g = granted s →
    (Grants s p l .budget false → nonAbsent l.toks "HEADS" (absentHead s.part) = .ok () → parseArgs s.compat budgetKinds l.toks = .ok a →
      heads = (a.txt "HEADS").bind headMask → (a.txt "HEADS").isSome = heads.isSome → s.failed 6 = false →
      t = g.gaugeWritten (g.budgetStored a heads) →
      exec (.budgetCmd p l) s = .next (replied s t p l (.ok t.budgetFields))) ∧
    (Grants s p l .cal false → l.toks = ["GAUGE"] → s.failed 6 = false → s.claims = 0 →
      exec (.calGaugeCmd p l) s = .next (replied s g.calGauge p l (.ok "GAUGE"))) ∧
    (Grants s p l .cal false → l.toks = ["GAUGE"] → s.failed 6 = false → 0 < s.claims →
      exec (.calGaugeCmd p l) s = .next (replied s
        { g with gauge := { g.gauge with calPend := true }, owed := g.owed ++ [owe p l "GAUGE"] } p l .queued)) ∧
    (s.dev = .run → s.gauge.calPend = true → s.claims = 0 → s.works 6 = true →
      ∃ t, exec .gaugeCalRun s = .next t ∧ t.gauge.calPend = false ∧ t.gauge.entries = [] ∧ t.get F.GAUGE_CAP_CAP_MEAS = 0 ∧
        t.get F.GAUGE_ESR_ESR_MEAS = 0 ∧ t.get F.GAUGE_ESR_ETA_MEAS = 0 ∧ t.owed = s.owed.filter (fun o => o.what != "CAL GAUGE")) ∧
    (s.gauge.calPend = false ∨ 0 < s.claims → Does .gaugeCalRun s s) ∧
    s.calGauge.get F.GAUGE_CAP_CAP_MEAS = 0 ∧ s.calGauge.get F.GAUGE_ESR_ESR_MEAS = 0 ∧ s.calGauge.get F.GAUGE_ESR_ETA_MEAS = 0 ∧
    s.calGauge.get F.GAUGE_PAGE_B_LEARNED = 0 ∧ s.calGauge.gauge.entries = []

/-- Granted on a rail that is there and whose partition has not failed, with arguments that its rule accepts: RAIL and
MARGIN store them and move the rail, ENABLE turns it on and DISABLE off, LIMIT, DEPENDS and BALANCE store their
settings, RESTORE=ALL restores the failed phases of the rail, and each is answered as its rule says; ENABLE of a rail
without a phase is refused. (Parts of R234, R272, R282, R294, R296, R297, R316, R319.) -/
def Obligations.RailCommands : Prop :=
  ∀ (s g t u : State) (p : PortId) (l : Line) (a : Args) (n : Nat), g = granted s → s.failed (railBp n) = false → objRail s.part l = .ok n →
    (∀ v out, Grants s p l .rail false → parseArgs s.compat railKinds (restToks l) = .ok a → (a.has "SLEW" = true → a.has "TARGET" = true) →
      t = g.railStored n a → t.vSetmOk n = true → (a.nat "ANT" = some 1 → n < s.part.heads) →
      u = g.keepUse t n (Reg.addr (.RAIL_TARGET n)) → out = pick (u.railFields n) (a.map Prod.fst) →
      v = (if a.has "TARGET" then u.move n ((a.nat "SLEW").getD (u.get (F.RAIL_RAMP_MOVE_SLEW n))) else u) →
      exec (.railCmd p l) s =
        .next (replied s v p l (.ok (railName n ++ (if out.isEmpty then "" else " " ++ fieldsOut out))))) ∧
    (Grants s p l .enable false → restToks l = [] → s.assigned n ≠ [] →
      exec (.enableCmd p l) s =
        .next (replied s (g.turnOn n) p l (.ok (railName n ++ " STATE=" ++ rsName ((g.turnOn n).rs n))))) ∧
    (Grants s p l .enable false → restToks l = [] → s.assigned n = [] →
      exec (.enableCmd p l) s = .next (replied s g p l (.state "NOPHASE"))) ∧
    (Grants s p l .disable false → restToks l = [] → u = g.disableRail n 320 640 none →
      exec (.disableCmd p l) s = .next (replied s u p l (.ok (railName n ++ " STATE=" ++ rsName (u.rs n))))) ∧
    (∀ v more m, Grants s p l .margin false → restToks l = v :: more → cutEq v.toList = none →
      parseArgs s.compat [("SLEW", kSlew 1 255)] more = .ok a → bareValue s.compat (kPct 1 (-100) 100) v = .ok m →
      g.marginSet n m = some t → u = t.move n ((a.nat "SLEW").getD (t.get (F.RAIL_RAMP_MOVE_SLEW n))) →
      exec (.marginCmd p l) s = .next (replied s u p l (.ok (railName n ++ " " ++ fieldsOut (u.marginFields n))))) ∧
    (∀ out, Grants s p l .limit false → restores l = false → parseArgs s.compat limitKinds (restToks l) = .ok a → t = g.limitStored n a →
      t.regOk (.RAIL_PROT n) = true → u = g.keepUse t n (Reg.addr (.RAIL_LIMIT n)) → out = pick (u.limitFields n) (a.map Prod.fst) →
      exec (.limitCmd p l) s =
        .next (replied s u p l (.ok (railName n ++ (if out.isEmpty then "" else " " ++ fieldsOut out))))) ∧
    (∀ ns, Grants s p l .limit false → restToks l = ["RESTORE=ALL"] → s.canRestore n = true → ns = (s.assigned n).filter s.phFailed →
      exec (.limitRestoreCmd p l) s =
        .next (replied s (ns.foldl State.restorePhase g) p l (.ok (railName n ++ " RESTORE=" ++ listOut (ns.map phName))))) ∧
    (∀ on, Grants s p l .depends false → nonAbsent (restToks l) "ON" (absentRail s.part) = .ok () →
      parseArgs s.compat dependsKinds (restToks l) = .ok a → on = (a.txt "ON").bind railMask → (a.txt "ON").isSome = on.isSome →
      t = g.dependsStored n a on → t.noCycle = true →
      exec (.dependsCmd p l) s = .next (replied s t p l (.ok (t.dependsFields n)))) ∧
    (∀ dv, Grants s p l .balance false → parseArgs s.compat balanceKinds (restToks l) = .ok a → divCode (a.nat "DIV") = .ok dv →
      t = g.balanceStored n a dv → t.refOk = true → t.regOk (.RAIL_LIGHT n) = true →
      (s.enabled n = true → a.has "DIV" = false ∧ a.has "ISGAIN" = false) → u = g.switchWritten t n →
      exec (.balanceCmd p l) s = .next (replied s u p l (.ok (u.balanceFields n))))

/-- Granted, PHASE assigns the phase and sets its manual trim, SYNC sets the reference, and CAL PHn is QUEUED while a
sheet is claimed and else run, each answered as its rule says; a calibration asked for by register waits with CAL and
CAL_PEND set; RESTORE by register clears the failure, the trim and SHED of a failed phase of a rail that is OFF and
not enabled, and does nothing otherwise. (Parts of R238, R240, R262, R263, R270, R271, R273, R316.) -/
def Obligations.PhaseAndSyncCommands : Prop :=
  ∀ (s g t u : State) (p : PortId) (l : Line) (a : Args) (n : Nat), g = granted s →
    (∀ rail r, Grants s p l .phase false → objPhase s.part l = .ok n → nonAbsent (restToks l) "RAIL" (absentRail s.part) = .ok () →
      parseArgs s.compat [("RAIL", .raw), ("TRIM", kPct 1 (-120) 120)] (restToks l) = .ok a →
      rail = (a.txt "RAIL").bind (fun x => if x = "NONE" then some 7 else readRail x) → (a.txt "RAIL").isSome = rail.isSome →
      t = g.setArg (F.PH_CTRL_RAIL n) rail → r = t.get (F.PH_CTRL_RAIL n) → t.refOk = true → s.failed (s.phBp n) = false →
      t.regOk (.PH_CTRL n) = true → g.changeOk t (.PH_CTRL n) = true →
      (a.has "TRIM" = true → r < 6 ∧ t.get (F.RAIL_BAL_MODE r) = 2) →
      (∀ v, a.int "TRIM" = some v → v.natAbs ≤ t.get (F.RAIL_BAL_LIM r)) →
      u = (if a.has "TRIM" then ((g.phRailWritten t n).setArgI (F.PH_TRIM_MANUAL n) (a.int "TRIM")).manualWritten n
        else g.phRailWritten t n) →
      exec (.phaseCmd p l) s = .next (replied s u p l (.ok (phName n ++ (if a.has "RAIL" then " RAIL=" ++ railOpt r else "") ++
        (if a.has "TRIM" then " TRIM=" ++ pctOut u.compat (u.sget (F.PH_TRIM_MANUAL n)) 10 else ""))))) ∧
    (Grants s p l .sync false → parseArgs s.compat syncKinds l.toks = .ok a → t = g.syncStored a → t.refOk = true → s.failed 4 = false →
      exec (.syncCmd p l) s = .next (replied s t.syncWritten p l (.ok t.syncFields))) ∧
    (Grants s p l .cal false → calsPhase l = true → objPhase s.part l = .ok n → restToks l = [] → s.failed (s.phBp n) = false →
      0 < s.claims →
      exec (.calPhaseCmd p l) s = .next (replied s
        (((g.setFlag (F.PH_CAL_CAL n) true).setFlag (F.PH_CAL_CAL_PEND n) true).modPh n fun x =>
          { x with calOwed := x.calOwed ++ [owe p l (phName n)] }) p l .queued)) ∧
    (Grants s p l .cal false → calsPhase l = true → objPhase s.part l = .ok n → restToks l = [] → s.failed (s.phBp n) = false →
      s.claims = 0 → ∀ no, g.calPhase n = (t, no) →
      exec (.calPhaseCmd p l) s = .next (match no with
        | some d => replied s t p l (.refused d)
        | none => replied s (t.offsetOut n).2 p l (.ok (phName n ++ " OFFSET=" ++ (t.offsetOut n).1)))) ∧
    (∀ m : Fin 16, s.dev = .run → m < s.part.phases → s.works (s.phBp m) = true → s.flag (F.PH_CAL_CAL_PEND m) = false → 0 < s.claims →
      ∃ t, exec (.phCalRequest m) s = .next t ∧ t.flag (F.PH_CAL_CAL m) = true ∧ t.flag (F.PH_CAL_CAL_PEND m) = true ∧
        OnlyRegs [Reg.addr (.PH_CAL m)] s t) ∧
    (∀ m : Fin 16, s.dev = .run → m < s.part.phases → s.works (s.phBp m) = true → s.flag (F.PH_CAL_CAL_PEND m) = false → s.claims = 0 →
      Does (.phCalRequest m) s (s.calPhase m).1) ∧
    (∀ m : Fin 16, s.dev = .run → m < s.part.phases → s.works (s.phBp m) = true → s.canRestore (s.get (F.PH_CTRL_RAIL m)) = true →
      s.phFailed m = true →
      ∃ t, exec (.phRestoreRequest m) s = .next t ∧ t.phFailed m = false ∧ t.sget (F.PH_TRIM_TRIM m) = 0 ∧
        t.phState m = (if s.phState m = 4 then 0 else s.phState m) ∧
        OnlyRegs [Reg.addr (.PH_PROT m), Reg.addr (.PH_TRIM m), Reg.addr (.PH_STATUS m)] s t) ∧
    (∀ m : Fin 16, s.canRestore (s.get (F.PH_CTRL_RAIL m)) = false → Does (.phRestoreRequest m) s s)

/-- In RUN, for a rail that is there and works: EN written 1 turns it on and EN written 0 off; a word of RAILn_TARGET
whose TARGET and V_SETM lie from 0.400 V to 5.600 V is stored and moves the rail, and no other word is stored. (Parts
of R275, R276, R280, R282, R293.) -/
def Obligations.RailRegisterWrites : Prop :=
  ∀ (s t : State) (r : Fin 6) (w : Word), s.dev = .run → s.part.hasRail r = true → s.works (railBp r) = true →
    Does (.railEnWrite r true) s (s.turnOn r) ∧ Does (.railEnWrite r false) s (s.disableRail r 320 640 none) ∧
    (s.tryWord (.RAIL_TARGET r) w = some t → Does (.railTargetWrite r w) s (s.targetWritten t r)) ∧
    (s.tryWord (.RAIL_TARGET r) w = none → Does (.railTargetWrite r w) s s) ∧
    (s.tryWord (.RAIL_TARGET r) w = some t →
      400 ≤ t.get (F.RAIL_TARGET_TARGET r) ∧ t.get (F.RAIL_TARGET_TARGET r) ≤ 5600 ∧ 400 ≤ t.vSetm r ∧ t.vSetm r ≤ 5600 ∧
        OnlyRegs [Reg.addr (.RAIL_TARGET r)] s t)

/-- A word written where no register stands, to a register that the part lacks or whose partition has failed, or that
breaks a rule of its register has no effect; to the plain registers named, a word that keeps the rules stores its RW
bits and changes nothing else; a read of TT_DATA moves TT_ADDR on modulo 512, and one of HEADn_MDATA moves its entry
on modulo 31,744. (Parts of R15, R16, R472, R473, R474, R475.) -/
def Obligations.RegisterWrites : Prop :=
  ∀ (s : State) (a : Nat) (w : Word),
    (regAt a = none → Does (.registerWrite a w) s s) ∧
    (s.failed (s.regBp a) = true → Does (.registerWrite a w) s s) ∧
    (∀ r, regAt a = some r → r.absent s.part = true → Does (.registerWrite a w) s s) ∧
    (∀ r, s.dev = .run → regAt a = some r → r.absent s.part = false → s.works (s.regBp a) = true → bothRelay r w.toNat = false →
      s.tryWord r w = none → Does (.registerWrite a w) s s) ∧
    (∀ t r, s.dev = .run → regAt a = some r → r.absent s.part = false → s.works (s.regBp a) = true →
      (r = .HARV_KA ∨ r = .SIG_CTRL ∨ (∃ n, r = .TT_PG n) ∨ (∃ n, r = .RAIL_DELAY n) ∨ ∃ h, r = .HEAD_RANK h) →
      s.tryWord r w = some t → Does (.registerWrite a w) s t ∧ OnlyRegs [r.addr] s t ∧
        ∀ k, k < 32 → bitAt r.rw k = true → bitAt (r.ignored s.part) k = false → bitAt (t.word r.addr).toNat k = bitAt w.toNat k) ∧
    (s.dev = .run → s.failed 2 = false → s.underTest 2 = false →
      ∃ t, exec .ttDataRead s = .next t ∧
        t.get F.TT_ADDR_ADDR = (s.get F.TT_ADDR_ADDR + 1) % 2 ^ F.TT_ADDR_ADDR.width ∧ OnlyRegs [Reg.addr .TT_ADDR] s t) ∧
    (∀ h : Fin 4, s.dev = .run → h < s.part.heads → s.works (headBp h) = true →
      ∃ t, exec (.headMdataRead h) s = .next t ∧
        t.get (F.HEAD_MSEL_ENTRY h) = (s.get (F.HEAD_MSEL_ENTRY h) + 1) % 31744 ∧ OnlyRegs [Reg.addr (.HEAD_MSEL h)] s t)

/-- Granted on a head that is there and whose partition has not failed, with arguments that its rule accepts: ENC,
REG, STROBE, DOSE and LIGHTGATE store them, start what their change starts and answer the settings; LIGHTGATE START is
QUEUED or refused with the reason of R379 and ABORT ends a run; CAL HEADn is QUEUED while a sheet is claimed, else
run. (Parts of R338, R352, R353, R377, R379, R385, R386, R390, R391, R392.) -/
def Obligations.HeadCommands : Prop :=
  ∀ (s g t u : State) (p : PortId) (l : Line) (a : Args) (n : Nat), g = granted s → objHead s.part l = .ok n → s.failed (headBp n) = false →
    (Grants s p l .enc false → parseArgs s.compat encKinds (restToks l) = .ok a →
      (s.lineEn n = true → a.has "CPL" = false ∧ a.has "DIR" = false) →
      t = g.lineCtrlDone (g.encStored n a) n ((a.nat "EN").map (· == 1)) →
      exec (.encCmd p l) s = .next (replied s t p l (.ok (t.encFields n)))) ∧
    (∀ v, Grants s p l .reg false → parseArgs s.compat [("OFFSET", .num (-32768) 32767)] (restToks l) = .ok a → a.int "OFFSET" = some v →
      t = g.sset (F.LINE_REG_REG n) v → (s.lineEn n = true → (t.sget (F.LINE_REG_REG n) - s.sget (F.LINE_REG_REG n)).natAbs ≤ 32) →
      exec (.regCmd p l) s = .next (replied s (t.regMoved n) p l (.ok ((t.regMoved n).regFields n)))) ∧
    (Grants s p l .strobe false → parseArgs s.compat strobeKinds (restToks l) = .ok a → t = g.strobeStored n a → t.groupsOk n = true →
      s.lineEn n = false → exec (.strobeCmd p l) s = .next (replied s t p l (.ok (t.strobeFields n)))) ∧
    (∀ ranks v, Grants s p l .dose false → parseArgs s.compat doseKinds (restToks l) = .ok a →
      ranks = (a.txt "RANKS").bind rankMask → (a.txt "RANKS").isSome = ranks.isSome → t = g.doseStored n a ranks →
      t.regOk (.HEAD_TEMP n) = true → (a.has "RESUME" = true → s.flag (F.HEAD_STATUS_STOPPED n) = true) →
      u = (if a.has "INHIBIT" then t.inhibitWritten n else t) → v = (if a.has "RESUME" then u.resumeWritten n else u) →
      exec (.doseCmd p l) s = .next (replied s v p l (.ok (v.doseFields n)))) ∧
    (Grants s p l .lightgate false → lgStarts l = false → lgAborts l = false → parseArgs s.compat lgKinds (restToks l) = .ok a →
      t = g.lgStored n a → t.regOk (.HEAD_LG n) = true →
      exec (.lightgateCmd p l) s = .next (replied s t p l (.ok (t.lgFields n)))) ∧
    (∀ parked, Grants s p l .lightgate false → restToks l = ["START"] → t = g.setPark n parked → t.lgRefusal n = none →
      (s.head n).lg = none → u = (t.lgQueue n (some (owe p l (headName n)))).evalRa →
      exec (.lightgateStartCmd p l parked) s = .next (replied s u p l .queued)) ∧
    (∀ parked c nm d, Grants s p l .lightgate false → restToks l = ["START"] → t = g.setPark n parked → t.lgRefusal n = some (c, nm, d) →
      exec (.lightgateStartCmd p l parked) s = .next (replied s t p l (.no c nm d))) ∧
    (Grants s p l .lightgate false → restToks l = ["ABORT"] → (s.head n).lg.isSome = true → u = (g.lgAbort n "ABORT").evalRa →
      exec (.lightgateAbortCmd p l) s = .next (replied s u p l (.ok (headName n ++ " ABORT")))) ∧
    (Grants s p l .cal false → calsHead l = true → restToks l = [] → s.flag (F.HEAD_CAL_CAL_PEND n) = false → 0 < s.claims →
      exec (.calHeadCmd p l) s = .next (replied s
        (((g.setFlag (F.HEAD_CAL_CAL n) true).setFlag (F.HEAD_CAL_CAL_PEND n) true).modHead n fun x =>
          { x with calOwed := some (owe p l (headName n)) }) p l .queued)) ∧
    (∀ no, Grants s p l .cal false → calsHead l = true → restToks l = [] → s.flag (F.HEAD_CAL_CAL_PEND n) = false → s.claims = 0 →
      g.calHeadRun n = (t, no) →
      exec (.calHeadCmd p l) s = .next (match no with
        | some d => replied s t p l (.state d)
        | none => replied s t p l (.ok (headName n ++ " VOFS=" ++ vOut t.compat (t.sget (F.HEAD_VOFS_VOFS n) * 2)))))

/-- In RUN, for a head that is there and works: a lock on a DOWN link with AUTO_TRAIN, a retry timer with AUTO_TRAIN and TRAIN
written 1 begin training; the characters of an IDENT frame lead to a PROBE and those of its good ACK to ATTACHING and the first
MEMREQ, or to UP with the identity last attached; a frame that is discarded counts in CRC_UP and does nothing else; a timeout
leads to LOST, or to FAILED with TRAIN_FAIL after RETRY_MAX attempts; a lost lock takes an UP link to LOST with
LINK_LOST; an upstream that goes quiet takes LOST and FAILED to DOWN; RETRIES is cleared after 32,768 ticks UP. What a
head sends is received as it was sent, at either running disparity. (Parts of R321, R322, R323, R327, R328, R329, R330, R331,
R350, R358; the code groups are assumption 73's.) -/
def Obligations.LinkTraining : Prop :=
  ∀ (s : State) (h : Fin 4) (chars : List Nat), s.dev = .run → s.headLive h = true →
    (s.aon.vlvOk = true → s.link h = 0 → s.flag (F.LINE_CTRL_AUTO_TRAIN h) = true →
      ∃ t, exec (.upstreamLock h) s = .next t ∧ t.link h = 1 ∧ t.flag (F.LINE_LSTAT_LOCKUP h) = true ∧ (t.head h).step = .idle ∧
        OnlyRegs [Reg.addr (.LINE_LSTAT h)] s t) ∧
    (s.aon.vlvOk = true → s.link h ≠ 0 →
      ∃ t, exec (.upstreamLock h) s = .next t ∧ t.link h = s.link h ∧ t.flag (F.LINE_LSTAT_LOCKUP h) = true ∧
        OnlyRegs [Reg.addr (.LINE_LSTAT h)] s t) ∧
    (s.link h = 4 ∨ s.link h = 5 →
      ∃ t, exec (.upstreamQuiet h) s = .next t ∧ t.link h = 0 ∧ t.flag (F.LINE_LSTAT_LOCKUP h) = false ∧
        t.bit (F.HEAD_STATUS_UNFIT h) 0 = true) ∧
    (s.link h = 1 → (s.head h).step = .idle → Does (.trainAttemptStart h) s (s.modHead h fun x => { x with step := .sets })) ∧
    (∀ ident, upFrame chars = some (.ident ident) → s.link h = 1 → (s.head h).step = .sets →
      ∃ t bs, exec (.identReceived h chars) s = .next t ∧ (t.head h).step = .probe ∧ (t.head h).ident = ident ∧
        bs.length = 32 ∧ (t.head h).tx = probeFrame bs ∧
        t.flag (F.LINE_LSTAT_LOCK0 h) = true ∧ t.flag (F.LINE_LSTAT_LOCK1 h) = true ∧ OnlyRegs [Reg.addr (.LINE_LSTAT h)] s t) ∧
    (∀ chip, upFrame chars = some (.ack 0 chip) → s.link h = 1 → (s.head h).step = .probe → (s.head h).attached = false →
      ∃ t, exec (.probeAck h chars) s = .next t ∧ t.link h = 2 ∧ (t.head h).step = .memory 0 0 ∧ (t.head h).tx = memreqFrame 0 ∧
        t.flag (F.LINE_LINK_TRAIN h) = false ∧ OnlyRegs [Reg.addr (.LINE_LSTAT h), Reg.addr (.LINE_LINK h)] s t) ∧
    (∀ chip, upFrame chars = some (.ack 0 chip) → s.link h = 1 → (s.head h).step = .probe → (s.head h).attached = true →
      (s.head h).ident = (s.head h).lastIdent →
      ∃ t, exec (.probeAck h chars) s = .next t ∧ t.link h = 3 ∧ (t.head h).verify = some 0 ∧ t.bit (F.HEAD_STATUS_UNFIT h) 2 = true ∧
        Tells s t (48 + h) "LINK_UP") ∧
    (∀ status chip, upFrame chars = some (.ack status chip) → status ≠ 0 → Does (.probeAck h chars) s s) ∧
    (upFrame chars = none → ∀ c, c = .identReceived h chars ∨ c = .probeAck h chars →
      ∃ t, exec c s = .next t ∧ t.get (F.LINE_LSTAT_CRC_UP h) = min 255 (s.get (F.LINE_LSTAT_CRC_UP h) + 1) ∧
        t.link h = s.link h ∧ (t.head h).step = (s.head h).step ∧ OnlyRegs [Reg.addr (.LINE_LSTAT h)] s t) ∧
    (s.link h = 1 → s.get (F.LINE_LSTAT_RETRIES h) + 1 < s.get (F.LINE_CTRL_RETRY_MAX h) →
      ∃ t, exec (.trainTimeout h) s = .next t ∧ t.link h = 4 ∧ t.get (F.LINE_LSTAT_RETRIES h) = s.get (F.LINE_LSTAT_RETRIES h) + 1 ∧
        t.flag (F.LINE_LINK_TRAIN h) = false ∧ (t.head h).retryAt = some (s.ticks + 64) ∧
        OnlyRegs [Reg.addr (.LINE_LSTAT h), Reg.addr (.LINE_LINK h)] s t) ∧
    (s.link h = 1 → s.get (F.LINE_CTRL_RETRY_MAX h) ≤ s.get (F.LINE_LSTAT_RETRIES h) + 1 → s.get (F.LINE_LSTAT_RETRIES h) < 15 →
      ∃ t, exec (.trainTimeout h) s = .next t ∧ t.link h = 5 ∧ (t.head h).retryAt = none ∧ Tells s t (48 + h) "TRAIN_FAIL") ∧
    (s.link h = 3 →
      ∃ t, exec (.linkLockLoss h) s = .next t ∧ t.link h = 4 ∧ t.flag (F.LINE_LSTAT_LOCKUP h) = false ∧ Tells s t (48 + h) "LINK_LOST" ∧
        (t.head h).retryAt = some (s.ticks + 64)) ∧
    (∀ d, (s.head h).retryAt = some d → s.link h = 4 → s.flag (F.LINE_CTRL_AUTO_TRAIN h) = true →
      ∃ t, exec (.linkRetryTimer h) s = .next t ∧ t.link h = 1 ∧ t.ticks = max s.ticks d ∧ OnlyRegs [Reg.addr (.LINE_LSTAT h)] s t) ∧
    (s.flag (F.LINE_CTRL_AUTO_TRAIN h) = false → Does (.linkRetryTimer h) s s) ∧
    (∀ d, (s.head h).upAt = some d → s.link h = 3 →
      ∃ t, exec (.retriesResetTimer h) s = .next t ∧ t.get (F.LINE_LSTAT_RETRIES h) = 0 ∧ t.link h = 3 ∧
        t.ticks = max s.ticks (d + 32768) ∧ OnlyRegs [Reg.addr (.LINE_LSTAT h)] s t) ∧
    (s.link h = 0 ∨ s.link h = 4 ∨ s.link h = 5 →
      ∃ t, exec (.lineTrainRequest h) s = .next t ∧ t.link h = 1 ∧ t.flag (F.LINE_LINK_TRAIN h) = true ∧
        OnlyRegs [Reg.addr (.LINE_LSTAT h), Reg.addr (.LINE_LINK h)] s t) ∧
    (s.link h = 1 ∨ s.link h = 2 ∨ s.link h = 3 → Does (.lineTrainRequest h) s s) ∧
    (∀ (rd : Bool) (id : List Byte), id.length = 16 → upFrame (UpFrame.chars rd (.ident id)) = some (.ident id)) ∧
    (∀ (rd : Bool) (status chip : Nat), status < 16 → chip < 256 →
      upFrame (UpFrame.chars rd (.ack status chip)) = some (.ack status chip))

/-- In RUN, for a head that is there and works: each block of the on-head memory that is asked for is stored and the
next asked for, a bad one up to three times more, after which the attempt fails; the last has the memory judged; the TRIM
frames go out one after the other with the trims in use, the last ACK makes the link UP with ATTACHED, and a frame refused four
times refuses the attach; a memory that passes keeps the limits of R356; trims that read as they should end a scrub request,
others are written again. A MEMBLOCK and a SIDE frame that a head sends are received as sent. (Parts of R323, R326, R331, R355,
R356, R357, R362.) -/
def Obligations.HeadAttach : Prop :=
  ∀ (s : State) (h : Fin 4) (chars : List Nat), s.dev = .run → s.headLive h = true →
    (∀ b k (data : List Byte), upFrame chars = some (.memblock b data) → s.link h = 2 → (s.head h).step = .memory b k → b ≠ 255 →
      ∃ t, exec (.memblockReceived h chars) s = .next t ∧ (t.head h).step = .memory (b + 1) 0 ∧
        (t.head h).memIn = Tab.putList (fun _ => 0#8) (s.head h).memIn (128 * b) data ∧ (t.head h).tx = memreqFrame (b + 1) ∧
        OnlyRegs [] s t) ∧
    (∀ b k, upFrame chars = none → s.link h = 2 → (s.head h).step = .memory b k → k < 3 →
      ∃ t, exec (.memblockReceived h chars) s = .next t ∧ (t.head h).step = .memory b (k + 1) ∧ (t.head h).memIn = (s.head h).memIn ∧
        (t.head h).tx = memreqFrame b ∧ t.get (F.LINE_LSTAT_CRC_UP h) = min 255 (s.get (F.LINE_LSTAT_CRC_UP h) + 1) ∧
        OnlyRegs [Reg.addr (.LINE_LSTAT h)] s t) ∧
    (∀ k (data : List Byte), upFrame chars = some (.memblock 255 data) → s.link h = 2 → (s.head h).step = .memory 255 k →
      Does (.memblockReceived h chars) s
        ((s.modHead h fun x => { x with memIn := Tab.putList (fun _ => 0#8) x.memIn 32640 data }).attachCheck h)) ∧
    (∀ b k, s.link h = 2 → (s.head h).step = .memory b k → k < 3 →
      ∃ t, exec (.memblockTimeout h) s = .next t ∧ (t.head h).step = .memory b (k + 1) ∧ (t.head h).tx = memreqFrame b ∧
        OnlyRegs [] s t) ∧
    (∀ b k, s.link h = 2 → (s.head h).step = .memory b k → 3 ≤ k →
      ∃ t, exec (.memblockTimeout h) s = .next t ∧ (t.head h).step = .idle ∧ (t.link h = 4 ∨ t.link h = 5) ∧
        t.get (F.LINE_LSTAT_RETRIES h) = min 15 (s.get (F.LINE_LSTAT_RETRIES h) + 1)) ∧
    (∀ c k, upFrame chars = some (.ack 0 c) → s.link h = 2 → (s.head h).step = .trims c k → c + 1 < 248 →
      ∃ t, exec (.trimAck h chars) s = .next t ∧ (t.head h).step = .trims (c + 1) 0 ∧
        (t.head h).tx = trimFrame (c + 1) ((List.range 128).map fun i => s.trimInUse h (128 * (c + 1) + i)) ∧ OnlyRegs [] s t) ∧
    (∀ k, upFrame chars = some (.ack 0 247) → s.link h = 2 → (s.head h).step = .trims 247 k →
      ∃ t, exec (.trimAck h chars) s = .next t ∧ t.link h = 3 ∧ (t.head h).attached = true ∧ (t.head h).lastIdent = (s.head h).ident ∧
        (t.head h).dead = [] ∧ Tells s t (48 + h) "LINK_UP" ∧ Tells s t (52 + h) "ATTACHED") ∧
    (∀ c k, s.link h = 2 → (s.head h).step = .trims c k → k < 3 →
      ∃ t, exec (.trimAckTimeout h) s = .next t ∧ (t.head h).step = .trims c (k + 1) ∧
        (t.head h).tx = trimFrame c ((List.range 128).map fun i => s.trimInUse h (128 * c + i)) ∧ OnlyRegs [] s t) ∧
    (∀ c k, s.link h = 2 → (s.head h).step = .trims c k → 3 ≤ k →
      ∃ t, exec (.trimAckTimeout h) s = .next t ∧ t.link h = 5 ∧ t.bit (F.HEAD_STATUS_UNFIT h) 1 = true ∧
        Tells s t (52 + h) "ATTACH_REFUSED") ∧
    (∀ m, s.attachRefusal h m = none → memByte m 12 = 1 ∧ s.bit (F.HEAD_RANK_RANK_MASK h) (memByte m 13) = true ∧
      400 ≤ memWord m 16 ∧ memWord m 16 ≤ 16000 ∧ 400 ≤ memWord m 20 ∧ memWord m 20 ≤ 5600) ∧
    (∀ r (d : Side), upFrame chars = some (.side d) → s.link h = 3 → (s.head h).side = some r → r.out = true → r.write = false →
      r.why = .scrub → d.op = 1 → d.chip = r.chip → d.idx = r.idx → (s.head h).reread = [] → d.data = s.fourTrims h r.chip r.idx →
      ∃ t, exec (.sideReplyReceived h chars) s = .next t ∧ (t.head h).side = none ∧ OnlyRegs raRegs s t) ∧
    (∀ r (d : Side), upFrame chars = some (.side d) → s.link h = 3 → (s.head h).side = some r → r.out = true → r.write = false →
      r.why = .scrub → d.op = 1 → d.chip = r.chip → d.idx = r.idx → (s.head h).trimQ = [] → d.data ≠ s.fourTrims h r.chip r.idx →
      ∃ t, exec (.sideReplyReceived h chars) s = .next t ∧
        (t.head h).side = some { r with write := true, data := s.fourTrims h r.chip r.idx, again := false, out := !s.framesRun h } ∧
        OnlyRegs raRegs s t) ∧
    (∀ (rd : Bool) (b : Nat) (data : List Byte), b < 256 → data.length = 128 →
      upFrame (UpFrame.chars rd (.memblock b data)) = some (.memblock b data)) ∧
    (∀ (rd : Bool) (op chip idx a b c d : Nat), op < 8 → chip < 256 → idx < 32 → a < 64 → b < 64 → c < 64 → d < 64 →
      upFrame (UpFrame.chars rd (.side { op, chip, idx, data := [a, b, c, d] })) = some (.side { op, chip, idx, data := [a, b, c, d] }))

/-- In RUN, for a head that is there and works: a count moves POS by one in the sense that DIR gives it, a forward count at HWM
moves HWM too and a backward count with line timing waits for HWM again, an illegal transition is counted and moves nothing, an
index stores POS in ZPOS; a line whose frame was not committed 2.0 µs before its pulse is dropped and counted, one committed is
placed, later by what the 60.2 µs ask for where L_pred allows it and dropped with OVERSPEED where it does not, and one
due while exposure stands inhibited is counted as INHIBITED; the further pulses of a line are given in order. (Parts of R333,
R336, R337, R339, R343, R378.) -/
def Obligations.EncoderAndPulses : Prop :=
  ∀ (s : State) (h : Fin 4) (τ : Nat), s.dev = .run → s.headLive h = true →
    (s.aon.vioOk = true → -1000000000 < s.sget (F.LINE_POS_POS h) → s.sget (F.LINE_POS_POS h) < 1000000000 →
      ∀ mv, mv = .forward ∨ mv = .backward →
        ∃ t, exec (.encCount h mv τ) s = .next t ∧
          t.sget (F.LINE_POS_POS h) = s.sget (F.LINE_POS_POS h) +
            (if s.flag (F.LINE_CTRL_DIR h) = decide (mv = .backward) then 1 else -1) ∧
          (s.flag (F.LINE_CTRL_DIR h) = decide (mv = .backward) → (s.head h).exc = none →
            t.sget (F.LINE_HWM_HWM h) = max (s.sget (F.LINE_HWM_HWM h)) (s.sget (F.LINE_POS_POS h) + 1)) ∧
          (s.flag (F.LINE_CTRL_DIR h) ≠ decide (mv = .backward) → t.get (F.LINE_HWM_HWM h) = s.get (F.LINE_HWM_HWM h) ∧
            (s.lineEn h = true → t.flag (F.LINE_STAT_WAIT_HWM h) = true ∧ (t.head h).exc.isSome = true))) ∧
    (s.aon.vioOk = true →
      ∃ t, exec (.encCount h .illegal τ) s = .next t ∧ t.get (F.LINE_POS_POS h) = s.get (F.LINE_POS_POS h) ∧
        t.get (F.LINE_STAT_ILLEGAL h) = min 255 (s.get (F.LINE_STAT_ILLEGAL h) + 1) ∧ OnlyRegs (Reg.addr (.LINE_STAT h) :: raRegs) s t) ∧
    (s.aon.vioOk = true →
      ∃ t, exec (.encIndex h) s = .next t ∧ t.get (F.LINE_ZPOS_ZPOS h) = s.get (F.LINE_POS_POS h) ∧
        OnlyRegs [Reg.addr (.LINE_ZPOS h)] s t) ∧
    (∀ x, (s.head h).fixed.find? (fun y => y.group == 0) = some x → s.flag (F.HEAD_STATUS_STOPPED h) = false → s.link h = 3 →
      (s.head h).lastGo = none → (∀ c, (s.head h).committed = some c → c.1 ≠ x.line ∨ x.t < c.2 + 4000) →
      ∃ t, exec (.lineGoRise h τ) s = .next t ∧ t.get (F.LINE_CNT_DROPPED h) = min 255 (s.get (F.LINE_CNT_DROPPED h) + 1) ∧
        (∀ y ∈ (t.head h).fixed, y.line ≠ x.line) ∧ OnlyRegs [Reg.addr (.LINE_CNT h)] s t) ∧
    (∀ x u, (s.head h).fixed.find? (fun y => y.group == 0) = some x → s.flag (F.HEAD_STATUS_STOPPED h) = false → s.link h = 3 →
      (s.head h).lastGo = none → (s.head h).committed = some (x.line, u) → u + 4000 ≤ x.t →
      Does (.lineGoRise h τ) s (s.placeLine h x.line (max τ x.t) 0).evalRa) ∧
    (∀ x u g due, (s.head h).fixed.find? (fun y => y.group == 0) = some x → s.flag (F.HEAD_STATUS_STOPPED h) = false → s.link h = 3 →
      (s.head h).lastGo = some g → due = max x.t (g + 120400) → 8 * (due - x.t) ≤ (s.lPred h).getD 0 →
      (s.head h).committed = some (x.line, u) → u + 4000 ≤ due → (s.head h).accepted.contains (x.line % 65536) = true →
      ∃ t, exec (.lineGoRise h τ) s = .next t ∧ (t.head h).lastGo = some (max τ due) ∧ (t.head h).cur = some (x.line, due - x.t) ∧
        (t.head h).go = .group0 ∧ t.get (F.LINE_LINE_LINE h) = x.line % 2 ^ (F.LINE_LINE_LINE h).width) ∧
    (∀ x g, (s.head h).fixed.find? (fun y => y.group == 0) = some x → s.flag (F.HEAD_STATUS_STOPPED h) = false → s.link h = 3 →
      (s.head h).lastGo = some g → (s.lPred h).getD 0 < 8 * (g + 120400 - x.t) →
      ∃ t, exec (.lineGoRise h τ) s = .next t ∧ t.get (F.LINE_CNT_DROPPED h) = min 255 (s.get (F.LINE_CNT_DROPPED h) + 1) ∧
        Tells s t (48 + h) "OVERSPEED" ∧ OnlyRegs [Reg.addr (.LINE_CNT h)] s t) ∧
    (∀ x, (s.head h).fixed.find? (fun y => y.group == 0) = some x → s.flag (F.HEAD_STATUS_STOPPED h) = true →
      s.flag (F.HEAD_CTRL_INHIBIT h) = true → s.link h = 3 →
      ∃ t, exec (.lineGoRise h τ) s = .next t ∧ t.get (F.LINE_CNT_INHIBITED h) = min 255 (s.get (F.LINE_CNT_INHIBITED h) + 1) ∧
        OnlyRegs (Reg.addr (.LINE_CNT h) :: raRegs) s t) ∧
    (∀ k d x rest, (s.head h).cur = some (k, d) → (s.head h).fixed = x :: rest → x.line = k → s.link h = 3 →
      ∃ t, exec (.groupPulseRise h) s = .next t ∧ (t.head h).fixed = rest ∧ (t.head h).go = .later ∧ OnlyRegs [] s t) ∧
    ((s.head h).cur = none → Does (.pulseFall h) s (s.modHead h fun x => { x with go := .low })) ∧
    (∀ k d, (s.head h).cur = some (k, d) → (∀ y ∈ (s.head h).fixed, y.line ≠ k) → (s.head h).next.1 ≠ k →
      ∃ t, exec (.pulseFall h) s = .next t ∧ (t.head h).cur = none ∧ (t.head h).go = .low)

/-- In RUN with the link UP: a frame that is discarded counts in CRC_UP and as a report missed, and a report that comes while
none is expected as one missed; one that is expected, in time, is accepted and the widths of its line stand ready; at DUE
without one the line falls back, FB_RUN counts it, and the first of a run raises FALLBACK and ANT_FALLBACK; a gap in the
numbering has a NUMBER_ONLY frame sent, else the frame of the next line goes out once its widths are ready and while it can be
committed in time; a committed frame fixes its line and time. A width stays within its limits, a LINE frame has 400 bytes with
its TYPE and LINE in front, and a REPORT that a head sends is received as sent. (Parts of R289, R290, R323, R324, R325, R342,
R343, R344, R365, R371.) -/
def Obligations.ReportsAndFrames : Prop :=
  ∀ (s : State) (h : Fin 4) (τ : Nat) (chars : List Nat) (rep : Report), s.dev = .run → s.headLive h = true → s.link h = 3 →
    (upFrame chars = none →
      ∃ t, exec (.reportReceived h chars τ) s = .next t ∧ t.get (F.LINE_LSTAT_CRC_UP h) = min 255 (s.get (F.LINE_LSTAT_CRC_UP h) + 1) ∧
        t.get (F.LINE_CNT_REPORT_MISS h) = min 255 (s.get (F.LINE_CNT_REPORT_MISS h) + 1) ∧ (t.head h).accepted = (s.head h).accepted ∧
        OnlyRegs [Reg.addr (.LINE_LSTAT h), Reg.addr (.LINE_CNT h)] s t) ∧
    (upFrame chars = some (.report rep) → s.lgRunning h = false → (s.head h).expected = none →
      ∃ t, exec (.reportReceived h chars τ) s = .next t ∧
        t.get (F.LINE_CNT_REPORT_MISS h) = min 255 (s.get (F.LINE_CNT_REPORT_MISS h) + 1) ∧ OnlyRegs [Reg.addr (.LINE_CNT h)] s t) ∧
    (∀ n, upFrame chars = some (.report rep) → s.lgRunning h = false → (s.head h).expected = some n → s.lineEn h = true →
      s.reportOk h n rep τ = true → rep.frameBad = false → rep.echoMismatch = false →
      ∃ t, exec (.reportReceived h chars τ) s = .next t ∧ (t.head h).accepted = (n % 65536 :: (s.head h).accepted).take 4 ∧
        (t.head h).ready n = true ∧ t.get (F.LINE_CNT_REPORT_MISS h) = s.get (F.LINE_CNT_REPORT_MISS h)) ∧
    (∀ n, n = (s.head h).dueLine → s.lineEn h = true → (s.head h).ready n = false →
      ∃ t, exec (.reportDue h) s = .next t ∧ (t.head h).ready n = true ∧ t.get (F.HEAD_CNT_FB_RUN h) = min 65535 (s.get (F.HEAD_CNT_FB_RUN h) + 1) ∧
        (s.get (F.HEAD_CNT_FB_RUN h) = 0 → Tells s t (52 + h) "FALLBACK") ∧
        ((s.rail h).antLines = 0 → Tells s t h "ANT_FALLBACK")) ∧
    (s.lineEn h = true → (s.head h).frame = none → (s.head h).sent ≠ some ((s.head h).nextLine % 65536) →
      (s.head h).sent ≠ some (((s.head h).nextLine + 65535) % 65536) →
      ∃ t, exec (.frameSendStart h τ) s = .next t ∧ (t.head h).frame = some (((s.head h).nextLine + 65535) % 65536, true) ∧
        (t.head h).tx.length = 400 ∧ OnlyRegs [] s t) ∧
    (∀ w, s.lineEn h = true → (s.head h).frame = none → (s.head h).sent = some (((s.head h).nextLine + 65535) % 65536) →
      (s.head h).widths = some w → w.line = (s.head h).nextLine → (s.head h).tooLate w.line τ = false →
      ∃ t, exec (.frameSendStart h τ) s = .next t ∧ (t.head h).frame = some ((s.head h).nextLine, false) ∧
        t.flag (F.HEAD_STATUS_FALLBACK h) = w.fb ∧ (t.head h).tx.length = 400 ∧ OnlyRegs [Reg.addr (.HEAD_STATUS h)] s t) ∧
    ((s.head h).sent = some ((s.head h).nextLine % 65536) → Does (.frameSendStart h τ) s s) ∧
    (∀ k number, (s.head h).frame = some (k, number) →
      ∃ t, exec (.frameCommitted h τ) s = .next t ∧ (t.head h).frame = none ∧ (t.head h).sent = some (k % 65536) ∧
        (t.head h).committed = (if number then (s.head h).committed else some (k, τ)) ∧ OnlyRegs [] s t) ∧
    (∀ (c lim : Nat) (ft fv : Int), s.widthOf h c ft fv lim ≤ lim ∧
      (s.get (F.HEAD_CTRL_W_MIN h) ≤ lim → s.get (F.HEAD_CTRL_W_MIN h) ≤ s.widthOf h c ft fv lim)) ∧
    (∀ f : LineFrame, ∃ body, crcChecked f.bytes = some body ∧ body.length = 398 ∧ fieldAt (ofBytes body) 3184 0 4 = 1 ∧
      fieldAt (ofBytes body) 3184 4 16 = f.line % 65536 ∧ fieldAt (ofBytes body) 3184 20 2 = f.ngrp % 4) ∧
    (∀ rd : Bool, rep.line < 65536 → rep.lits.length = 4 → (∀ n ∈ rep.lits, n < 32768) → rep.tseg.length = 8 →
      (∀ n ∈ rep.tseg, n < 1024) → rep.vhead < 4096 → rep.side.op < 8 → rep.side.chip < 256 → rep.side.idx < 32 →
      rep.side.data.length = 4 → (∀ n ∈ rep.side.data, n < 64) → upFrame (UpFrame.chars rd (.report rep)) = some (.report rep))

/-- In RUN, for a head that is there and works: the scrub of the mirror counts a corrected word, and an uncorrectable
one makes the head unfit for TRIM, counted and raised once, and its last word completes the job; the scrub of the trims asks for
the next four; a sample of CAL_HEADSNS moves VOFS by a quarter of the difference and completes its job; CAL written 1
waits while a sheet is claimed, else runs; RESUME written 1 counts while exposure stands stopped and does nothing otherwise.
Freight waits while lines wait for a grant. (Parts of R83, R88, R361, R362, R374, R377, R386.) -/
def Obligations.HeadUpkeep : Prop :=
  ∀ (s : State) (h : Fin 4), s.dev = .run → s.headLive h = true →
    (∀ k, s.lineWaits = false → (s.head h).attached = true → s.lgRunning h = false → k < 3967 →
      ∃ t, exec (.scrubMirrorWord h k .single) s = .next t ∧
        t.get (F.HEAD_CNT_ECC_CORR h) = min 255 (s.get (F.HEAD_CNT_ECC_CORR h) + 1) ∧ OnlyRegs (Reg.addr (.HEAD_CNT h) :: raRegs) s t) ∧
    (∀ k, s.lineWaits = false → (s.head h).attached = true → s.lgRunning h = false → k < 3967 → (s.head h).bad.contains k = false →
      ∃ t, exec (.scrubMirrorWord h k .double) s = .next t ∧ (t.head h).bad = (s.head h).bad ++ [k] ∧
        t.bit (F.HEAD_STATUS_UNFIT h) 6 = true ∧ Tells s t (52 + h) "ECC_UNCORR" ∧
        t.get (F.HEAD_CNT2_ECC_UNCORR h) = min 255 (s.get (F.HEAD_CNT2_ECC_UNCORR h) + 1)) ∧
    (∀ d, s.lineWaits = false → (s.head h).attached = true → s.lgRunning h = false → (s.job 1 h).since = some d →
      (s.job 1 h).paused = none →
      ∃ t, exec (.scrubMirrorWord h 3967 .clean) s = .next t ∧ (t.job 1 h).last = some (s.ticks, s.ticks - d) ∧
        OnlyRegs raRegs s t) ∧
    (s.lineWaits = false → s.link h = 3 → (s.head h).cur = none → s.lgRunning h = false → (s.head h).side = none →
      (s.head h).verify = none → (s.head h).bad = [] → (s.head h).scrubAt < 7935 →
      ∃ t, exec (.scrubTrimRequest h) s = .next t ∧ (t.head h).scrubAt = (s.head h).scrubAt + 1 ∧
        (t.head h).side = some { write := false, chip := (s.head h).scrubAt / 32, idx := (s.head h).scrubAt % 32, why := .scrub,
                                 out := !s.framesRun h } ∧ OnlyRegs [] s t) ∧
    (∀ (v : Nat) (d : Int), s.lineWaits = false → s.link h = 3 → (s.head h).cur = none →
      d = s.sget (F.HEAD_VOFS_VOFS h) +
        roundDiv ((v : Int) * 20000 - s.vRefU h - s.sget (F.HEAD_VOFS_VOFS h) * 20000) 80000 → -50 ≤ d → d ≤ 50 →
      ∃ t, exec (.calHeadsnsSample h v) s = .next t ∧ t.sget (F.HEAD_VOFS_VOFS h) = d ∧ t.flag (F.HEAD_VOFS_VHEAD_BAD h) = false ∧
        (∀ b, (s.job 5 h).since = some b → (s.job 5 h).paused = none → (t.job 5 h).last = some (s.ticks, s.ticks - b)) ∧
        OnlyRegs [Reg.addr (.HEAD_VOFS h)] s t) ∧
    (s.flag (F.HEAD_CAL_CAL_PEND h) = false → 0 < s.claims →
      ∃ t, exec (.headCalRequest h) s = .next t ∧ t.flag (F.HEAD_CAL_CAL_PEND h) = true ∧ t.flag (F.HEAD_CAL_CAL h) = true ∧
        OnlyRegs [Reg.addr (.HEAD_CAL h)] s t) ∧
    (s.flag (F.HEAD_CAL_CAL_PEND h) = false → s.claims = 0 → Does (.headCalRequest h) s (s.calHeadRun h).1) ∧
    (s.flag (F.HEAD_STATUS_STOPPED h) = true →
      ∃ t, exec (.headResumeRequest h) s = .next t ∧ t.flag (F.HEAD_CTRL_RESUME h) = true ∧ (t.head h).resume = true ∧
        OnlyRegs [Reg.addr (.HEAD_CTRL h)] s t) ∧
    (s.flag (F.HEAD_STATUS_STOPPED h) = false → Does (.headResumeRequest h) s s) ∧
    (s.lineWaits = true → s.core.passRun < 7 → ∀ (k v : Nat) (e : EccFinding), Does (.scrubMirrorWord h k e) s s ∧
      Does (.scrubTrimRequest h) s s ∧ Does (.calHeadsnsSample h v) s s)

/-- In RUN, for a head that is there and works: START that is not refused queues a run and makes the head unfit for
LIGHTGATE; a queued run starts at CLAIMS 0 and sets the dead list aside; each good test line gives the response of its
emitter, a missing, bad or dark one is run once more and a second aborts the run; the end of the run stores the first 64 failures
found and raises LG_DONE, with LG_UNFIT above DEAD_MAX; ABORT and a head that leaves its park position end a run with
LG_ABORT. (Parts of R379, R380, R381, R384, R385, R386.) -/
def Obligations.LightGate : Prop :=
  ∀ (s : State) (h : Fin 4) (parked : Bool) (chars : List Nat) (rep : Report), s.dev = .run → s.headLive h = true →
    ((s.head h).lg = none → (s.setPark h true).lgRefusal h = none →
      ∃ t, exec (.headLgStart h true) s = .next t ∧ (t.head h).lg.isSome = true ∧ t.get (F.HEAD_LGSTAT_STATE h) = 1 ∧
        t.flag (F.HEAD_LGSTAT_PARKED h) = true ∧ t.bit (F.HEAD_STATUS_UNFIT h) 5 = true) ∧
    (∀ x, (s.head h).lg = some x →
      ∃ t, exec (.headLgAbort h) s = .next t ∧ (t.head h).lg = none ∧ t.get (F.HEAD_LGSTAT_STATE h) = 4 ∧
        Tells s t (52 + h) "LG_ABORT") ∧
    (s.lgRunning h = true →
      ∃ t, exec (.hparkFall h) s = .next t ∧ (t.head h).lg = none ∧ t.flag (F.HEAD_LGSTAT_PARKED h) = false ∧ Tells s t (52 + h) "LG_ABORT") ∧
    (s.lgRunning h = false → Does (.hparkFall h) s (s.setPark h false)) ∧
    (∀ x, (s.head h).lg = some x → x.running = false → s.claims = 0 → (s.setPark h parked).lgRefusal h = none →
      ∃ t y, exec (.lgRunStart h parked) s = .next t ∧ (t.head h).lg = some y ∧ y.running = true ∧ (t.head h).deadSaved = (s.head h).dead ∧
        (t.head h).dead = [] ∧ t.get (F.HEAD_LGSTAT_STATE h) = 2 ∧ t.get (F.HEAD_LGSTAT_EMITTER h) = 0 ∧
        OnlyRegs [Reg.addr (.HEAD_LGSTAT h)] s t) ∧
    (∀ x, (s.head h).lg = some x → 0 < s.claims → Does (.lgRunStart h parked) s (s.setPark h parked)) ∧
    (∀ x lit dark, (s.head h).lg = some x → x.running = true → x.j < emitters → x.resps.length < 127 →
      upFrame chars = some (.report rep) → rep.line = x.j % 65536 → rep.lits.headD 0 = 1 → (∀ c ∈ rep.tseg, c = 1023) →
      ∃ t y, exec (.lgTestLine h dark lit (some chars)) s = .next t ∧ (t.head h).lg = some y ∧ y.j = x.j + 1 ∧ y.again = false ∧
        y.resps = ((lit : Int) - dark) :: x.resps ∧ (t.head h).tx.length = 400 ∧ OnlyRegs [Reg.addr (.HEAD_LGSTAT h)] s t) ∧
    (∀ x lit dark, (s.head h).lg = some x → x.running = true → x.j < emitters → x.again = false →
      ∃ t, exec (.lgTestLine h dark lit none) s = .next t ∧ (t.head h).lg = some { x with again := true } ∧ OnlyRegs [] s t) ∧
    (∀ x lit dark, (s.head h).lg = some x → x.running = true → x.j < emitters → x.again = false → upFrame chars = none →
      ∃ t, exec (.lgTestLine h dark lit (some chars)) s = .next t ∧ (t.head h).lg = some { x with again := true } ∧
        t.get (F.LINE_LSTAT_CRC_UP h) = min 255 (s.get (F.LINE_LSTAT_CRC_UP h) + 1) ∧ OnlyRegs [Reg.addr (.LINE_LSTAT h)] s t) ∧
    (∀ x lit dark, (s.head h).lg = some x → x.running = true → x.j < emitters → x.again = true →
      ∃ t, exec (.lgTestLine h dark lit none) s = .next t ∧ (t.head h).lg = none ∧ Tells s t (52 + h) "LG_ABORT") ∧
    (∀ x, (s.head h).lg = some x → x.running = true → emitters ≤ x.j →
      ∃ t, exec (.lgRunDone h) s = .next t ∧ (t.head h).lg = none ∧ t.get (F.HEAD_LGSTAT_STATE h) = 3 ∧
        (t.head h).dead = x.found.take 64 ∧ Tells s t (52 + h) "LG_DONE" ∧
        (s.get (F.HEAD_LG_DEAD_MAX h) < x.found.length → Tells s t (52 + h) "LG_UNFIT"))

/-- A grant latches its source, counts and records the cause with its class and stamp, writes FAULT_LAST, and
FAULT_FIRST where that is empty and the class CAUTION or higher, and asserts FLT_N; a BUFFER-STOP grant stops the
device, and later grants are recorded only. A clear empties a source that is not PRESENT and leaves COUNT 1 on one
that is. RELEASE ends the hold of FLT_N under LATCH, at the end of MIN where that runs. A fall of SIGNAL_N in RUN is
counted, raises FALL and starts TT4; it stuck low raises STUCK_LOW, and its rise RELEASED. (Parts of R186, R397, R398,
R400, R401, R404, R406, R408, R411.) -/
def Obligations.GrantsAndLines : Prop :=
  ∀ s : State,
    (s.flt.causes = [] → Does .causeGrant s s) ∧
    (∀ c, s.nextCause = some c → c.src < 64 → c.no < 32 →
      ∃ t, exec .causeGrant s = .next t ∧ t.flt.grants = s.flt.grants + 1 ∧ t.latched c.src = true ∧
        t.srcRec c.src = { count := min 255 ((s.srcRec c.src).count + 1), last := c.no, lclass := s.effClass c, tick := s.stamp,
                           first := if (s.srcRec c.src).count = 0 then c.no else (s.srcRec c.src).first } ∧
        t.get F.FAULT_LAST_SRC = c.src ∧ t.get F.FAULT_LAST_CAUSE = c.no ∧ t.get F.FAULT_LAST_CLASS = s.effClass c ∧
        t.get F.FAULT_LAST_T_TICK = s.stamp ∧
        (1 ≤ s.effClass c → s.flag F.FAULT_FIRST_VALID = false →
          t.flag F.FAULT_FIRST_VALID = true ∧ t.get F.FAULT_FIRST_SRC = c.src ∧ t.get F.FAULT_FIRST_CAUSE = c.no ∧
            t.get F.FAULT_FIRST_CLASS = s.effClass c ∧ t.get F.FAULT_FIRST_T_TICK = s.stamp) ∧
        (s.effClass c = 0 ∨ s.flag F.FAULT_FIRST_VALID = true →
          t.word (Reg.addr .FAULT_FIRST) = s.word (Reg.addr .FAULT_FIRST) ∧
            t.word (Reg.addr .FAULT_FIRST_T) = s.word (Reg.addr .FAULT_FIRST_T)) ∧
        (1 ≤ s.effClass c → c.kind ≠ .logOnly → s.dev ≠ .bufferStop → t.flt.fltMin = true ∧ t.flt.fltHeld = true) ∧
        (s.effClass c = 3 → s.dev ≠ .bufferStop → t.dev = .bufferStop ∧ t.claims = 0 ∧ t.mode = 0 ∧ t.tt.run = none ∧
          t.sigPull = false ∧ ∀ n : Nat, n < s.part.phases → (t.ph n).tri = true) ∧
        (s.effClass c = 3 → s.dev ≠ .bufferStop → t.core.vcore = 900 ∧ t.core.stby = false) ∧
        (s.dev = .bufferStop → t.dev = .bufferStop ∧ t.flt.logQ = s.flt.logQ ∧ t.tt = s.tt)) ∧
    (∀ e : Fin 64, s.dev = .run → sourceAbsent s.part e = false → s.latched e = true → s.srcPresent e = false →
      ∃ t, exec (.faultLatchClear e) s = .next t ∧ t.latched e = false ∧ (t.srcRec e).count = 0 ∧ (t.srcRec e).first = 0 ∧
        (t.srcRec e).last = 0 ∧ OnlyRegs [Reg.addr .FAULT_LAT_LO, Reg.addr .FAULT_LAT_HI] s t) ∧
    (∀ e : Fin 64, s.dev = .run → sourceAbsent s.part e = false → s.latched e = true → s.srcPresent e = true →
      ∃ t, exec (.faultLatchClear e) s = .next t ∧ t.latched e = true ∧ (t.srcRec e).count = 1 ∧ OnlyRegs [] s t) ∧
    (∃ t, exec .fltMinExpiry s = .next t ∧ t.flt.fltMin = false ∧ t.flt.fltRel = false ∧
      t.flt.fltHeld = (s.flt.fltHeld && !s.flt.fltRel) ∧ OnlyRegs [] s t) ∧
    (s.dev = .run → s.get F.FLT_CTRL_MODE = 1 →
      (s.flt.fltMin = false → ∃ t, exec .fltReleaseWrite s = .next t ∧ t.flt.fltHeld = false ∧ OnlyRegs [] s t) ∧
      (s.flt.fltMin = true →
        ∃ t, exec .fltReleaseWrite s = .next t ∧ t.flt.fltRel = true ∧ t.flt.fltHeld = s.flt.fltHeld ∧ OnlyRegs [] s t)) ∧
    (s.get F.FLT_CTRL_MODE ≠ 1 → Does .fltReleaseWrite s s) ∧
    (∀ m : Fin 4, ∃ t, exec (.evtPulseEnd m) s = .next t ∧ bitAt t.flt.evtPulse m = false ∧
      (∀ k : Nat, k ≠ m → bitAt t.flt.evtPulse k = bitAt s.flt.evtPulse k) ∧ OnlyRegs [] s t) ∧
    (s.dev = .run → s.sigPull = false →
      ∃ t, exec .signalFall s = .next t ∧ t.get F.SIG_STAT_FALLS = min 255 (s.get F.SIG_STAT_FALLS + 1) ∧ Tells s t 59 "FALL" ∧
        t.flt.stuckAt = some (s.ticks + 2 ^ s.get F.SIG_CTRL_STUCK_K) ∧
        (s.ttValid 4 = true → s.failed 2 = false → s.ttRuns 4 = false → t.ttRuns 4 = true)) ∧
    (s.dev ≠ .run ∨ s.sigPull = true → Does .signalFall s { s with flt := { s.flt with sigHigh := false } }) ∧
    (∀ d, s.dev = .run → s.flt.stuckAt = some d →
      ∃ t, exec .signalStuckLow s = .next t ∧ t.flag F.SIG_STAT_STUCK = true ∧ Tells s t 59 "STUCK_LOW" ∧ t.ticks = max s.ticks d ∧
        OnlyRegs [Reg.addr .SIG_STAT] s t) ∧
    (s.dev = .run → s.flt.sigFallen = true →
      ∃ t, exec .signalRise s = .next t ∧ t.flag F.SIG_STAT_STUCK = false ∧ Tells s t 59 "RELEASED" ∧ t.flt.stuckAt = none ∧
        t.sigLevel = !s.sigPull ∧ OnlyRegs [Reg.addr .SIG_STAT] s t)

/-- Granted, with arguments that its rule accepts: ROUTE stores the routing of its source and nothing else, CLEAR EVn
clears one source, CLEAR FAULT every source and FAULT_FIRST, FLT sets FLT_N, and each is answered as its rule says;
RELEASE outside LATCH is refused and stores nothing. (Parts of R400, R408, R418, R420, R421.) -/
def Obligations.FaultVerbs : Prop :=
  ∀ (s g t u : State) (p : PortId) (l : Line) (a : Args) (e : Nat), g = granted s →
    (∀ evt pc tt tc aff, Grants s p l .route false → objEv s.part l = .ok e →
      nonAbsent (restToks l) "AFFECT" (absentRail s.part) = .ok () → parseArgs s.compat routeKinds (restToks l) = .ok a →
      rawArg a "EVT" evtList = .ok evt → rawArg a "PCAUSE" (causeArg e "ALL") = .ok pc → rawArg a "START" startArg = .ok tt →
      rawArg a "STARTCAUSE" (causeArg e "ANY") = .ok tc → rawArg a "AFFECT" railMask = .ok aff →
      t = g.routeStored e a evt pc tt tc aff → exec (.routeCmd p l) s = .next (replied s t p l (.ok (t.routeFields e)))) ∧
    (Grants s p l .clear false → clearsFault l = false → objEv s.part l = .ok e → restToks l = [] → t = g.clearSource e →
      exec (.clearCmd p l) s = .next (replied s t p l
        (.ok (evName e ++ " " ++ fieldsOut [("LATCHED", bitOut (t.latched e)), ("COUNT", dec (t.srcRec e).count)])))) ∧
    (Grants s p l .clear false → clearsFault l = true → restToks l = [] →
      ∃ v, exec (.clearFaultCmd p l) s = .next (replied s v p l (.ok ("FAULT LATCHED=" ++ v.srcList v.latched))) ∧
        v.word (Reg.addr .FAULT_FIRST) = 0#32 ∧ v.word (Reg.addr .FAULT_FIRST_T) = 0#32 ∧
        (∀ k : Nat, k < 64 → v.latched k = (s.latched k && s.srcPresent k)) ∧
        OnlyRegs [Reg.addr .FAULT_LAT_LO, Reg.addr .FAULT_LAT_HI, Reg.addr .FAULT_FIRST, Reg.addr .FAULT_FIRST_T] s v) ∧
    (Grants s p l .flt false → parseArgs s.compat fltKinds l.toks = .ok a → t = g.fltStored a →
      (a.has "RELEASE" = true → t.get F.FLT_CTRL_MODE = 1) → u = (if a.has "RELEASE" then t.fltRelease else t) →
      exec (.fltCmd p l) s = .next (replied s u p l (.ok (fieldsOut u.fltFields)))) ∧
    (Grants s p l .flt false → parseArgs s.compat fltKinds l.toks = .ok a → a.has "RELEASE" = true →
      (g.fltStored a).get F.FLT_CTRL_MODE ≠ 1 → exec (.fltCmd p l) s = .next (replied s g p l (.state "MODE"))) ∧
    (∀ (k : Fin 64) (j : Nat), t = s.routeStored k a (some 5) none (some 3) none none →
      a.nat "NOTIFY" = none → a.nat "LOG" = some 1 → a.nat "FLT" = none → a.nat "PROMOTE" = some 2 →
      t.get (F.ROUTE_EVT k) = 5 ∧ t.flag (F.ROUTE_LOG k) = true ∧ t.get (F.ROUTE_PROMOTE k) = 2 ∧ t.flag (F.ROUTE_TT_EN k) = true ∧
        t.get (F.ROUTE_TT k) = 3 ∧ t.flag (F.ROUTE_NOTIFY k) = s.flag (F.ROUTE_NOTIFY k) ∧
        t.get (F.ROUTE_AFFECT k) = s.get (F.ROUTE_AFFECT k) ∧ (j ≠ Reg.addr (.ROUTE k) → t.word j = s.word j))

/-- Granted: START of a valid timetable requests it and is answered OK, or QUEUED where another runs, TT4 starting at once
and its line completed by !DONE then; one refused while TT4 runs or with BP2 failed raises its event all the same, and
one that is not valid is answered 26 DATA INVALID. With BP2 in order, STOP abandons the timetable that runs, and never
TT4; LOAD opens its staging, stores the words given at their places, and END commits an image that is whole, bears its
CRC and keeps the step rules; ABORT discards the staging and ERASE commits an empty image. (Parts of R204, R207, R231,
R232, R233, R455.) -/
def Obligations.TimetableVerbs : Prop :=
  ∀ (s g t : State) (p : PortId) (l : Line) (a : Args) (n : Nat), g = granted s → objTt l = .ok n →
    (Grants s p l .start false → restToks l = [] → s.failed 2 = true →
      exec (.startCmd p l) s = .next (replied s (g.raiseTt "START_FAILED" (some n)) p l (.failed 2))) ∧
    (Grants s p l .start false → restToks l = [] → s.failed 2 = false → s.ttRuns 4 = true →
      exec (.startCmd p l) s = .next (replied s (g.raiseTt "IGNORED" (some n)) p l
        (.state (if n = 4 then "RUNNING" else "FAULT")))) ∧
    (s.failed 2 = false →
    (Grants s p l .start false → restToks l = [] → s.ttRuns 4 = false → s.committing n = false → s.ttValid n = true →
      (s.tt.run = none → exec (.startCmd p l) s = .next (replied s (g.ttRequest n .cmd) p l (.ok (ttName n)))) ∧
      (n = 4 → s.tt.run ≠ none →
        exec (.startCmd p l) s = .next (replied s (g.ttRequest 4 .cmd) p l (.queuedDone (owe p l (ttName 4))))) ∧
      (n ≠ 4 → s.tt.run ≠ none →
        exec (.startCmd p l) s = .next (replied s (g.ttRequest n .cmd (some (owe p l (ttName n)))) p l .queued))) ∧
    (Grants s p l .start false → restToks l = [] → s.ttRuns 4 = false → s.committing n = false → s.ttValid n = false →
      exec (.startCmd p l) s = .next (replied s g p l (.no 26 "DATA" "INVALID"))) ∧
    (Grants s p l .stop false → restToks l = [] → n ≠ 4 → s.ttRuns n = true →
      ∃ t, exec (.stopCmd p l) s = .next (replied s t p l (.ok (ttName n))) ∧ t.tt.run = none ∧
        (n < 8 → t.bit F.TT_VALID_ABANDONED n = true) ∧ Tells g t 60 "ABANDONED") ∧
    (Grants s p l .stop false → restToks l = [] → n = 4 →
      exec (.stopCmd p l) s = .next (replied s g p l (.refused "FAULT"))) ∧
    (∀ k crc, Grants s p l .load false → s.failed 9 = false → loadForm l = "BEGIN" →
      parseArgs s.compat [("BEGIN", .key), ("STEPS", .num 1 511), ("CRC", .num 0 65535)] (restToks l) = .ok a →
      a.has "BEGIN" = true → a.nat "STEPS" = some k → a.nat "CRC" = some crc → s.fits n (k + 1) = true →
      t = { g with tt := { g.tt with staging := some { port := p, tt := n, n := k, crc := crc } } } →
      exec (.loadBegin p l) s =
        .next (replied s t p l (.ok (ttName n ++ " BEGIN STEPS=" ++ dec k ++ " CRC=" ++ hex16 crc)))) ∧
    (∀ vs i x, Grants s p l .load false → s.failed 9 = false → loadForm l = "AT" →
      (restToks l).tail.find? (·.toList.contains '=') = none → (restToks l).tail.length ≤ 8 → (restToks l).tail ≠ [] →
      bareValues s.compat (.num 0 0xFFFFFFFF) (restToks l).tail = .ok vs →
      parseArgs s.compat [("AT", .num 0 510)] ((restToks l).take 1) = .ok a → a.nat "AT" = some i → s.staged p n = .ok x →
      i + vs.length ≤ x.n →
      t = { g with tt := { g.tt with staging := some { x with
        words := Tab.putList (fun _ => none) x.words i (vs.map fun v => some (BitVec.ofNat 32 v.toNat)) } } } →
      exec (.loadAt p l) s = .next (replied s t p l (.ok (ttName n ++ " AT=" ++ dec i ++ " COUNT=" ++ dec vs.length)))) ∧
    (∀ x ws, Grants s p l .load false → s.failed 9 = false → loadForm l = "END" → (restToks l).tail = [] → s.staged p n = .ok x →
      x.image = .ok ws → s.ttBusy n = false → s.fits n ws.length = true → t = { g with tt := { g.tt with staging := none } } →
      exec (.loadEnd p l) s = .next (replied s (t.askCommit { tt := n, words := ws, owed := owe p l (ttName n) }) p l .queued)) ∧
    (∀ x, Grants s p l .load false → s.failed 9 = false → loadForm l = "ABORT" → (restToks l).tail = [] → s.staged p n = .ok x →
      t = { g with tt := { g.tt with staging := none } } →
      exec (.loadAbort p l) s = .next (replied s t p l (.ok (ttName n ++ " ABORT")))) ∧
    (Grants s p l .load false → s.failed 9 = false → loadForm l = "ERASE" → (restToks l).tail = [] → s.ttBusy n = false →
      s.plannedLen n ≠ 0 →
      exec (.loadErase p l) s =
        .next (replied s (g.askCommit { tt := n, words := [], owed := owe p l (ttName n) }) p l .queued)) ∧
    (∀ c : CommitReq, s.tt.commit = none → s.tt.commits = [] →
      (s.askCommit c).tt.commit.map Commit.req = some c ∧ (s.askCommit c).flag F.TT_STATUS_LOADING = true))

/-- With BP9 in order: SAVE CONFIG and SAVE written 1 begin a save of the words that differ from their defaults into
the bank not in use under the next generation, or are refused where more than 168 differ; the scrub reads the next of
512 slots and has a weak one rewritten, and as Freight does nothing while a line waits for a grant; a slot write verified stands in the store, the record of a log slot is the
newest, the last slot of a save makes its bank the one in use; a write that fails is repeated once, then raises
WRITE_FAIL; a token is gained up to 256. (Parts of R441, R446, R449, R450, R452, R458, R465.) -/
def Obligations.StoreCommands : Prop :=
  ∀ (s g : State) (p : PortId) (l : Line), g = granted s → s.failed 9 = false →
    (Grants s p l .save false → l.toks = ["CONFIG"] → s.store.save = none → g.saveEntries.length ≤ 168 →
      exec (.saveConfigCmd p l) s = .next (replied s (g.saveBegin g.saveEntries (some (owe p l "CONFIG"))) p l .queued)) ∧
    (Grants s p l .save false → l.toks = ["CONFIG"] → 168 < g.saveEntries.length →
      exec (.saveConfigCmd p l) s = .next (replied s g p l (.refused "SPACE"))) ∧
    (s.dev = .run → s.store.save = none → s.saveEntries.length ≤ 168 →
      ∃ t v, exec .nvSaveRequest s = .next t ∧ t.store.save = some v ∧ v.gen = (s.get F.NV_GEN_GEN + 1) % 2 ^ 32 ∧ v.next = 0 ∧
        v.bank = (if s.store.bank.isEmpty then 0 else 1 - s.get F.NV_STAT_BANK) ∧ v.bytes = makeBank s.saveEntries v.gen ∧
        t.flag F.NV_CTRL_SAVE = true ∧ t.flag F.NV_STAT_SAVE_PEND = true) ∧
    (s.dev = .run → s.store.save = none → 168 < s.saveEntries.length → Does .nvSaveRequest s s) ∧
    (s.dev = .run → s.lineWaits = false → s.flag F.NV_CTRL_SCRUB_EN = true → s.works 9 = true → s.store.scrubAt < 511 →
      s.store.scrubAt < 256 ∨ slotErased (s.slot s.store.scrubAt) = true ∨ slotIntact (s.slot s.store.scrubAt) = true →
      ∃ t, exec (.nvScrubSlot true true) s = .next t ∧ t.store.scrubAt = s.store.scrubAt + 1 ∧ t.store.bytes = s.store.bytes ∧
        OnlyRegs [] s t) ∧
    (s.dev = .run → s.lineWaits = false → s.flag F.NV_CTRL_SCRUB_EN = true → s.works 9 = true → s.store.scrubAt < 128 →
      ∃ t, exec (.nvScrubSlot true false) s = .next t ∧ t.get F.NV_SCRUB_FIXED = min 255 (s.get F.NV_SCRUB_FIXED + 1) ∧
        Tells s t 57 "SCRUB_FIX") ∧
    (s.dev = .run → s.lineWaits = false → s.flag F.NV_CTRL_SCRUB_EN = true → s.works 9 = true → s.store.scrubAt = 511 →
      slotErased (s.slot 511) = true →
      ∃ t, exec (.nvScrubSlot true true) s = .next t ∧ t.store.scrubAt = 0 ∧
        t.get F.NV_SCRUB_PASSES = (s.get F.NV_SCRUB_PASSES + 1) % 65536 ∧ OnlyRegs [Reg.addr .NV_SCRUB] s t) ∧
    (∀ x y, s.dev ≠ .run ∨ (s.lineWaits = true ∧ s.core.passRun < 7) → Does (.nvScrubSlot x y) s s) ∧
    (∀ x y, s.dev = .run → s.lineWaits = false → s.flag F.NV_CTRL_SCRUB_EN = false →
      Does (.nvScrubSlot x y) s { s with core := { s.core with passRun := 0 } }) ∧
    (∀ j, s.store.job = some j → j.why = .log → j.bytes.length = 16 → j.slot < 512 →
      ∃ t, exec (.slotWriteDone true) s = .next t ∧ t.slot j.slot = j.bytes ∧
        t.get F.NV_LOG_NEWEST = beNat (j.bytes.take 2)) ∧
    (∀ j v, s.store.job = some j → j.why = .save → s.store.save = some v → v.next = 63 → v.bank < 2 → v.gen < 2 ^ 32 →
      ∃ t, exec (.slotWriteDone true) s = .next t ∧ t.store.save = none ∧ t.get F.NV_STAT_BANK = v.bank ∧
        t.get F.NV_GEN_GEN = v.gen ∧ t.flag F.NV_STAT_SAVE_PEND = false ∧ t.store.bank = v.bytes ∧ (s.dev = .run → Tells s t 57 "SAVED")) ∧
    (∀ j, s.store.job = some j → j.again = false →
      ∃ t, exec (.slotWriteDone false) s = .next t ∧ t.store.job = some { j with again := true } ∧ t.store.bytes = s.store.bytes ∧
        OnlyRegs [Reg.addr .NV_STAT] s t) ∧
    (∀ j, s.dev = .run → s.store.job = some j → j.again = true →
      ∃ t, exec (.slotWriteDone false) s = .next t ∧ Tells s t 57 "WRITE_FAIL") ∧
    (∃ t, exec .tokenGain s = .next t ∧ t.get F.NV_LOG2_TOKENS = min 256 (s.get F.NV_LOG2_TOKENS + 1) ∧
      OnlyRegs [Reg.addr .NV_LOG2] s t)

/-- In RUN: START by register or command queues a test or is refused with the reason of R431; ABORT cuts the test
short as INCOMPLETE; PWRUP is stored. The check of the conditions begins a waiting test, or refuses it, also where
its partition has come live, or in the power-up run waits 4 more ticks; at the terminal count the signature passes the partition or holds it FAILED, and the
power-up run goes on to the next partition. (Parts of R423, R424, R425, R427, R431, R433, R434, R439.) -/
def Obligations.SelfTestCommands : Prop :=
  ∀ (s g t : State) (p : PortId) (l : Line) (a : Args) (bp osc : Nat) (sig : Word), g = granted s →
    (s.dev = .run → s.get F.BIST_CTRL_SEL = bp → s.bistRefusal bp = none →
      ∃ t, exec .bistStartRequest s = .next t ∧ t.bist.run = some { bp := bp, how := .register } ∧ t.flag F.BIST_SUM_RUNNING = true ∧
        t.get F.BIST_SUM_RUN_BP = bp ∧ OnlyRegs [Reg.addr .BIST_SUM] s t) ∧
    (∀ x, s.dev = .run → s.get F.BIST_CTRL_SEL = bp → s.bistRefusal bp = some x →
      ∃ t, exec .bistStartRequest s = .next t ∧ t.bist = s.bist ∧ Tells s t 56 "REFUSED" ∧ OnlyRegs [] s t) ∧
    (∀ r, s.dev = .run → s.bist.run = some r → r.bp = s.get F.BIST_CTRL_SEL → r.bp < 10 →
      ∃ t, exec .bistAbortRequest s = .next t ∧ t.bist.run = none ∧ t.get (F.BIST_RES_RESULT r.bp) = 3 ∧
        t.get (F.BIST_RES_REASON r.bp) = 2 ∧ Tells s t 56 "INCOMPLETE") ∧
    (Grants s p l .bist false → bistForm l = "START" → objBp l = .ok bp → restToks l = [] → g.bistRefusal bp = none →
      exec (.bistCmd p l) s = .next (replied s (g.testQueue bp (.line (owe p l (bpName bp)))) p l .queued)) ∧
    (∀ c n d, Grants s p l .bist false → bistForm l = "START" → objBp l = .ok bp → restToks l = [] →
      g.bistRefusal bp = some (c, n, d) → exec (.bistCmd p l) s = .next (replied s g p l (.no c n d))) ∧
    (Grants s p l .bist false → bistForm l = "ABORT" → objBp l = .ok bp → (restToks l).tail = [] → s.testOf bp = true →
      t = g.cutTest 2 →
      exec (.bistAbortCmd p l) s =
        .next (replied s t p l (.ok (bpName bp ++ " PATTERNS=" ++ dec (t.get (F.BIST_RES_PATTERNS bp)))))) ∧
    (Grants s p l .bist false → bistForm l = "PWRUP" → parseArgs s.compat [("PWRUP", .switch)] l.toks = .ok a →
      t = g.setArg F.BIST_CTRL_PWRUP (a.nat "PWRUP") →
      exec (.bistPwrupCmd p l) s = .next (replied s t p l (.ok ("PWRUP=" ++ onOut (t.flag F.BIST_CTRL_PWRUP))))) ∧
    (s.bist.run = none → Does (.bistCondCheck osc) s s ∧ Does (.bistTerminalCount sig) s s) ∧
    (∀ r, s.dev = .run → s.bist.run = some r → r.bp < 10 → r.running = false → r.how = .register → s.core.stby = false →
      (s.bistLive r.bp = true →
        ∃ t, exec (.bistCondCheck osc) s = .next t ∧ t.bist.run = none ∧ t.get (F.BIST_RES_RESULT r.bp) = 5 ∧
          Tells s t 56 "REFUSED") ∧
      (s.bistLive r.bp = false → s.bistCond osc = true →
        ∃ t, exec (.bistCondCheck osc) s = .next t ∧ t.bist.run = some { r with running := true } ∧
          t.flag F.BIST_COND_COND_OK = true ∧ t.get F.BIST_COND_OSC_COUNT = min 65535 osc ∧ t.get (F.BIST_RES_RESULT r.bp) = 4) ∧
      (s.bistLive r.bp = false → s.bistCond osc = false →
        ∃ t, exec (.bistCondCheck osc) s = .next t ∧ t.bist.run = none ∧ t.flag F.BIST_COND_COND_OK = false ∧
          t.get (F.BIST_RES_RESULT r.bp) = 5 ∧ Tells s t 56 "REFUSED")) ∧
    (∀ r, s.dev = .selftest → s.bist.run = some r → r.running = false → r.how = .powerup → s.bistCond osc = false →
      ∃ t, exec (.bistCondCheck osc) s = .next t ∧ t.bist.run = some r ∧
        t.get F.BIST_COND_PWAIT = min 8191 (s.get F.BIST_COND_PWAIT + 4) ∧ OnlyRegs [Reg.addr .BIST_COND] s t) ∧
    (∀ r, s.dev = .run → s.bist.run = some r → r.bp < 10 → r.running = true → r.how = .register →
      (sig = bistExp s.rev r.bp →
        ∃ t, exec (.bistTerminalCount sig) s = .next t ∧ t.bist.run = none ∧ t.get (F.BIST_RES_RESULT r.bp) = 1 ∧
          t.get (F.BIST_RES_PATTERNS r.bp) = bistP r.bp ∧ t.word (Reg.addr (.BIST_SIG r.bp)) = sig ∧
          t.bit F.BIST_SUM_PASSED r.bp = true ∧ t.failed r.bp = s.failed r.bp ∧ Tells s t 56 "PASS") ∧
      (sig ≠ bistExp s.rev r.bp →
        ∃ t, exec (.bistTerminalCount sig) s = .next t ∧ t.bist.run = none ∧ t.get (F.BIST_RES_RESULT r.bp) = 2 ∧
          t.word (Reg.addr (.BIST_SIG r.bp)) = sig ∧ t.bit F.BIST_SUM_PASSED r.bp = false ∧ t.failed r.bp = true ∧
          Tells s t 56 "FAIL")) ∧
    (∀ r, s.dev = .selftest → s.bist.run = some r → r.running = true → r.how = .powerup → r.bp < 9 → sig = bistExp s.rev r.bp →
      s.failed r.bp = false →
      ∃ t, exec (.bistTerminalCount sig) s = .next t ∧ t.dev = .selftest ∧
        t.bist.run = some { bp := r.bp + 1, how := .powerup, running := true })

/-- In RUN, for a rail that is there and works: a WAITING rail whose conditions hold goes to ON_DELAY, and stays where
one fails; ON_DELAY ends in RAMP_UP to V_SETM at ON_SLEW and OFF_DELAY in RAMP_DOWN to OFF_V at OFF_SLEW; V_CMD moves
by 1 mV a step, the last step up making the rail ON with TARGET_REACHED and the last down making it FALLING with its
phases tri-stated; a ramp holds the lock loop, FREE with LOCK_P 0; T1 ends with STUCK_HIGH, the pull of SIGNAL_N and active discharge, T2 ends the fall; a rail that
waits for its dependents then turns off; the discharge of a phase opens and closes again. (Parts of R214, R224, R226,
R227, R278, R279, R280, R284.) -/
def Obligations.RailCourse : Prop :=
  ∀ (s : State) (r : Fin 6), s.dev = .run → s.railLive r = true →
    (s.rs r = rsWaiting → s.enabled r = true → s.delayOk r = true → (s.deps r).all s.railGood = true →
      s.get (F.RAIL_DELAY_ON_DLY r) ≠ 0 →
      ∃ t, exec (.railWaitReady r) s = .next t ∧ t.rs r = rsOnDelay ∧
        (t.rail r).dlyAt = some (s.ticks + s.get (F.RAIL_DELAY_ON_DLY r)) ∧ OnlyRegs [Reg.addr (.RAIL_CTRL r)] s t) ∧
    (s.rs r = rsWaiting → s.enabled r = false ∨ s.delayOk r = false ∨ (s.deps r).all s.railGood = false →
      Does (.railWaitReady r) s s) ∧
    (∀ d, (s.rail r).dlyAt = some d → s.rs r = rsOnDelay → s.get (F.RAIL_STATUS_VCMD r) ≠ (s.vSetm r).toNat →
      ∃ t, exec (.onDelayEnd r) s = .next t ∧ t.rs r = rsRampUp ∧ (t.rail r).vEnd = (s.vSetm r).toNat ∧
        (t.rail r).slew = s.get (F.RAIL_RAMP_ON_SLEW r) ∧ t.flag (F.RAIL_CTRL_TR_PEND r) = true ∧ t.ticks = max s.ticks d ∧
        t.get (F.RAIL_LOCK_LOCK r) = 0 ∧ (t.rail r).lockP = 0 ∧ OnlyRegs [Reg.addr (.RAIL_CTRL r), Reg.addr (.RAIL_LOCK r)] s t) ∧
    (∀ d, (s.rail r).dlyAt = some d → s.rs r = rsOffDelay → s.offV r < s.get (F.RAIL_STATUS_VCMD r) →
      ∃ t, exec (.offDelayEnd r) s = .next t ∧ t.rs r = rsRampDown ∧ (t.rail r).vEnd = s.offV r ∧
        (t.rail r).slew = s.get (F.RAIL_RAMP_OFF_SLEW r) ∧ t.ticks = max s.ticks d ∧ t.get (F.RAIL_LOCK_LOCK r) = 0 ∧
        (t.rail r).lockP = 0 ∧ OnlyRegs [Reg.addr (.RAIL_CTRL r), Reg.addr (.RAIL_LOCK r)] s t) ∧
    (s.rs r = rsRampUp ∨ s.rs r = rsMoving → s.get (F.RAIL_STATUS_VCMD r) + 1 < (s.rail r).vEnd →
      s.get (F.RAIL_STATUS_VCMD r) < 5600 →
      ∃ t, exec (.vcmdStep r) s = .next t ∧ t.get (F.RAIL_STATUS_VCMD r) = s.get (F.RAIL_STATUS_VCMD r) + 1 ∧
        OnlyRegs [Reg.addr (.RAIL_STATUS r)] s t) ∧
    (s.rs r = rsRampUp ∨ s.rs r = rsMoving → s.get (F.RAIL_STATUS_VCMD r) + 1 = (s.rail r).vEnd → (s.rail r).vEnd ≤ 5600 →
      ∃ t, exec (.vcmdStep r) s = .next t ∧ t.get (F.RAIL_STATUS_VCMD r) = (s.rail r).vEnd ∧ t.rs r = rsOn ∧
        t.flag (F.RAIL_CTRL_TR_PEND r) = false ∧ Tells s t r "TARGET_REACHED") ∧
    (s.rs r = rsRampDown → (s.rail r).vEnd + 1 < s.get (F.RAIL_STATUS_VCMD r) →
      ∃ t, exec (.vcmdStep r) s = .next t ∧ t.get (F.RAIL_STATUS_VCMD r) = s.get (F.RAIL_STATUS_VCMD r) - 1 ∧
        OnlyRegs [Reg.addr (.RAIL_STATUS r)] s t) ∧
    (s.rs r = rsRampDown → s.get (F.RAIL_STATUS_VCMD r) ≤ (s.rail r).vEnd + 1 →
      ∃ t, exec (.vcmdStep r) s = .next t ∧ t.rs r = rsFalling ∧ t.get (F.RAIL_STATUS_VCMD r) = 0 ∧
        ∀ n ∈ s.assigned r, (t.ph n).tri = true) ∧
    (∀ f d, (s.rail r).fall = some f → f.stage = 2 → f.till = some d →
      ∃ t, exec (.fallT1Expiry r) s = .next t ∧ Tells s t 60 "STUCK_HIGH" ∧ t.bit F.SIG_STAT_BY 2 = true ∧
        t.tt.sigPulseAt = some (max s.ticks d + s.get F.TT_CTRL_SIG_PULSE) ∧
        (t.rail r).fall = some { f with stage := 3, till := some (max s.ticks d + f.t2) } ∧
        (∀ n ∈ s.assigned r, (t.ph n).sink = true) ∧ OnlyRegs [Reg.addr .SIG_STAT] s t) ∧
    (∀ f d, (s.rail r).fall = some f → f.stage = 3 → f.till = some d →
      ∃ t, exec (.fallT2Expiry r) s = .next t ∧ (t.rail r).fall = none ∧ (∀ n ∈ s.assigned r, (t.ph n).sink = false) ∧
        t.rs r = (if s.rs r = rsFalling then rsOff else s.rs r) ∧ t.ticks = max s.ticks d) ∧
    (∀ f d, (s.rail r).fall = some f → f.stage = 0 → f.till = some d → f.deps = 0 →
      Does (.disableDependentWaitEnd r) s (s.ownTurnOff r false).rodCheck) ∧
    (∀ f d, (s.rail r).fall = some f → f.stage = 0 → f.till = some d → f.deps ≠ 0 →
      Does (.disableDependentWaitEnd r) s ((s.reach d).ownTurnOff r false).rodCheck) ∧
    (∀ n : Fin 16, ∃ t, exec (.dischargeSinkLimit n) s = .next t ∧ (t.ph n).sink = false ∧ OnlyRegs [] s t) ∧
    (∀ n : Fin 16, s.phaseLive n = true → s.discharging n = true →
      ∃ t, exec (.dischargeRestart n) s = .next t ∧ (t.ph n).sink = true ∧ OnlyRegs [] s t) ∧
    (∀ n : Fin 16, s.discharging n = false → Does (.dischargeRestart n) s s)

/-- In RUN, for a rail that is there and works: a hiccup off-time ends in WAITING, and 32,768 clean ticks ON clear the
count of hiccups; an overload timer, an over-voltage at or above V_OV, a second hot conversion and the comparator at 1.800 V
raise their cause and take the rail down; a conversion stores TEMP, and the fourth below 0.360 V sets TSNS_OPEN; a
limit trip ends the on-time of a phase and a short trip tri-states it, has it skip its next trigger and is counted, and on a page rail of one or two the fourth cycle in a row takes the rail
down with SHORT.
(Parts of R299, R300, R302, R304, R305, R307, R308, R309.) -/
def Obligations.RailProtection : Prop :=
  ∀ (s : State) (r : Fin 6), s.dev = .run → s.railLive r = true →
    (∀ d, (s.rail r).hicAt = some d → s.rs r = rsOff → s.enabled r = true →
      (∃ n ∈ s.assigned r, s.phState n ≠ 4) →
      ∃ t, exec (.hiccupOffEnd r) s = .next t ∧ t.rs r = rsWaiting ∧ t.flag (F.RAIL_PSTAT_HICCUP r) = false ∧
        (t.rail r).hicAt = none ∧ t.ticks = max s.ticks d ∧ ∀ n ∈ s.assigned r, s.phState n ≠ 4 → t.phState n = 1) ∧
    (∀ d, (s.rail r).cleanFrom = some d → s.rs r = rsOn → s.get (F.RAIL_PSTAT_HICCUPS r) ≠ 0 →
      ∃ t, exec (.hiccupCountReset r) s = .next t ∧ t.get (F.RAIL_PSTAT_HICCUPS r) = 0 ∧ t.ticks = max s.ticks (d + 32768) ∧
        OnlyRegs [Reg.addr (.RAIL_PSTAT r)] s t) ∧
    (∀ d, (s.rail r).ovlAt = some d →
      ∃ t, exec (.overloadTimerExpiry r) s = .next t ∧ Tells s t r "OVERLOAD_OFF" ∧ t.enabled r = false ∧
        t.bit F.TT_STATUS_SHED r = true ∧ t.ticks = max s.ticks d) ∧
    (∀ mV, s.rs r = rsOn ∨ s.rs r = rsMoving ∨ s.rs r = rsOffDelay → s.vOv r ≤ mV * 100 →
      ∃ t, exec (.overvoltTrip r mV) s = .next t ∧ Tells s t r "OVERVOLT" ∧ t.rs r = rsFalling ∧ t.enabled r = false ∧
        t.get (F.RAIL_STATUS_VCMD r) = 0 ∧ ∀ n ∈ s.assigned r, (t.ph n).tri = true) ∧
    (∀ mV, mV * 100 < s.vOv r → Does (.overvoltTrip r mV) s s) ∧
    (∀ mV, 1800 ≤ mV →
      ∃ t, exec (.tsnsConversion r mV) s = .next t ∧
        t.get (F.RAIL_PSTAT_TEMP r) = (clampInt 0 255 (tsnsTemp mV + 40)).toNat ∧ OnlyRegs [Reg.addr (.RAIL_PSTAT r)] s t) ∧
    (∀ mV, mV < 360 → s.enabled r = true → (s.rail r).openRun = 3 → s.flag (F.RAIL_PSTAT_TSNS_OPEN r) = false →
      ∃ t, exec (.tsnsConversion r mV) s = .next t ∧ t.flag (F.RAIL_PSTAT_TSNS_OPEN r) = true ∧ Tells s t r "TSNS_OPEN" ∧
        OnlyRegs [Reg.addr (.RAIL_PSTAT r)] s t) ∧
    (∀ mV : Nat, 360 ≤ mV → mV < 1800 → s.enabled r = true → (s.rail r).shutRun = 1 → s.flag (F.RAIL_PSTAT_TSNS_OPEN r) = false →
      (s.get (F.RAIL_PROT_OT_SHUT r) : Int) ≤ tsnsTemp mV →
      ∃ t, exec (.tsnsConversion r mV) s = .next t ∧ Tells s t r "OT_SHUT" ∧ t.enabled r = false) ∧
    (s.enabled r = true →
      ∃ t, exec (.tsnsFaultTrip r) s = .next t ∧ t.flag (F.RAIL_PSTAT_STAGE_FAULT r) = true ∧ Tells s t r "STAGE_FAULT" ∧
        t.enabled r = false) ∧
    (s.enabled r = false → Does (.tsnsFaultTrip r) s s) ∧
    (∀ n : Fin 16, s.guarded n = true → (s.ph n).on = true →
      ∃ t, exec (.phaseLimitTrip n) s = .next t ∧ (t.ph n).on = false ∧ (t.ph n).limited = true ∧
        (t.rail (s.get (F.PH_CTRL_RAIL n))).lim = true ∧ ((s.ph n).resp = false → t.get (F.PH_STATUS_ONTIME n) ≤ s.get (F.PH_STATUS_ONTIME n)) ∧
        OnlyRegs [Reg.addr (.PH_STATUS n)] s t) ∧
    (∀ n : Fin 16, s.guarded n = true → s.hiccups (s.get (F.PH_CTRL_RAIL n)) = true →
      ∃ t, exec (.phaseShortTrip n) s = .next t ∧ (t.ph n).on = false ∧ (t.ph n).tri = true ∧ (t.ph n).skip = true ∧
        t.get (F.PH_PROT_SC_TRIPS n) = min 255 (s.get (F.PH_PROT_SC_TRIPS n) + 1) ∧
        (t.rail (s.get (F.PH_CTRL_RAIL n))).lim = true ∧ OnlyRegs [Reg.addr (.PH_PROT n)] s t) ∧
    (∀ n : Fin 16, s.guarded n = true → ∀ q, q = s.get (F.PH_CTRL_RAIL n) → s.hiccups q = false → 3 ≤ (s.rail q).tripRun →
      (s.rotation q).length ≤ 2 → ∃ t, exec (.phaseShortTrip n) s = .next t ∧ Tells s t q "SHORT") ∧
    (∀ n : Fin 16, s.guarded n = false → Does (.phaseLimitTrip n) s s ∧ Does (.phaseShortTrip n) s s)

/-- In RUN: a trigger of a rail that switches adopts what waits for it and is taken by the phase whose turn it is, the
phases that skip it passed over, or is held unless every phase has skipped it; an on-time ends, and its phase may fire
again; a sample stores its code and the current of R258; the sixteenth conversion of a set, each in an off-time of 400 ns
or in tri-state, adopts the offset outright at first and by a quarter later, or sets OFS_BAD outside ±320; after 64
rank-0 cycles the AUTO trims of two phases whose means differ by more than the dead band step apart; an all-phase
response starts or continues the on-time of every phase, holds the lock loop and is counted; an on-time of it ends once
the sense has come back and its width has passed, and at NL_MAXON; a boost turns on the phases in rotation for T_pre.
(Parts of R241, R242, R245, R246, R258, R260, R264, R285, R286, R289.) -/
def Obligations.Switching : Prop :=
  ∀ (s : State) (r : Fin 6) (n : Fin 16), s.dev = .run →
    (∀ e, s.railLive r = true → s.railOn r = true → (s.atTrigger r).railOn r = true →
      Does (.railTrigger r e) s ((s.atTrigger r).trigger r e)) ∧
    (∀ e, s.railOn r = false → Does (.railTrigger r e) s s) ∧
    (∀ e skipped, s.takeTrigger [] (afterLast (s.rotation r) (s.rail r).last) = (none, skipped) →
      ((s.trigger r e).rail r).held = !(s.rotation r).all fun k => skipped.contains k) ∧
    (∀ e k skipped, s.takeTrigger [] (afterLast (s.rotation r) (s.rail r).last) = (some k, skipped) →
      s.trigger r e = (skipped.foldl (fun s n => s.modPh n fun x => { x with skip := false }) s).fire r k e) ∧
    ((s.ph n).on = true → (s.ph n).resp = false →
      ∃ t, exec (.phaseOnTimeEnd n) s = .next t ∧ (t.ph n).on = false ∧
        (t.ph n).tri = (!(s.rail (s.get (F.PH_CTRL_RAIL n))).lowSide || !(s.phState n == 1 || s.phState n == 3)) ∧ OnlyRegs [] s t) ∧
    ((s.ph n).on = true → (s.ph n).resp = true → (s.ph n).minOk = false →
      (s.rail (s.get (F.PH_CTRL_RAIL n))).respBack = false →
      Does (.phaseOnTimeEnd n) s (s.modPh n fun x => { x with minOk := true })) ∧
    ((s.ph n).on = false → Does (.phaseOnTimeEnd n) s s) ∧
    (s.phaseLive n = true → (s.ph n).on = false → (s.rail (s.get (F.PH_CTRL_RAIL n))).held = false →
      ∃ t, exec (.phaseEligible n) s = .next t ∧ (t.ph n).elig = true ∧ (t.ph n).limited = false ∧ OnlyRegs [] s t) ∧
    (∀ code sensed at_, s.phaseLive n = true → s.part.hasRail (s.get (F.PH_CTRL_RAIL n)) = true →
      ∃ t, exec (.phaseSample n code sensed at_) s = .next t ∧ t.get (F.PH_ISNS_CODE n) = min code 1023 ∧
        t.sget (F.PH_ISNS_I n) = clampInt (-32768) 32767 (phaseAmps (min code 1023) (s.sget (F.PH_CAL_OFFSET n))
          (max 1 (s.get (F.RAIL_SW_ISGAIN (s.get (F.PH_CTRL_RAIL n)))))) ∧
        (t.ph n).balN = (s.ph n).balN + 1 ∧ (t.ph n).balSum = (s.ph n).balSum + t.sget (F.PH_ISNS_I n)) ∧
    (∀ code off, s.lineWaits = false → s.phaseLive n = true → (s.ph n).on = false → (s.ph n).tri = true ∨ 400 ≤ off →
      ((s.ph n).ofsN < 15 →
        ∃ t, exec (.calIsnsConversion n code off) s = .next t ∧ (t.ph n).ofsN = (s.ph n).ofsN + 1 ∧
          (t.ph n).ofsSum = (s.ph n).ofsSum + min code 1023 ∧ OnlyRegs [] s t) ∧
      (∀ d : Int, (s.ph n).ofsN = 15 → d = ((s.ph n).ofsSum + min code 1023 : Nat) - (8000 : Int) → -320 ≤ d → d ≤ 320 →
        ∃ t, exec (.calIsnsConversion n code off) s = .next t ∧
          t.sget (F.PH_CAL_OFFSET n) = (if (s.ph n).ofsAny then
            s.sget (F.PH_CAL_OFFSET n) + roundDiv (d - s.sget (F.PH_CAL_OFFSET n)) 4 else d) ∧
          t.flag (F.PH_CAL_OFS_BAD n) = false ∧ (t.ph n).ofsAny = true ∧ OnlyRegs [Reg.addr (.PH_CAL n)] s t) ∧
      ((s.ph n).ofsN = 15 →
        (s.ph n).ofsSum + min code 1023 < 7680 ∨ 8320 < (s.ph n).ofsSum + min code 1023 →
        ∃ t, exec (.calIsnsConversion n code off) s = .next t ∧ t.flag (F.PH_CAL_OFS_BAD n) = true ∧
          t.sget (F.PH_CAL_OFFSET n) = s.sget (F.PH_CAL_OFFSET n))) ∧
    (∀ code off, s.lineWaits = false → (s.ph n).on = true ∨ ((s.ph n).tri = false ∧ off < 400) →
      Does (.calIsnsConversion n code off) s { s with core := { s.core with passRun := 0 } }) ∧
    (∀ (a b k : Nat) (x y : Int), s.railLive r = true → s.railOn r = true → s.inUse r (F.RAIL_BAL_MODE r) = 1 →
      s.rs r ≠ rsRampUp → s.rs r ≠ rsRampDown → (s.rail r).balBad = false → (s.rail r).balSkip = 0 → 64 ≤ (s.rail r).balCyc →
      s.phasesIn r [1] = [a, b] → a < 16 → b < 16 → k = (s.ph a).balN * (s.ph b).balN → k ≠ 0 →
      x = (s.ph a).balSum * (s.ph b).balN → y = (s.ph b).balSum * (s.ph a).balN →
      (s.inUse r (F.RAIL_BAL_BAL_MIN r) * 20 * k : Int) ≤ x + y → (s.inUse r (F.RAIL_BAL_DB r) * 10 * k : Int) < x - y →
      s.sget (F.PH_TRIM_TRIM a) = 0 → s.sget (F.PH_TRIM_TRIM b) = 0 → 1 ≤ s.get (F.RAIL_BAL_LIM r) →
      ∃ t, exec (.balanceInterval r) s = .next t ∧ t.sget (F.PH_TRIM_TRIM a) = -1 ∧ t.sget (F.PH_TRIM_TRIM b) = 1 ∧
        (t.rail r).balCyc = 0 ∧ OnlyRegs [Reg.addr (.PH_TRIM a), Reg.addr (.PH_TRIM b)] s t) ∧
    (s.railLive r = true → s.railOn r = true → 64 ≤ (s.rail r).balCyc → s.inUse r (F.RAIL_BAL_MODE r) ≠ 1 →
      ∃ t, exec (.balanceInterval r) s = .next t ∧ (t.rail r).balCyc = 0 ∧ OnlyRegs [] s t) ∧
    ((s.rail r).balCyc < 64 → Does (.balanceInterval r) s s) ∧
    (s.railLive r = true → s.flag (F.RAIL_NL_NL_EN r) = true → s.rs r = rsOn ∨ s.rs r = rsMoving → (s.rail r).resp = false →
      ∃ t, exec (.allPhaseResponse r) s = .next t ∧ (t.rail r).resp = true ∧ (t.rail r).last = none ∧
        t.get (F.RAIL_STATUS_NL_COUNT r) = min 255 (s.get (F.RAIL_STATUS_NL_COUNT r) + 1) ∧
        t.get (F.RAIL_LOCK_LOCK r) = 0 ∧ (t.rail r).lockP = 0 ∧ (t.rail r).lockHold = 16 ∧
        ∀ k ∈ s.phasesIn r [1, 2, 3], (t.ph k).on = true ∧ (t.ph k).resp = true ∧ t.phState k ≠ 2) ∧
    (s.flag (F.RAIL_NL_NL_EN r) = false → Does (.allPhaseResponse r) s s) ∧
    (∀ ns, (s.rail r).resp = true → (s.rail r).respBack = false →
      (∃ t, exec (.responseOnTimeEnd r ns true) s = .next t ∧ t.get (F.RAIL_STATUS_NL_LAST r) = min 1023 (ns / 4) ∧
        (∀ k ∈ s.assigned r, (s.ph k).resp = true → (s.ph k).minOk = true → (t.ph k).on = false) ∧
        (s.get (F.RAIL_NL_NL_MAXON r) ≤ ns → (t.rail r).resp = false ∧
          ∀ k ∈ s.assigned r, (s.ph k).resp = true → (t.ph k).on = false)) ∧
      (s.get (F.RAIL_NL_NL_MAXON r) ≤ ns →
        ∃ t, exec (.responseOnTimeEnd r ns false) s = .next t ∧ (t.rail r).resp = true ∧
          t.get (F.RAIL_STATUS_NL_LAST r) = s.get (F.RAIL_STATUS_NL_LAST r) ∧
          ∀ k ∈ s.assigned r, (s.ph k).resp = true → (t.ph k).on = false ∧
            ((s.ph k).cont = false → t.get (F.PH_STATUS_ONTIME k) = min 4095 ns)) ∧
      (ns < s.get (F.RAIL_NL_NL_MAXON r) → Does (.responseOnTimeEnd r ns false) s s)) ∧
    (∀ ns back, (s.rail r).resp = false → Does (.responseOnTimeEnd r ns back) s s) ∧
    (∀ (g : Fin 4) uA, s.railLive r = true → s.flag (F.RAIL_ANT_ANT_EN r) = true → s.rs r = rsOn ∨ s.rs r = rsMoving →
      uA = s.boostOf r g →
      (uA = 0 → Does (.boostStart r g) s s) ∧
      (1 ≤ g.val → uA ≠ 0 →
        ∃ t, exec (.boostStart r g) s = .next t ∧ ∀ k ∈ s.rotation r, (t.ph k).on = true ∧
          t.get (F.PH_STATUS_ONTIME k) = min 4095 (s.tPre r uA (s.rotation r).length +
            if (s.ph k).on then s.get (F.PH_STATUS_ONTIME k) else 0)))

/-- In RUN, for each copy of the reference whose partition works, BP3's or BP4's: an edge of SYNC_IN while it is the source, and
one of the internal generator while SYNC_IN is not, advance the count modulo 8; the first edge after qualification makes
SYNC_IN the source; a long high time anchors the count; a second window in a row that agrees qualifies SYNC_IN; one that
disagrees, one out of range or a missing edge loses it, SOURCE then HOLDOVER at the frequency last measured; a sample of
V_IN is stored, and one below 18.000 V sends turn-on delays back to WAITING. The device reports the copy of BP4, and
only SYS_SWSTAT changes. (Parts of R243, R247, R249, R250, R266, R278.) -/
def Obligations.Reference : Prop :=
  ∀ (s : State) (bp : Nat) (x : SyncX), s.dev = .run → bp = 3 ∨ bp = 4 → s.works bp = true → x = s.ref bp →
    (s.aon.vioOk = true → x.src = 1 →
      ∃ t, exec .syncInEdge s = .next t ∧ (t.ref bp).cnt = (if x.fresh then 0 else (x.cnt + 1) % 8) ∧ (t.ref bp).fresh = false ∧
        (t.ref bp).atEdge = (t.ref bp).cnt ∧ OnlyRegs [Reg.addr .SYS_SWSTAT] s t) ∧
    (s.aon.vioOk = true → x.src ≠ 1 → s.flag F.SYS_SYNC_MODE = true → x.qual = true →
      ∃ t, exec .syncInEdge s = .next t ∧ (t.ref bp).src = 1 ∧ (t.ref bp).anchored = false ∧ (t.ref bp).cnt = 0 ∧
        (bp = s.refBp → Tells s t 12 "QUALIFIED") ∧ (bp = 4 → t.get F.SYS_SWSTAT_SRC = 1) ∧
        OnlyRegs [Reg.addr .SYS_SWSTAT] s t) ∧
    (s.syncLive = false → Does .syncInEdge s s) ∧
    (∀ high, s.aon.vioOk = true → x.src = 1 → 625 < high →
      ∃ t, exec (.syncInFall high) s = .next t ∧ (t.ref bp).anchored = true ∧ (t.ref bp).atEdge = 0 ∧
        (t.ref bp).cnt = (x.cnt + 8 - x.atEdge) % 8 ∧ OnlyRegs [Reg.addr .SYS_SWSTAT] s t) ∧
    (∀ high, high ≤ 625 → Does (.syncInFall high) s s) ∧
    (x.src ≠ 1 →
      ∃ t, exec .referenceEdgeInternal s = .next t ∧ (t.ref bp).cnt = (if x.fresh then 0 else (x.cnt + 1) % 8) ∧
        (t.ref bp).outHigh = (if s.flag F.SYS_SYNC_OUT_EN then
          (if (t.ref bp).cnt = 0 ∧ s.flag F.SYS_SYNC_OUT_MARK = true then 6 else 4) else 0) ∧
        OnlyRegs [Reg.addr .SYS_SWSTAT] s t) ∧
    (x.src = 1 → ∃ t, exec .referenceEdgeInternal s = .next t ∧ t.ref bp = x) ∧
    (∀ f : Nat, s.aon.vioOk = true → 250000 ≤ f → f ≤ 3000000 → s.freqOk f = true →
      (x.okWins = 0 →
        ∃ t, exec (.syncWindowEnd f) s = .next t ∧ (t.ref bp).okWins = 1 ∧ (t.ref bp).f = f ∧ (t.ref bp).qual = x.qual ∧
          (t.ref bp).src = x.src ∧ t.fref bp = (if x.src = 1 then f else s.fref bp) ∧ OnlyRegs [Reg.addr .SYS_SWSTAT] s t) ∧
      (1 ≤ x.okWins → 200 * ((f : Int) - x.f).natAbs ≤ x.f →
        ∃ t, exec (.syncWindowEnd f) s = .next t ∧ (t.ref bp).okWins = 2 ∧ (t.ref bp).f = f ∧ (t.ref bp).qual = true ∧
          (t.ref bp).src = x.src ∧ t.fref bp = (if x.src = 1 then f else s.fref bp) ∧ OnlyRegs [Reg.addr .SYS_SWSTAT] s t) ∧
      (1 ≤ x.okWins → x.f < 200 * ((f : Int) - x.f).natAbs →
        ∃ t, exec (.syncWindowEnd f) s = .next t ∧ (t.ref bp).okWins = 1 ∧ (t.ref bp).qual = false ∧
          (t.ref bp).src = (if x.src = 1 then 2 else x.src) ∧ t.fref bp = s.fref bp)) ∧
    (∀ f, s.aon.vioOk = true → f < 250000 ∨ 3000000 < f ∨ s.freqOk f = false →
      ∃ t, exec (.syncWindowEnd f) s = .next t ∧ (t.ref bp).okWins = 0 ∧ (t.ref bp).qual = false ∧
        (t.ref bp).src = (if x.src = 1 then 2 else x.src) ∧ t.fref bp = s.fref bp ∧ OnlyRegs [Reg.addr .SYS_SWSTAT] s t) ∧
    (∃ t, exec .syncInLost s = .next t ∧ (t.ref bp).qual = false ∧ (t.ref bp).okWins = 0 ∧
      (t.ref bp).src = (if x.src = 1 then 2 else x.src) ∧ t.fref bp = s.fref bp ∧
      (x.src = 1 → bp = s.refBp → Tells s t 12 "LOST") ∧ OnlyRegs [Reg.addr .SYS_SWSTAT] s t) ∧
    (∀ code, ∃ t, exec (.vinsSample code) s = .next t ∧ (t.ref bp).vin = min code 1023 ∧
      (bp = 4 → t.get F.SYS_SWSTAT_VIN = min code 1023) ∧
      (code < 360 → ∀ r : Fin 6, s.part.hasRail r = true → railBp r = bp → s.rs r = rsOnDelay → t.rs r = rsWaiting) ∧
      OnlyRegs (Reg.addr .SYS_SWSTAT :: (List.range 6).map fun r => Reg.addr (.RAIL_CTRL r)) s t)

/-- A light-load decision of a rail in the conditions of R254 with no change waiting, by the sum of its current over 32 rank-0
cycles: where it sheds, the highest-numbered ACTIVE phase is to become IDLE, and a FOLLOWER is never changed; where it
adds, the lowest-numbered IDLE phase is to become ACTIVE; no other phase is touched, and the next decision waits for a
fresh average. (R255, parts of R254.) -/
def Obligations.LightLoadChoice : Prop :=
  ∀ (s : State) (r : Fin 6) (i32 : Int), s.dev = .run → s.railLive r = true → s.railOn r = true → s.lightOk r = true →
    (∀ n ∈ s.assigned r, (s.ph n).pend = none) → (s.rail r).lightAvg = some i32 →
    (∀ k, i32 < s.inUse r (F.RAIL_LIGHT_SHED_I r) * 320 * ((s.rotation r).length - 1 : Int) →
      s.inUse r (F.RAIL_LIGHT_MIN_PH r) + 1 < (s.rotation r).length → k ∈ s.assigned r → s.phState k = 1 →
      (∀ j ∈ s.assigned r, s.phState j = 1 → j ≤ k) →
      ∃ t, exec (.lightLoadDecision r) s = .next t ∧ (t.ph k).pend = some 2 ∧ (∀ j, j ≠ k → t.ph j = s.ph j) ∧
        Tells s t (6 + r) "LIGHT_SHED" ∧ (t.adoptPhase k).phState k = 2 ∧ (t.rail r).lightAvg = none ∧ OnlyRegs [] s t) ∧
    (∀ k, ¬(i32 < s.inUse r (F.RAIL_LIGHT_SHED_I r) * 320 * ((s.rotation r).length - 1 : Int) ∧
        s.inUse r (F.RAIL_LIGHT_MIN_PH r) + 1 < (s.rotation r).length) →
      s.inUse r (F.RAIL_LIGHT_ADD_I r) * 320 * ((s.rotation r).length : Int) < i32 → k ∈ s.assigned r → s.phState k = 2 →
      (∀ j ∈ s.assigned r, s.phState j = 2 → k ≤ j) →
      ∃ t, exec (.lightLoadDecision r) s = .next t ∧ (t.ph k).pend = some 1 ∧ (∀ j, j ≠ k → t.ph j = s.ph j) ∧
        Tells s t (6 + r) "LIGHT_ADD" ∧ (t.adoptPhase k).phState k = 1 ∧ (t.rail r).lightAvg = none ∧ OnlyRegs [] s t) ∧
    (∀ k, s.phState k = 3 → ∃ t, exec (.lightLoadDecision r) s = .next t ∧ t.ph k = s.ph k)

/-- At an address that no table of the register map lists, wherever it lies: a read gives 0 and advances nothing, a
write changes nothing at all, and PEEK and POKE are answered OK with 0: no event, no refusal. (R468.) -/
def Obligations.UnassignedAddresses : Prop :=
  ∀ (s : State) (a : Nat) (w : Word), regAt a = none →
    s.readReg a = 0#32 ∧ s.readAdvance a = s ∧ Does (.registerWrite a w) s s ∧
    (∀ p l, Grants s p l .peek true → bareNumbers s.compat ["ADDRESS"] ["ADDRESS", "COUNT"] l.toks = .ok [a] → isAddr a = true →
      exec (.peekQuery p l) s = .next (replied s (granted s) p l (.ok (peekText a 0#32)))) ∧
    (∀ p l v, Grants s p l .poke false → bareNumbers s.compat ["ADDRESS", "VALUE"] ["ADDRESS", "VALUE"] l.toks = .ok [a, v] →
      isAddr a = true → exec (.pokeCmd p l) s = .next (replied s (granted s) p l (.ok (peekText a 0#32))))
end

