-- ==== Sys2Proof/Laws/Frames.lean ====
section
/-! SUPPORT. Laws of the link's characters (R321) and of packed bytes (R322): what is encoded is decoded, from either running
disparity. -/

namespace Sys2Proof.Machine

/-- Every data character decodes to its byte and leaves the disparity that its encoding leaves. -/
theorem decData_encData (rd : Bool) (b : Byte) : decData rd (encData rd b).1 = some (b, (encData rd b).2) := by
  have h : ∀ (rd : Bool) (n : Fin 256),
      decData rd (encData rd (BitVec.ofNat 8 n)).1 = some (BitVec.ofNat 8 n, (encData rd (BitVec.ofNat 8 n)).2) := by
    decide +kernel
  simpa using h rd ⟨b.toNat, b.isLt⟩

/-- Data characters decode one after another. -/
theorem decBytes_encBytes (bs : List Byte) : ∀ rd : Bool, decBytes rd (encBytes rd bs).1 = some bs := by
  induction bs with
  | nil => intro rd; rfl
  | cons b bs ih => intro rd; simp [encBytes, decBytes, decData_encData, ih]

/-- A lane decodes from its K28.5 on. -/
theorem decLane_encLane (rd : Bool) (bs : List Byte) : decLane (encLane rd bs).1 = some bs := by
  cases rd <;> simp [encLane, encComma, decLane, decBytes_encBytes]

@[simp] theorem length_toBytes (n v : Nat) : (toBytes n v).length = n := by simp [toBytes]

/-- A frame of `n` bytes is two longer with its CRC. -/
theorem length_frameOf (n : Nat) (fs : List (Nat × Nat)) : (frameOf n fs).length = n + 2 := by simp [frameOf]

end Sys2Proof.Machine
end

