-- ==== Sys2Proof/Laws/Tab.lean ====
section
/-! SUPPORT. Laws of the sparse maps: a read after a write of the same key gives the value written, a write leaves every
other key alone, and every operation keeps the canonical form. -/

namespace Sys2Proof.Machine

theorem Tab.find_drop_same {α : Type} (t : Tab α) (k : Nat) : (t.drop k).find k = none := by
  induction t with
  | nil => rfl
  | cons p t ih => obtain ⟨j, a⟩ := p; by_cases h : j = k <;> simp [Tab.drop, Tab.find, h, ih]

theorem Tab.find_drop_ne {α : Type} (t : Tab α) {k j : Nat} (h : j ≠ k) : (t.drop k).find j = t.find j := by
  induction t with
  | nil => rfl
  | cons p t ih =>
    obtain ⟨i, a⟩ := p
    by_cases hi : i = k
    · subst hi; simp [Tab.drop, Tab.find, ih, Ne.symm h]
    · simp [Tab.drop, Tab.find, hi, ih]

theorem Tab.find_insert {α : Type} (t : Tab α) (k j : Nat) (v : α) (h : Tab.find t k = none) :
    (t.insert k v).find j = if j = k then some v else t.find j := by
  induction t with
  | nil =>
    by_cases hj : j = k
    · simp [Tab.insert, Tab.find, hj]
    · simp [Tab.insert, Tab.find, hj, Ne.symm hj]
  | cons p t ih =>
    obtain ⟨i, a⟩ := p
    have hik : i ≠ k := by rintro rfl; simp [Tab.find] at h
    have ht : Tab.find t k = none := by simpa [Tab.find, hik] using h
    by_cases hlt : k < i
    · simp only [Tab.insert, hlt, if_true, Tab.find]
      by_cases hj : j = k
      · simp [hj]
      · simp [hj, Ne.symm hj]
    · simp only [Tab.insert, hlt, if_false, Tab.find, ih ht]
      by_cases hj : j = k
      · subst hj; simp [hik]
      · simp [hj]

@[simp] theorem Tab.get_put_same {α : Type} [DecidableEq α] (d : Nat → α) (t : Tab α) (k : Nat) (v : α) :
    (t.put d k v).get d k = v := by
  by_cases h : v = d k
  · simp [Tab.put, Tab.get, h, Tab.find_drop_same]
  · simp [Tab.put, Tab.get, h, Tab.find_insert, Tab.find_drop_same]

theorem Tab.get_put_ne {α : Type} [DecidableEq α] (d : Nat → α) (t : Tab α) {k j : Nat} (v : α) (hj : j ≠ k) :
    (t.put d k v).get d j = t.get d j := by
  by_cases h : v = d k
  · simp [Tab.put, Tab.get, h, Tab.find_drop_ne _ hj]
  · simp [Tab.put, Tab.get, h, Tab.find_insert, Tab.find_drop_same, hj, Tab.find_drop_ne _ hj]

/-- What a key reads as after a write. -/
theorem Tab.get_put {α : Type} [DecidableEq α] (d : Nat → α) (t : Tab α) (k j : Nat) (v : α) :
    (t.put d k v).get d j = if j = k then v else t.get d j := by
  by_cases h : j = k
  · subst h; simp
  · simp [h, Tab.get_put_ne d t v h]

/-! ### The canonical form -/

theorem Tab.wfFrom_weaken {α : Type} [DecidableEq α] (d : Nat → α) (t : Tab α) (l m : Nat) (hlm : l ≤ m)
    (h : Tab.wfFrom d (some m) t = true) : Tab.wfFrom d (some l) t = true := by
  cases t with
  | nil => rfl
  | cons p t =>
    obtain ⟨j, a⟩ := p
    simp only [Tab.wfFrom, Bool.and_eq_true, decide_eq_true_eq] at h ⊢
    exact ⟨⟨by omega, h.1.2⟩, h.2⟩

theorem Tab.wfFrom_none {α : Type} [DecidableEq α] (d : Nat → α) (t : Tab α) (l : Nat)
    (h : Tab.wfFrom d (some l) t = true) : Tab.wfFrom d none t = true := by
  cases t with
  | nil => rfl
  | cons p t =>
    obtain ⟨j, a⟩ := p
    simp only [Tab.wfFrom, Bool.and_eq_true, decide_eq_true_eq] at h ⊢
    exact ⟨⟨trivial, h.1.2⟩, h.2⟩

theorem Tab.wfFrom_drop {α : Type} [DecidableEq α] (d : Nat → α) (t : Tab α) (k : Nat) :
    ∀ lo, Tab.wfFrom d lo t = true → Tab.wfFrom d lo (t.drop k) = true := by
  induction t with
  | nil => intro lo h; exact h
  | cons p t ih =>
    obtain ⟨j, a⟩ := p
    intro lo h
    simp only [Tab.wfFrom, Bool.and_eq_true, decide_eq_true_eq] at h
    by_cases hj : j = k
    · simp only [Tab.drop, hj, if_true]
      have h2 := ih (some j) h.2
      subst hj
      cases lo with
      | none => exact Tab.wfFrom_none d _ _ h2
      | some l => exact Tab.wfFrom_weaken d _ _ _ (Nat.le_of_lt (by simpa using h.1.1)) h2
    · simp only [Tab.drop, hj, if_false, Tab.wfFrom, Bool.and_eq_true, decide_eq_true_eq]
      exact ⟨h.1, ih _ h.2⟩

theorem Tab.wfFrom_insert {α : Type} [DecidableEq α] (d : Nat → α) (t : Tab α) (k : Nat) (v : α) (hv : v ≠ d k) :
    ∀ lo, (match lo with | none => True | some l => l < k) → Tab.wfFrom d lo t = true → Tab.find t k = none →
      Tab.wfFrom d lo (t.insert k v) = true := by
  induction t with
  | nil =>
    intro lo hlo _ _
    cases lo <;> simp_all [Tab.insert, Tab.wfFrom]
  | cons p t ih =>
    obtain ⟨j, a⟩ := p
    intro lo hlo h hf
    have hjk : j ≠ k := by rintro rfl; simp [Tab.find] at hf
    have hft : Tab.find t k = none := by simpa [Tab.find, hjk] using hf
    simp only [Tab.wfFrom, Bool.and_eq_true, decide_eq_true_eq] at h
    by_cases hlt : k < j
    · simp only [Tab.insert, hlt, if_true, Tab.wfFrom, Bool.and_eq_true, decide_eq_true_eq]
      refine ⟨⟨?_, hv⟩, ⟨trivial, h.1.2⟩, h.2⟩
      cases lo <;> simp_all
    · simp only [Tab.insert, hlt, if_false, Tab.wfFrom, Bool.and_eq_true, decide_eq_true_eq]
      exact ⟨h.1, ih (some j) (show j < k by omega) h.2 hft⟩

/-- A write keeps the canonical form. -/
theorem Tab.wf_put {α : Type} [DecidableEq α] (d : Nat → α) (t : Tab α) (k : Nat) (v : α) (h : t.wf d = true) :
    (t.put d k v).wf d = true := by
  by_cases hv : v = d k
  · simpa [Tab.put, hv, Tab.wf] using Tab.wfFrom_drop d t k none h
  · simp only [Tab.put, hv, if_false]
    exact Tab.wfFrom_insert d _ k v hv none trivial (Tab.wfFrom_drop d t k none h) (Tab.find_drop_same t k)

/-- A write of consecutive keys keeps the canonical form. -/
theorem Tab.wf_putList {α : Type} [DecidableEq α] (d : Nat → α) (vs : List α) :
    ∀ (t : Tab α) (k : Nat), t.wf d = true → (t.putList d k vs).wf d = true := by
  induction vs with
  | nil => intro t k h; exact h
  | cons v vs ih => intro t k h; exact ih _ _ (Tab.wf_put d t k v h)

end Sys2Proof.Machine
end

