-- ==== Sys2Proof/Laws/Word.lean ====
section
/-! SUPPORT. Laws of the bit fields of a register word. -/

namespace Sys2Proof

theorem low_lt (lo width a r : Nat) (h1 : r < 2 ^ lo) (h2 : a < 2 ^ width) : a * 2 ^ lo + r < 2 ^ (lo + width) := by
  have h := Nat.mul_le_mul_right (2 ^ lo) (Nat.succ_le_of_lt h2)
  rw [Nat.succ_mul] at h
  rw [pow_add, mul_comm (2 ^ lo)]
  omega

theorem withBits_lt (w : Word) (lo width v : Nat) (h : lo + width ≤ 32) :
    w.toNat / 2 ^ (lo + width) * 2 ^ (lo + width) + v % 2 ^ width * 2 ^ lo + w.toNat % 2 ^ lo < 2 ^ 32 := by
  have h1 : w.toNat % 2 ^ lo < 2 ^ lo := Nat.mod_lt _ (by positivity)
  have h2 : v % 2 ^ width < 2 ^ width := Nat.mod_lt _ (by positivity)
  have hw := w.isLt
  obtain ⟨c, hc⟩ : (2 : Nat) ^ (lo + width) ∣ 2 ^ 32 := pow_dvd_pow 2 h
  have hd : w.toNat / 2 ^ (lo + width) < c := by
    rw [Nat.div_lt_iff_lt_mul (by positivity), mul_comm, ← hc]; exact hw
  have h3 := low_lt lo width _ _ h1 h2
  calc _ < (w.toNat / 2 ^ (lo + width) + 1) * 2 ^ (lo + width) := by rw [Nat.succ_mul]; omega
    _ ≤ c * 2 ^ (lo + width) := Nat.mul_le_mul_right _ hd
    _ = 2 ^ 32 := by rw [hc, mul_comm]

theorem withBits_toNat (w : Word) (lo width v : Nat) (h : lo + width ≤ 32) :
    (withBits w lo width v).toNat =
      w.toNat / 2 ^ (lo + width) * 2 ^ (lo + width) + v % 2 ^ width * 2 ^ lo + w.toNat % 2 ^ lo := by
  simp only [withBits, BitVec.toNat_ofNat, Nat.mod_eq_of_lt (withBits_lt w lo width v h)]

/-- A field just stored reads as the value, modulo its width. -/
theorem bitsOf_withBits_same (w : Word) (lo width v : Nat) (h : lo + width ≤ 32) :
    bitsOf (withBits w lo width v) lo width = v % 2 ^ width := by
  have h1 : w.toNat % 2 ^ lo < 2 ^ lo := Nat.mod_lt _ (by positivity)
  have h2 : v % 2 ^ width < 2 ^ width := Nat.mod_lt _ (by positivity)
  have hb : (2 : Nat) ^ (lo + width) = 2 ^ lo * 2 ^ width := pow_add 2 lo width
  have : (w.toNat / 2 ^ (lo + width) * 2 ^ (lo + width) + v % 2 ^ width * 2 ^ lo + w.toNat % 2 ^ lo) / 2 ^ lo
      = w.toNat / 2 ^ (lo + width) * 2 ^ width + v % 2 ^ width := by
    rw [hb, show w.toNat / (2 ^ lo * 2 ^ width) * (2 ^ lo * 2 ^ width) + v % 2 ^ width * 2 ^ lo + w.toNat % 2 ^ lo
      = w.toNat % 2 ^ lo + (w.toNat / (2 ^ lo * 2 ^ width) * 2 ^ width + v % 2 ^ width) * 2 ^ lo by ring,
      Nat.add_mul_div_right _ _ (by positivity), Nat.div_eq_of_lt h1]; simp
  rw [bitsOf, withBits_toNat _ _ _ _ h, this, Nat.add_comm, Nat.add_mul_mod_self_right, Nat.mod_eq_of_lt h2]

/-- A store to a field above another leaves the lower one. -/
theorem bitsOf_withBits_below (w : Word) (lo width v lo' width' : Nat) (h : lo + width ≤ 32) (hd : lo' + width' ≤ lo) :
    bitsOf (withBits w lo width v) lo' width' = bitsOf w lo' width' := by
  obtain ⟨d, rfl⟩ : ∃ d, lo = lo' + width' + d := ⟨lo - (lo' + width'), by omega⟩
  have key (x : Nat) : x / 2 ^ lo' % 2 ^ width' = x % 2 ^ (lo' + width' + d) / 2 ^ lo' % 2 ^ width' := by
    rw [show lo' + width' + d = lo' + (width' + d) by omega, pow_add 2 lo' (width' + d), Nat.mod_mul_right_div_self,
      pow_add 2 width' d, Nat.mod_mul_right_mod]
  rw [bitsOf, bitsOf, withBits_toNat _ _ _ _ h, key, key w.toNat]
  congr 2
  rw [pow_add 2 (lo' + width' + d) width, ← mul_assoc, mul_right_comm, ← add_mul, Nat.add_comm, Nat.add_mul_mod_self_right,
    Nat.mod_mod]

/-- A store to a field below another leaves the upper one. -/
theorem bitsOf_withBits_above (w : Word) (lo width v lo' width' : Nat) (h : lo + width ≤ 32) (hd : lo + width ≤ lo') :
    bitsOf (withBits w lo width v) lo' width' = bitsOf w lo' width' := by
  have h1 : w.toNat % 2 ^ lo < 2 ^ lo := Nat.mod_lt _ (by positivity)
  have h2 : v % 2 ^ width < 2 ^ width := Nat.mod_lt _ (by positivity)
  have h3 := low_lt lo width _ _ h1 h2
  obtain ⟨d, rfl⟩ : ∃ d, lo' = lo + width + d := ⟨lo' - (lo + width), by omega⟩
  have key (x : Nat) : x / 2 ^ (lo + width + d) = x / 2 ^ (lo + width) / 2 ^ d := by rw [pow_add, Nat.div_div_eq_div_mul]
  rw [bitsOf, bitsOf, withBits_toNat _ _ _ _ h, key, key w.toNat]
  congr 2
  rw [Nat.add_assoc, Nat.add_comm, Nat.add_mul_div_right _ _ (by positivity), Nat.div_eq_of_lt h3, Nat.zero_add]

/-- A field holds no more than its width allows. -/
theorem bitsOf_lt (w : Word) (lo width : Nat) : bitsOf w lo width < 2 ^ width := Nat.mod_lt _ (by positivity)

end Sys2Proof
end

