-- ==== Sys2Proof/Laws/State.lean ====
section
/-! SUPPORT. Laws of the named operations over the state: what a register, a field and a numbered unit read as after a
write, and what each update leaves alone. -/

namespace Sys2Proof.Machine

variable (s : State)

/-! ### Words -/

/-- A word reads as written, every other as before. -/
theorem State.word_setWord (a b : Nat) (w : Word) : (s.setWord a w).word b = if b = a then w else s.word b := by
  simp only [State.word, State.setWord, Tab.get_put]

@[simp] theorem State.word_setWord_same (a : Nat) (w : Word) : (s.setWord a w).word a = w := by
  simp [State.word_setWord]

/-- Two states of one part with one register table read alike. -/
theorem State.word_congr {s t : State} (hp : t.part = s.part) (hr : t.regs = s.regs) (a : Nat) : t.word a = s.word a := by
  simp only [State.word, hp, hr]

/-! ### Fields -/

/-- The word under a field just stored. -/
theorem State.word_set (f : Field) (v a : Nat) :
    (s.set f v).word a = if a = f.addr then withBits (s.word a) f.lo f.width v else s.word a := by
  rw [State.set, State.word_setWord]; split <;> simp_all

/-- A field stored reads as the value, modulo its width. -/
theorem State.get_set_same (f : Field) (v : Nat) (h : f.lo + f.width ≤ 32) : (s.set f v).get f = v % 2 ^ f.width := by
  simp only [State.get, State.word_set, if_true]; exact bitsOf_withBits_same _ _ _ _ h

/-- Fields that share no bit. -/
def Field.apart (f g : Field) : Bool := f.addr != g.addr || decide (f.lo + f.width ≤ g.lo) || decide (g.lo + g.width ≤ f.lo)

/-- A field reads as before after a store to one that shares no bit with it. -/
theorem State.get_set_apart (f g : Field) (v : Nat) (h : f.lo + f.width ≤ 32) (hd : f.apart g = true) :
    (s.set f v).get g = s.get g := by
  simp only [State.get, State.word_set]
  split
  · next he =>
    simp only [Field.apart, Bool.or_eq_true, bne_iff_ne, decide_eq_true_eq] at hd
    rcases hd with (hd | hd) | hd
    · exact absurd he.symm hd
    · exact bitsOf_withBits_above _ _ _ _ _ _ h hd
    · exact bitsOf_withBits_below _ _ _ _ _ _ h hd
  · rfl

/-- A field of another register reads as before. -/
theorem State.get_set_addr (f g : Field) (v : Nat) (h : g.addr ≠ f.addr) : (s.set f v).get g = s.get g := by
  simp only [State.get, State.word_set, if_neg h]

/-- A field holds no more than its width allows. -/
theorem State.get_lt (f : Field) : s.get f < 2 ^ f.width := bitsOf_lt _ _ _

/-- A one-bit field stored. -/
theorem State.flag_setFlag_same (f : Field) (b : Bool) (h : f.lo + f.width ≤ 32) (hw : 0 < f.width) :
    (s.setFlag f b).flag f = b := by
  have h2 : 1 < 2 ^ f.width := Nat.one_lt_two_pow (by omega)
  cases b <;> simp [State.flag, State.setFlag, State.get_set_same, h, Nat.mod_eq_of_lt h2]

theorem State.get_eq_word {t : State} (f : Field) (h : t.word f.addr = s.word f.addr) : t.get f = s.get f := by
  simp only [State.get, h]

/-! ### Numbered units -/

@[simp] theorem State.mon_modMon (n : Nat) (f : MonX → MonX) : (s.modMon n f).mon n = f (s.mon n) := by simp [State.mon, State.modMon]
@[simp] theorem State.adc_modAdc (n : Nat) (f : AdcX → AdcX) : (s.modAdc n f).adc n = f (s.adc n) := by simp [State.adc, State.modAdc]
@[simp] theorem State.harv_modHarv (i : Nat) (f : HarvX → HarvX) : (s.modHarv i f).harv i = f (s.harv i) := by
  simp [State.harv, State.modHarv]
@[simp] theorem State.rail_modRail (r : Nat) (f : RailX → RailX) : (s.modRail r f).rail r = f (s.rail r) := by
  simp [State.rail, State.modRail]
@[simp] theorem State.ph_modPh (n : Nat) (f : PhX → PhX) : (s.modPh n f).ph n = f (s.ph n) := by simp [State.ph, State.modPh]
@[simp] theorem State.head_modHead (h : Nat) (f : HeadX → HeadX) : (s.modHead h f).head h = f (s.head h) := by
  simp [State.head, State.modHead]

/-! ### What the updates leave alone -/

@[simp] theorem State.word_modMon (n : Nat) (f : MonX → MonX) (a : Nat) : (s.modMon n f).word a = s.word a := rfl
@[simp] theorem State.word_modAdc (n : Nat) (f : AdcX → AdcX) (a : Nat) : (s.modAdc n f).word a = s.word a := rfl
@[simp] theorem State.word_modHarv (i : Nat) (f : HarvX → HarvX) (a : Nat) : (s.modHarv i f).word a = s.word a := rfl
@[simp] theorem State.word_modRail (r : Nat) (f : RailX → RailX) (a : Nat) : (s.modRail r f).word a = s.word a := rfl
@[simp] theorem State.word_modPh (n : Nat) (f : PhX → PhX) (a : Nat) : (s.modPh n f).word a = s.word a := rfl
@[simp] theorem State.word_modHead (h : Nat) (f : HeadX → HeadX) (a : Nat) : (s.modHead h f).word a = s.word a := rfl
@[simp] theorem State.word_modPort (p : PortId) (f : PortX → PortX) (a : Nat) : (s.modPort p f).word a = s.word a := by
  cases p <;> rfl

/-! ### Fields of State under each update -/

@[simp] theorem State.part_setWord (a : Nat) (w : Word) : (s.setWord a w).part = s.part := rfl
@[simp] theorem State.rev_setWord (a : Nat) (w : Word) : (s.setWord a w).rev = s.rev := rfl
@[simp] theorem State.pending_setWord (a : Nat) (w : Word) : (s.setWord a w).pending = s.pending := rfl
@[simp] theorem State.dev_setWord (a : Nat) (w : Word) : (s.setWord a w).dev = s.dev := rfl
@[simp] theorem State.compat_setWord (a : Nat) (w : Word) : (s.setWord a w).compat = s.compat := rfl
@[simp] theorem State.lastReset_setWord (a : Nat) (w : Word) : (s.setWord a w).lastReset = s.lastReset := rfl
@[simp] theorem State.ticks_setWord (a : Nat) (w : Word) : (s.setWord a w).ticks = s.ticks := rfl
@[simp] theorem State.free_setWord (a : Nat) (w : Word) : (s.setWord a w).free = s.free := rfl
@[simp] theorem State.aon_setWord (a : Nat) (w : Word) : (s.setWord a w).aon = s.aon := rfl
@[simp] theorem State.core_setWord (a : Nat) (w : Word) : (s.setWord a w).core = s.core := rfl
@[simp] theorem State.host_setWord (a : Nat) (w : Word) : (s.setWord a w).host = s.host := rfl
@[simp] theorem State.service_setWord (a : Nat) (w : Word) : (s.setWord a w).service = s.service := rfl
@[simp] theorem State.spi_setWord (a : Nat) (w : Word) : (s.setWord a w).spi = s.spi := rfl
@[simp] theorem State.queue_setWord (a : Nat) (w : Word) : (s.setWord a w).queue = s.queue := rfl
@[simp] theorem State.held_setWord (a : Nat) (w : Word) : (s.setWord a w).held = s.held := rfl
@[simp] theorem State.released_setWord (a : Nat) (w : Word) : (s.setWord a w).released = s.released := rfl
@[simp] theorem State.grants_setWord (a : Nat) (w : Word) : (s.setWord a w).grants = s.grants := rfl
@[simp] theorem State.owed_setWord (a : Nat) (w : Word) : (s.setWord a w).owed = s.owed := rfl
@[simp] theorem State.flt_setWord (a : Nat) (w : Word) : (s.setWord a w).flt = s.flt := rfl
@[simp] theorem State.mons_setWord (a : Nat) (w : Word) : (s.setWord a w).mons = s.mons := rfl
@[simp] theorem State.adcs_setWord (a : Nat) (w : Word) : (s.setWord a w).adcs = s.adcs := rfl
@[simp] theorem State.harvs_setWord (a : Nat) (w : Word) : (s.setWord a w).harvs = s.harvs := rfl
@[simp] theorem State.relay_setWord (a : Nat) (w : Word) : (s.setWord a w).relay = s.relay := rfl
@[simp] theorem State.bridge_setWord (a : Nat) (w : Word) : (s.setWord a w).bridge = s.bridge := rfl
@[simp] theorem State.gauge_setWord (a : Nat) (w : Word) : (s.setWord a w).gauge = s.gauge := rfl
@[simp] theorem State.tt_setWord (a : Nat) (w : Word) : (s.setWord a w).tt = s.tt := rfl
@[simp] theorem State.rails_setWord (a : Nat) (w : Word) : (s.setWord a w).rails = s.rails := rfl
@[simp] theorem State.phs_setWord (a : Nat) (w : Word) : (s.setWord a w).phs = s.phs := rfl
@[simp] theorem State.sync_setWord (a : Nat) (w : Word) : (s.setWord a w).sync = s.sync := rfl
@[simp] theorem State.sync3_setWord (a : Nat) (w : Word) : (s.setWord a w).sync3 = s.sync3 := rfl
@[simp] theorem State.heads_setWord (a : Nat) (w : Word) : (s.setWord a w).heads = s.heads := rfl
@[simp] theorem State.store_setWord (a : Nat) (w : Word) : (s.setWord a w).store = s.store := rfl
@[simp] theorem State.bist_setWord (a : Nat) (w : Word) : (s.setWord a w).bist = s.bist := rfl
@[simp] theorem State.part_set (f : Field) (v : Nat) : (s.set f v).part = s.part := rfl
@[simp] theorem State.rev_set (f : Field) (v : Nat) : (s.set f v).rev = s.rev := rfl
@[simp] theorem State.pending_set (f : Field) (v : Nat) : (s.set f v).pending = s.pending := rfl
@[simp] theorem State.dev_set (f : Field) (v : Nat) : (s.set f v).dev = s.dev := rfl
@[simp] theorem State.compat_set (f : Field) (v : Nat) : (s.set f v).compat = s.compat := rfl
@[simp] theorem State.lastReset_set (f : Field) (v : Nat) : (s.set f v).lastReset = s.lastReset := rfl
@[simp] theorem State.ticks_set (f : Field) (v : Nat) : (s.set f v).ticks = s.ticks := rfl
@[simp] theorem State.free_set (f : Field) (v : Nat) : (s.set f v).free = s.free := rfl
@[simp] theorem State.aon_set (f : Field) (v : Nat) : (s.set f v).aon = s.aon := rfl
@[simp] theorem State.core_set (f : Field) (v : Nat) : (s.set f v).core = s.core := rfl
@[simp] theorem State.host_set (f : Field) (v : Nat) : (s.set f v).host = s.host := rfl
@[simp] theorem State.service_set (f : Field) (v : Nat) : (s.set f v).service = s.service := rfl
@[simp] theorem State.spi_set (f : Field) (v : Nat) : (s.set f v).spi = s.spi := rfl
@[simp] theorem State.queue_set (f : Field) (v : Nat) : (s.set f v).queue = s.queue := rfl
@[simp] theorem State.held_set (f : Field) (v : Nat) : (s.set f v).held = s.held := rfl
@[simp] theorem State.released_set (f : Field) (v : Nat) : (s.set f v).released = s.released := rfl
@[simp] theorem State.grants_set (f : Field) (v : Nat) : (s.set f v).grants = s.grants := rfl
@[simp] theorem State.owed_set (f : Field) (v : Nat) : (s.set f v).owed = s.owed := rfl
@[simp] theorem State.flt_set (f : Field) (v : Nat) : (s.set f v).flt = s.flt := rfl
@[simp] theorem State.mons_set (f : Field) (v : Nat) : (s.set f v).mons = s.mons := rfl
@[simp] theorem State.adcs_set (f : Field) (v : Nat) : (s.set f v).adcs = s.adcs := rfl
@[simp] theorem State.harvs_set (f : Field) (v : Nat) : (s.set f v).harvs = s.harvs := rfl
@[simp] theorem State.relay_set (f : Field) (v : Nat) : (s.set f v).relay = s.relay := rfl
@[simp] theorem State.bridge_set (f : Field) (v : Nat) : (s.set f v).bridge = s.bridge := rfl
@[simp] theorem State.gauge_set (f : Field) (v : Nat) : (s.set f v).gauge = s.gauge := rfl
@[simp] theorem State.tt_set (f : Field) (v : Nat) : (s.set f v).tt = s.tt := rfl
@[simp] theorem State.rails_set (f : Field) (v : Nat) : (s.set f v).rails = s.rails := rfl
@[simp] theorem State.phs_set (f : Field) (v : Nat) : (s.set f v).phs = s.phs := rfl
@[simp] theorem State.sync_set (f : Field) (v : Nat) : (s.set f v).sync = s.sync := rfl
@[simp] theorem State.sync3_set (f : Field) (v : Nat) : (s.set f v).sync3 = s.sync3 := rfl
@[simp] theorem State.heads_set (f : Field) (v : Nat) : (s.set f v).heads = s.heads := rfl
@[simp] theorem State.store_set (f : Field) (v : Nat) : (s.set f v).store = s.store := rfl
@[simp] theorem State.bist_set (f : Field) (v : Nat) : (s.set f v).bist = s.bist := rfl
@[simp] theorem State.part_setFlag (f : Field) (b : Bool) : (s.setFlag f b).part = s.part := rfl
@[simp] theorem State.rev_setFlag (f : Field) (b : Bool) : (s.setFlag f b).rev = s.rev := rfl
@[simp] theorem State.pending_setFlag (f : Field) (b : Bool) : (s.setFlag f b).pending = s.pending := rfl
@[simp] theorem State.dev_setFlag (f : Field) (b : Bool) : (s.setFlag f b).dev = s.dev := rfl
@[simp] theorem State.compat_setFlag (f : Field) (b : Bool) : (s.setFlag f b).compat = s.compat := rfl
@[simp] theorem State.lastReset_setFlag (f : Field) (b : Bool) : (s.setFlag f b).lastReset = s.lastReset := rfl
@[simp] theorem State.ticks_setFlag (f : Field) (b : Bool) : (s.setFlag f b).ticks = s.ticks := rfl
@[simp] theorem State.free_setFlag (f : Field) (b : Bool) : (s.setFlag f b).free = s.free := rfl
@[simp] theorem State.aon_setFlag (f : Field) (b : Bool) : (s.setFlag f b).aon = s.aon := rfl
@[simp] theorem State.core_setFlag (f : Field) (b : Bool) : (s.setFlag f b).core = s.core := rfl
@[simp] theorem State.host_setFlag (f : Field) (b : Bool) : (s.setFlag f b).host = s.host := rfl
@[simp] theorem State.service_setFlag (f : Field) (b : Bool) : (s.setFlag f b).service = s.service := rfl
@[simp] theorem State.spi_setFlag (f : Field) (b : Bool) : (s.setFlag f b).spi = s.spi := rfl
@[simp] theorem State.queue_setFlag (f : Field) (b : Bool) : (s.setFlag f b).queue = s.queue := rfl
@[simp] theorem State.held_setFlag (f : Field) (b : Bool) : (s.setFlag f b).held = s.held := rfl
@[simp] theorem State.released_setFlag (f : Field) (b : Bool) : (s.setFlag f b).released = s.released := rfl
@[simp] theorem State.grants_setFlag (f : Field) (b : Bool) : (s.setFlag f b).grants = s.grants := rfl
@[simp] theorem State.owed_setFlag (f : Field) (b : Bool) : (s.setFlag f b).owed = s.owed := rfl
@[simp] theorem State.flt_setFlag (f : Field) (b : Bool) : (s.setFlag f b).flt = s.flt := rfl
@[simp] theorem State.mons_setFlag (f : Field) (b : Bool) : (s.setFlag f b).mons = s.mons := rfl
@[simp] theorem State.adcs_setFlag (f : Field) (b : Bool) : (s.setFlag f b).adcs = s.adcs := rfl
@[simp] theorem State.harvs_setFlag (f : Field) (b : Bool) : (s.setFlag f b).harvs = s.harvs := rfl
@[simp] theorem State.relay_setFlag (f : Field) (b : Bool) : (s.setFlag f b).relay = s.relay := rfl
@[simp] theorem State.bridge_setFlag (f : Field) (b : Bool) : (s.setFlag f b).bridge = s.bridge := rfl
@[simp] theorem State.gauge_setFlag (f : Field) (b : Bool) : (s.setFlag f b).gauge = s.gauge := rfl
@[simp] theorem State.tt_setFlag (f : Field) (b : Bool) : (s.setFlag f b).tt = s.tt := rfl
@[simp] theorem State.rails_setFlag (f : Field) (b : Bool) : (s.setFlag f b).rails = s.rails := rfl
@[simp] theorem State.phs_setFlag (f : Field) (b : Bool) : (s.setFlag f b).phs = s.phs := rfl
@[simp] theorem State.sync_setFlag (f : Field) (b : Bool) : (s.setFlag f b).sync = s.sync := rfl
@[simp] theorem State.sync3_setFlag (f : Field) (b : Bool) : (s.setFlag f b).sync3 = s.sync3 := rfl
@[simp] theorem State.heads_setFlag (f : Field) (b : Bool) : (s.setFlag f b).heads = s.heads := rfl
@[simp] theorem State.store_setFlag (f : Field) (b : Bool) : (s.setFlag f b).store = s.store := rfl
@[simp] theorem State.bist_setFlag (f : Field) (b : Bool) : (s.setFlag f b).bist = s.bist := rfl
@[simp] theorem State.part_sset (f : Field) (v : Int) : (s.sset f v).part = s.part := rfl
@[simp] theorem State.rev_sset (f : Field) (v : Int) : (s.sset f v).rev = s.rev := rfl
@[simp] theorem State.pending_sset (f : Field) (v : Int) : (s.sset f v).pending = s.pending := rfl
@[simp] theorem State.dev_sset (f : Field) (v : Int) : (s.sset f v).dev = s.dev := rfl
@[simp] theorem State.compat_sset (f : Field) (v : Int) : (s.sset f v).compat = s.compat := rfl
@[simp] theorem State.lastReset_sset (f : Field) (v : Int) : (s.sset f v).lastReset = s.lastReset := rfl
@[simp] theorem State.ticks_sset (f : Field) (v : Int) : (s.sset f v).ticks = s.ticks := rfl
@[simp] theorem State.free_sset (f : Field) (v : Int) : (s.sset f v).free = s.free := rfl
@[simp] theorem State.aon_sset (f : Field) (v : Int) : (s.sset f v).aon = s.aon := rfl
@[simp] theorem State.core_sset (f : Field) (v : Int) : (s.sset f v).core = s.core := rfl
@[simp] theorem State.host_sset (f : Field) (v : Int) : (s.sset f v).host = s.host := rfl
@[simp] theorem State.service_sset (f : Field) (v : Int) : (s.sset f v).service = s.service := rfl
@[simp] theorem State.spi_sset (f : Field) (v : Int) : (s.sset f v).spi = s.spi := rfl
@[simp] theorem State.queue_sset (f : Field) (v : Int) : (s.sset f v).queue = s.queue := rfl
@[simp] theorem State.held_sset (f : Field) (v : Int) : (s.sset f v).held = s.held := rfl
@[simp] theorem State.released_sset (f : Field) (v : Int) : (s.sset f v).released = s.released := rfl
@[simp] theorem State.grants_sset (f : Field) (v : Int) : (s.sset f v).grants = s.grants := rfl
@[simp] theorem State.owed_sset (f : Field) (v : Int) : (s.sset f v).owed = s.owed := rfl
@[simp] theorem State.flt_sset (f : Field) (v : Int) : (s.sset f v).flt = s.flt := rfl
@[simp] theorem State.mons_sset (f : Field) (v : Int) : (s.sset f v).mons = s.mons := rfl
@[simp] theorem State.adcs_sset (f : Field) (v : Int) : (s.sset f v).adcs = s.adcs := rfl
@[simp] theorem State.harvs_sset (f : Field) (v : Int) : (s.sset f v).harvs = s.harvs := rfl
@[simp] theorem State.relay_sset (f : Field) (v : Int) : (s.sset f v).relay = s.relay := rfl
@[simp] theorem State.bridge_sset (f : Field) (v : Int) : (s.sset f v).bridge = s.bridge := rfl
@[simp] theorem State.gauge_sset (f : Field) (v : Int) : (s.sset f v).gauge = s.gauge := rfl
@[simp] theorem State.tt_sset (f : Field) (v : Int) : (s.sset f v).tt = s.tt := rfl
@[simp] theorem State.rails_sset (f : Field) (v : Int) : (s.sset f v).rails = s.rails := rfl
@[simp] theorem State.phs_sset (f : Field) (v : Int) : (s.sset f v).phs = s.phs := rfl
@[simp] theorem State.sync_sset (f : Field) (v : Int) : (s.sset f v).sync = s.sync := rfl
@[simp] theorem State.sync3_sset (f : Field) (v : Int) : (s.sset f v).sync3 = s.sync3 := rfl
@[simp] theorem State.heads_sset (f : Field) (v : Int) : (s.sset f v).heads = s.heads := rfl
@[simp] theorem State.store_sset (f : Field) (v : Int) : (s.sset f v).store = s.store := rfl
@[simp] theorem State.bist_sset (f : Field) (v : Int) : (s.sset f v).bist = s.bist := rfl
@[simp] theorem State.part_setBit (f : Field) (k : Nat) (b : Bool) : (s.setBit f k b).part = s.part := rfl
@[simp] theorem State.rev_setBit (f : Field) (k : Nat) (b : Bool) : (s.setBit f k b).rev = s.rev := rfl
@[simp] theorem State.pending_setBit (f : Field) (k : Nat) (b : Bool) : (s.setBit f k b).pending = s.pending := rfl
@[simp] theorem State.dev_setBit (f : Field) (k : Nat) (b : Bool) : (s.setBit f k b).dev = s.dev := rfl
@[simp] theorem State.compat_setBit (f : Field) (k : Nat) (b : Bool) : (s.setBit f k b).compat = s.compat := rfl
@[simp] theorem State.lastReset_setBit (f : Field) (k : Nat) (b : Bool) : (s.setBit f k b).lastReset = s.lastReset := rfl
@[simp] theorem State.ticks_setBit (f : Field) (k : Nat) (b : Bool) : (s.setBit f k b).ticks = s.ticks := rfl
@[simp] theorem State.free_setBit (f : Field) (k : Nat) (b : Bool) : (s.setBit f k b).free = s.free := rfl
@[simp] theorem State.aon_setBit (f : Field) (k : Nat) (b : Bool) : (s.setBit f k b).aon = s.aon := rfl
@[simp] theorem State.core_setBit (f : Field) (k : Nat) (b : Bool) : (s.setBit f k b).core = s.core := rfl
@[simp] theorem State.host_setBit (f : Field) (k : Nat) (b : Bool) : (s.setBit f k b).host = s.host := rfl
@[simp] theorem State.service_setBit (f : Field) (k : Nat) (b : Bool) : (s.setBit f k b).service = s.service := rfl
@[simp] theorem State.spi_setBit (f : Field) (k : Nat) (b : Bool) : (s.setBit f k b).spi = s.spi := rfl
@[simp] theorem State.queue_setBit (f : Field) (k : Nat) (b : Bool) : (s.setBit f k b).queue = s.queue := rfl
@[simp] theorem State.held_setBit (f : Field) (k : Nat) (b : Bool) : (s.setBit f k b).held = s.held := rfl
@[simp] theorem State.released_setBit (f : Field) (k : Nat) (b : Bool) : (s.setBit f k b).released = s.released := rfl
@[simp] theorem State.grants_setBit (f : Field) (k : Nat) (b : Bool) : (s.setBit f k b).grants = s.grants := rfl
@[simp] theorem State.owed_setBit (f : Field) (k : Nat) (b : Bool) : (s.setBit f k b).owed = s.owed := rfl
@[simp] theorem State.flt_setBit (f : Field) (k : Nat) (b : Bool) : (s.setBit f k b).flt = s.flt := rfl
@[simp] theorem State.mons_setBit (f : Field) (k : Nat) (b : Bool) : (s.setBit f k b).mons = s.mons := rfl
@[simp] theorem State.adcs_setBit (f : Field) (k : Nat) (b : Bool) : (s.setBit f k b).adcs = s.adcs := rfl
@[simp] theorem State.harvs_setBit (f : Field) (k : Nat) (b : Bool) : (s.setBit f k b).harvs = s.harvs := rfl
@[simp] theorem State.relay_setBit (f : Field) (k : Nat) (b : Bool) : (s.setBit f k b).relay = s.relay := rfl
@[simp] theorem State.bridge_setBit (f : Field) (k : Nat) (b : Bool) : (s.setBit f k b).bridge = s.bridge := rfl
@[simp] theorem State.gauge_setBit (f : Field) (k : Nat) (b : Bool) : (s.setBit f k b).gauge = s.gauge := rfl
@[simp] theorem State.tt_setBit (f : Field) (k : Nat) (b : Bool) : (s.setBit f k b).tt = s.tt := rfl
@[simp] theorem State.rails_setBit (f : Field) (k : Nat) (b : Bool) : (s.setBit f k b).rails = s.rails := rfl
@[simp] theorem State.phs_setBit (f : Field) (k : Nat) (b : Bool) : (s.setBit f k b).phs = s.phs := rfl
@[simp] theorem State.sync_setBit (f : Field) (k : Nat) (b : Bool) : (s.setBit f k b).sync = s.sync := rfl
@[simp] theorem State.sync3_setBit (f : Field) (k : Nat) (b : Bool) : (s.setBit f k b).sync3 = s.sync3 := rfl
@[simp] theorem State.heads_setBit (f : Field) (k : Nat) (b : Bool) : (s.setBit f k b).heads = s.heads := rfl
@[simp] theorem State.store_setBit (f : Field) (k : Nat) (b : Bool) : (s.setBit f k b).store = s.store := rfl
@[simp] theorem State.bist_setBit (f : Field) (k : Nat) (b : Bool) : (s.setBit f k b).bist = s.bist := rfl
@[simp] theorem State.part_bump (f : Field) : (s.bump f).part = s.part := rfl
@[simp] theorem State.rev_bump (f : Field) : (s.bump f).rev = s.rev := rfl
@[simp] theorem State.pending_bump (f : Field) : (s.bump f).pending = s.pending := rfl
@[simp] theorem State.dev_bump (f : Field) : (s.bump f).dev = s.dev := rfl
@[simp] theorem State.compat_bump (f : Field) : (s.bump f).compat = s.compat := rfl
@[simp] theorem State.lastReset_bump (f : Field) : (s.bump f).lastReset = s.lastReset := rfl
@[simp] theorem State.ticks_bump (f : Field) : (s.bump f).ticks = s.ticks := rfl
@[simp] theorem State.free_bump (f : Field) : (s.bump f).free = s.free := rfl
@[simp] theorem State.aon_bump (f : Field) : (s.bump f).aon = s.aon := rfl
@[simp] theorem State.core_bump (f : Field) : (s.bump f).core = s.core := rfl
@[simp] theorem State.host_bump (f : Field) : (s.bump f).host = s.host := rfl
@[simp] theorem State.service_bump (f : Field) : (s.bump f).service = s.service := rfl
@[simp] theorem State.spi_bump (f : Field) : (s.bump f).spi = s.spi := rfl
@[simp] theorem State.queue_bump (f : Field) : (s.bump f).queue = s.queue := rfl
@[simp] theorem State.held_bump (f : Field) : (s.bump f).held = s.held := rfl
@[simp] theorem State.released_bump (f : Field) : (s.bump f).released = s.released := rfl
@[simp] theorem State.grants_bump (f : Field) : (s.bump f).grants = s.grants := rfl
@[simp] theorem State.owed_bump (f : Field) : (s.bump f).owed = s.owed := rfl
@[simp] theorem State.flt_bump (f : Field) : (s.bump f).flt = s.flt := rfl
@[simp] theorem State.mons_bump (f : Field) : (s.bump f).mons = s.mons := rfl
@[simp] theorem State.adcs_bump (f : Field) : (s.bump f).adcs = s.adcs := rfl
@[simp] theorem State.harvs_bump (f : Field) : (s.bump f).harvs = s.harvs := rfl
@[simp] theorem State.relay_bump (f : Field) : (s.bump f).relay = s.relay := rfl
@[simp] theorem State.bridge_bump (f : Field) : (s.bump f).bridge = s.bridge := rfl
@[simp] theorem State.gauge_bump (f : Field) : (s.bump f).gauge = s.gauge := rfl
@[simp] theorem State.tt_bump (f : Field) : (s.bump f).tt = s.tt := rfl
@[simp] theorem State.rails_bump (f : Field) : (s.bump f).rails = s.rails := rfl
@[simp] theorem State.phs_bump (f : Field) : (s.bump f).phs = s.phs := rfl
@[simp] theorem State.sync_bump (f : Field) : (s.bump f).sync = s.sync := rfl
@[simp] theorem State.sync3_bump (f : Field) : (s.bump f).sync3 = s.sync3 := rfl
@[simp] theorem State.heads_bump (f : Field) : (s.bump f).heads = s.heads := rfl
@[simp] theorem State.store_bump (f : Field) : (s.bump f).store = s.store := rfl
@[simp] theorem State.bist_bump (f : Field) : (s.bump f).bist = s.bist := rfl
@[simp] theorem State.part_wrap (f : Field) : (s.wrap f).part = s.part := rfl
@[simp] theorem State.rev_wrap (f : Field) : (s.wrap f).rev = s.rev := rfl
@[simp] theorem State.pending_wrap (f : Field) : (s.wrap f).pending = s.pending := rfl
@[simp] theorem State.dev_wrap (f : Field) : (s.wrap f).dev = s.dev := rfl
@[simp] theorem State.compat_wrap (f : Field) : (s.wrap f).compat = s.compat := rfl
@[simp] theorem State.lastReset_wrap (f : Field) : (s.wrap f).lastReset = s.lastReset := rfl
@[simp] theorem State.ticks_wrap (f : Field) : (s.wrap f).ticks = s.ticks := rfl
@[simp] theorem State.free_wrap (f : Field) : (s.wrap f).free = s.free := rfl
@[simp] theorem State.aon_wrap (f : Field) : (s.wrap f).aon = s.aon := rfl
@[simp] theorem State.core_wrap (f : Field) : (s.wrap f).core = s.core := rfl
@[simp] theorem State.host_wrap (f : Field) : (s.wrap f).host = s.host := rfl
@[simp] theorem State.service_wrap (f : Field) : (s.wrap f).service = s.service := rfl
@[simp] theorem State.spi_wrap (f : Field) : (s.wrap f).spi = s.spi := rfl
@[simp] theorem State.queue_wrap (f : Field) : (s.wrap f).queue = s.queue := rfl
@[simp] theorem State.held_wrap (f : Field) : (s.wrap f).held = s.held := rfl
@[simp] theorem State.released_wrap (f : Field) : (s.wrap f).released = s.released := rfl
@[simp] theorem State.grants_wrap (f : Field) : (s.wrap f).grants = s.grants := rfl
@[simp] theorem State.owed_wrap (f : Field) : (s.wrap f).owed = s.owed := rfl
@[simp] theorem State.flt_wrap (f : Field) : (s.wrap f).flt = s.flt := rfl
@[simp] theorem State.mons_wrap (f : Field) : (s.wrap f).mons = s.mons := rfl
@[simp] theorem State.adcs_wrap (f : Field) : (s.wrap f).adcs = s.adcs := rfl
@[simp] theorem State.harvs_wrap (f : Field) : (s.wrap f).harvs = s.harvs := rfl
@[simp] theorem State.relay_wrap (f : Field) : (s.wrap f).relay = s.relay := rfl
@[simp] theorem State.bridge_wrap (f : Field) : (s.wrap f).bridge = s.bridge := rfl
@[simp] theorem State.gauge_wrap (f : Field) : (s.wrap f).gauge = s.gauge := rfl
@[simp] theorem State.tt_wrap (f : Field) : (s.wrap f).tt = s.tt := rfl
@[simp] theorem State.rails_wrap (f : Field) : (s.wrap f).rails = s.rails := rfl
@[simp] theorem State.phs_wrap (f : Field) : (s.wrap f).phs = s.phs := rfl
@[simp] theorem State.sync_wrap (f : Field) : (s.wrap f).sync = s.sync := rfl
@[simp] theorem State.sync3_wrap (f : Field) : (s.wrap f).sync3 = s.sync3 := rfl
@[simp] theorem State.heads_wrap (f : Field) : (s.wrap f).heads = s.heads := rfl
@[simp] theorem State.store_wrap (f : Field) : (s.wrap f).store = s.store := rfl
@[simp] theorem State.bist_wrap (f : Field) : (s.wrap f).bist = s.bist := rfl
@[simp] theorem State.part_modMon (n : Nat) (f : MonX → MonX) : (s.modMon n f).part = s.part := rfl
@[simp] theorem State.rev_modMon (n : Nat) (f : MonX → MonX) : (s.modMon n f).rev = s.rev := rfl
@[simp] theorem State.pending_modMon (n : Nat) (f : MonX → MonX) : (s.modMon n f).pending = s.pending := rfl
@[simp] theorem State.regs_modMon (n : Nat) (f : MonX → MonX) : (s.modMon n f).regs = s.regs := rfl
@[simp] theorem State.dev_modMon (n : Nat) (f : MonX → MonX) : (s.modMon n f).dev = s.dev := rfl
@[simp] theorem State.compat_modMon (n : Nat) (f : MonX → MonX) : (s.modMon n f).compat = s.compat := rfl
@[simp] theorem State.lastReset_modMon (n : Nat) (f : MonX → MonX) : (s.modMon n f).lastReset = s.lastReset := rfl
@[simp] theorem State.ticks_modMon (n : Nat) (f : MonX → MonX) : (s.modMon n f).ticks = s.ticks := rfl
@[simp] theorem State.free_modMon (n : Nat) (f : MonX → MonX) : (s.modMon n f).free = s.free := rfl
@[simp] theorem State.aon_modMon (n : Nat) (f : MonX → MonX) : (s.modMon n f).aon = s.aon := rfl
@[simp] theorem State.core_modMon (n : Nat) (f : MonX → MonX) : (s.modMon n f).core = s.core := rfl
@[simp] theorem State.host_modMon (n : Nat) (f : MonX → MonX) : (s.modMon n f).host = s.host := rfl
@[simp] theorem State.service_modMon (n : Nat) (f : MonX → MonX) : (s.modMon n f).service = s.service := rfl
@[simp] theorem State.spi_modMon (n : Nat) (f : MonX → MonX) : (s.modMon n f).spi = s.spi := rfl
@[simp] theorem State.queue_modMon (n : Nat) (f : MonX → MonX) : (s.modMon n f).queue = s.queue := rfl
@[simp] theorem State.held_modMon (n : Nat) (f : MonX → MonX) : (s.modMon n f).held = s.held := rfl
@[simp] theorem State.released_modMon (n : Nat) (f : MonX → MonX) : (s.modMon n f).released = s.released := rfl
@[simp] theorem State.grants_modMon (n : Nat) (f : MonX → MonX) : (s.modMon n f).grants = s.grants := rfl
@[simp] theorem State.owed_modMon (n : Nat) (f : MonX → MonX) : (s.modMon n f).owed = s.owed := rfl
@[simp] theorem State.flt_modMon (n : Nat) (f : MonX → MonX) : (s.modMon n f).flt = s.flt := rfl
@[simp] theorem State.adcs_modMon (n : Nat) (f : MonX → MonX) : (s.modMon n f).adcs = s.adcs := rfl
@[simp] theorem State.harvs_modMon (n : Nat) (f : MonX → MonX) : (s.modMon n f).harvs = s.harvs := rfl
@[simp] theorem State.relay_modMon (n : Nat) (f : MonX → MonX) : (s.modMon n f).relay = s.relay := rfl
@[simp] theorem State.bridge_modMon (n : Nat) (f : MonX → MonX) : (s.modMon n f).bridge = s.bridge := rfl
@[simp] theorem State.gauge_modMon (n : Nat) (f : MonX → MonX) : (s.modMon n f).gauge = s.gauge := rfl
@[simp] theorem State.tt_modMon (n : Nat) (f : MonX → MonX) : (s.modMon n f).tt = s.tt := rfl
@[simp] theorem State.rails_modMon (n : Nat) (f : MonX → MonX) : (s.modMon n f).rails = s.rails := rfl
@[simp] theorem State.phs_modMon (n : Nat) (f : MonX → MonX) : (s.modMon n f).phs = s.phs := rfl
@[simp] theorem State.sync_modMon (n : Nat) (f : MonX → MonX) : (s.modMon n f).sync = s.sync := rfl
@[simp] theorem State.sync3_modMon (n : Nat) (f : MonX → MonX) : (s.modMon n f).sync3 = s.sync3 := rfl
@[simp] theorem State.heads_modMon (n : Nat) (f : MonX → MonX) : (s.modMon n f).heads = s.heads := rfl
@[simp] theorem State.store_modMon (n : Nat) (f : MonX → MonX) : (s.modMon n f).store = s.store := rfl
@[simp] theorem State.bist_modMon (n : Nat) (f : MonX → MonX) : (s.modMon n f).bist = s.bist := rfl
@[simp] theorem State.part_modAdc (n : Nat) (f : AdcX → AdcX) : (s.modAdc n f).part = s.part := rfl
@[simp] theorem State.rev_modAdc (n : Nat) (f : AdcX → AdcX) : (s.modAdc n f).rev = s.rev := rfl
@[simp] theorem State.pending_modAdc (n : Nat) (f : AdcX → AdcX) : (s.modAdc n f).pending = s.pending := rfl
@[simp] theorem State.regs_modAdc (n : Nat) (f : AdcX → AdcX) : (s.modAdc n f).regs = s.regs := rfl
@[simp] theorem State.dev_modAdc (n : Nat) (f : AdcX → AdcX) : (s.modAdc n f).dev = s.dev := rfl
@[simp] theorem State.compat_modAdc (n : Nat) (f : AdcX → AdcX) : (s.modAdc n f).compat = s.compat := rfl
@[simp] theorem State.lastReset_modAdc (n : Nat) (f : AdcX → AdcX) : (s.modAdc n f).lastReset = s.lastReset := rfl
@[simp] theorem State.ticks_modAdc (n : Nat) (f : AdcX → AdcX) : (s.modAdc n f).ticks = s.ticks := rfl
@[simp] theorem State.free_modAdc (n : Nat) (f : AdcX → AdcX) : (s.modAdc n f).free = s.free := rfl
@[simp] theorem State.aon_modAdc (n : Nat) (f : AdcX → AdcX) : (s.modAdc n f).aon = s.aon := rfl
@[simp] theorem State.core_modAdc (n : Nat) (f : AdcX → AdcX) : (s.modAdc n f).core = s.core := rfl
@[simp] theorem State.host_modAdc (n : Nat) (f : AdcX → AdcX) : (s.modAdc n f).host = s.host := rfl
@[simp] theorem State.service_modAdc (n : Nat) (f : AdcX → AdcX) : (s.modAdc n f).service = s.service := rfl
@[simp] theorem State.spi_modAdc (n : Nat) (f : AdcX → AdcX) : (s.modAdc n f).spi = s.spi := rfl
@[simp] theorem State.queue_modAdc (n : Nat) (f : AdcX → AdcX) : (s.modAdc n f).queue = s.queue := rfl
@[simp] theorem State.held_modAdc (n : Nat) (f : AdcX → AdcX) : (s.modAdc n f).held = s.held := rfl
@[simp] theorem State.released_modAdc (n : Nat) (f : AdcX → AdcX) : (s.modAdc n f).released = s.released := rfl
@[simp] theorem State.grants_modAdc (n : Nat) (f : AdcX → AdcX) : (s.modAdc n f).grants = s.grants := rfl
@[simp] theorem State.owed_modAdc (n : Nat) (f : AdcX → AdcX) : (s.modAdc n f).owed = s.owed := rfl
@[simp] theorem State.flt_modAdc (n : Nat) (f : AdcX → AdcX) : (s.modAdc n f).flt = s.flt := rfl
@[simp] theorem State.mons_modAdc (n : Nat) (f : AdcX → AdcX) : (s.modAdc n f).mons = s.mons := rfl
@[simp] theorem State.harvs_modAdc (n : Nat) (f : AdcX → AdcX) : (s.modAdc n f).harvs = s.harvs := rfl
@[simp] theorem State.relay_modAdc (n : Nat) (f : AdcX → AdcX) : (s.modAdc n f).relay = s.relay := rfl
@[simp] theorem State.bridge_modAdc (n : Nat) (f : AdcX → AdcX) : (s.modAdc n f).bridge = s.bridge := rfl
@[simp] theorem State.gauge_modAdc (n : Nat) (f : AdcX → AdcX) : (s.modAdc n f).gauge = s.gauge := rfl
@[simp] theorem State.tt_modAdc (n : Nat) (f : AdcX → AdcX) : (s.modAdc n f).tt = s.tt := rfl
@[simp] theorem State.rails_modAdc (n : Nat) (f : AdcX → AdcX) : (s.modAdc n f).rails = s.rails := rfl
@[simp] theorem State.phs_modAdc (n : Nat) (f : AdcX → AdcX) : (s.modAdc n f).phs = s.phs := rfl
@[simp] theorem State.sync_modAdc (n : Nat) (f : AdcX → AdcX) : (s.modAdc n f).sync = s.sync := rfl
@[simp] theorem State.sync3_modAdc (n : Nat) (f : AdcX → AdcX) : (s.modAdc n f).sync3 = s.sync3 := rfl
@[simp] theorem State.heads_modAdc (n : Nat) (f : AdcX → AdcX) : (s.modAdc n f).heads = s.heads := rfl
@[simp] theorem State.store_modAdc (n : Nat) (f : AdcX → AdcX) : (s.modAdc n f).store = s.store := rfl
@[simp] theorem State.bist_modAdc (n : Nat) (f : AdcX → AdcX) : (s.modAdc n f).bist = s.bist := rfl
@[simp] theorem State.part_modHarv (n : Nat) (f : HarvX → HarvX) : (s.modHarv n f).part = s.part := rfl
@[simp] theorem State.rev_modHarv (n : Nat) (f : HarvX → HarvX) : (s.modHarv n f).rev = s.rev := rfl
@[simp] theorem State.pending_modHarv (n : Nat) (f : HarvX → HarvX) : (s.modHarv n f).pending = s.pending := rfl
@[simp] theorem State.regs_modHarv (n : Nat) (f : HarvX → HarvX) : (s.modHarv n f).regs = s.regs := rfl
@[simp] theorem State.dev_modHarv (n : Nat) (f : HarvX → HarvX) : (s.modHarv n f).dev = s.dev := rfl
@[simp] theorem State.compat_modHarv (n : Nat) (f : HarvX → HarvX) : (s.modHarv n f).compat = s.compat := rfl
@[simp] theorem State.lastReset_modHarv (n : Nat) (f : HarvX → HarvX) : (s.modHarv n f).lastReset = s.lastReset := rfl
@[simp] theorem State.ticks_modHarv (n : Nat) (f : HarvX → HarvX) : (s.modHarv n f).ticks = s.ticks := rfl
@[simp] theorem State.free_modHarv (n : Nat) (f : HarvX → HarvX) : (s.modHarv n f).free = s.free := rfl
@[simp] theorem State.aon_modHarv (n : Nat) (f : HarvX → HarvX) : (s.modHarv n f).aon = s.aon := rfl
@[simp] theorem State.core_modHarv (n : Nat) (f : HarvX → HarvX) : (s.modHarv n f).core = s.core := rfl
@[simp] theorem State.host_modHarv (n : Nat) (f : HarvX → HarvX) : (s.modHarv n f).host = s.host := rfl
@[simp] theorem State.service_modHarv (n : Nat) (f : HarvX → HarvX) : (s.modHarv n f).service = s.service := rfl
@[simp] theorem State.spi_modHarv (n : Nat) (f : HarvX → HarvX) : (s.modHarv n f).spi = s.spi := rfl
@[simp] theorem State.queue_modHarv (n : Nat) (f : HarvX → HarvX) : (s.modHarv n f).queue = s.queue := rfl
@[simp] theorem State.held_modHarv (n : Nat) (f : HarvX → HarvX) : (s.modHarv n f).held = s.held := rfl
@[simp] theorem State.released_modHarv (n : Nat) (f : HarvX → HarvX) : (s.modHarv n f).released = s.released := rfl
@[simp] theorem State.grants_modHarv (n : Nat) (f : HarvX → HarvX) : (s.modHarv n f).grants = s.grants := rfl
@[simp] theorem State.owed_modHarv (n : Nat) (f : HarvX → HarvX) : (s.modHarv n f).owed = s.owed := rfl
@[simp] theorem State.flt_modHarv (n : Nat) (f : HarvX → HarvX) : (s.modHarv n f).flt = s.flt := rfl
@[simp] theorem State.mons_modHarv (n : Nat) (f : HarvX → HarvX) : (s.modHarv n f).mons = s.mons := rfl
@[simp] theorem State.adcs_modHarv (n : Nat) (f : HarvX → HarvX) : (s.modHarv n f).adcs = s.adcs := rfl
@[simp] theorem State.relay_modHarv (n : Nat) (f : HarvX → HarvX) : (s.modHarv n f).relay = s.relay := rfl
@[simp] theorem State.bridge_modHarv (n : Nat) (f : HarvX → HarvX) : (s.modHarv n f).bridge = s.bridge := rfl
@[simp] theorem State.gauge_modHarv (n : Nat) (f : HarvX → HarvX) : (s.modHarv n f).gauge = s.gauge := rfl
@[simp] theorem State.tt_modHarv (n : Nat) (f : HarvX → HarvX) : (s.modHarv n f).tt = s.tt := rfl
@[simp] theorem State.rails_modHarv (n : Nat) (f : HarvX → HarvX) : (s.modHarv n f).rails = s.rails := rfl
@[simp] theorem State.phs_modHarv (n : Nat) (f : HarvX → HarvX) : (s.modHarv n f).phs = s.phs := rfl
@[simp] theorem State.sync_modHarv (n : Nat) (f : HarvX → HarvX) : (s.modHarv n f).sync = s.sync := rfl
@[simp] theorem State.sync3_modHarv (n : Nat) (f : HarvX → HarvX) : (s.modHarv n f).sync3 = s.sync3 := rfl
@[simp] theorem State.heads_modHarv (n : Nat) (f : HarvX → HarvX) : (s.modHarv n f).heads = s.heads := rfl
@[simp] theorem State.store_modHarv (n : Nat) (f : HarvX → HarvX) : (s.modHarv n f).store = s.store := rfl
@[simp] theorem State.bist_modHarv (n : Nat) (f : HarvX → HarvX) : (s.modHarv n f).bist = s.bist := rfl
@[simp] theorem State.part_modRail (n : Nat) (f : RailX → RailX) : (s.modRail n f).part = s.part := rfl
@[simp] theorem State.rev_modRail (n : Nat) (f : RailX → RailX) : (s.modRail n f).rev = s.rev := rfl
@[simp] theorem State.pending_modRail (n : Nat) (f : RailX → RailX) : (s.modRail n f).pending = s.pending := rfl
@[simp] theorem State.regs_modRail (n : Nat) (f : RailX → RailX) : (s.modRail n f).regs = s.regs := rfl
@[simp] theorem State.dev_modRail (n : Nat) (f : RailX → RailX) : (s.modRail n f).dev = s.dev := rfl
@[simp] theorem State.compat_modRail (n : Nat) (f : RailX → RailX) : (s.modRail n f).compat = s.compat := rfl
@[simp] theorem State.lastReset_modRail (n : Nat) (f : RailX → RailX) : (s.modRail n f).lastReset = s.lastReset := rfl
@[simp] theorem State.ticks_modRail (n : Nat) (f : RailX → RailX) : (s.modRail n f).ticks = s.ticks := rfl
@[simp] theorem State.free_modRail (n : Nat) (f : RailX → RailX) : (s.modRail n f).free = s.free := rfl
@[simp] theorem State.aon_modRail (n : Nat) (f : RailX → RailX) : (s.modRail n f).aon = s.aon := rfl
@[simp] theorem State.core_modRail (n : Nat) (f : RailX → RailX) : (s.modRail n f).core = s.core := rfl
@[simp] theorem State.host_modRail (n : Nat) (f : RailX → RailX) : (s.modRail n f).host = s.host := rfl
@[simp] theorem State.service_modRail (n : Nat) (f : RailX → RailX) : (s.modRail n f).service = s.service := rfl
@[simp] theorem State.spi_modRail (n : Nat) (f : RailX → RailX) : (s.modRail n f).spi = s.spi := rfl
@[simp] theorem State.queue_modRail (n : Nat) (f : RailX → RailX) : (s.modRail n f).queue = s.queue := rfl
@[simp] theorem State.held_modRail (n : Nat) (f : RailX → RailX) : (s.modRail n f).held = s.held := rfl
@[simp] theorem State.released_modRail (n : Nat) (f : RailX → RailX) : (s.modRail n f).released = s.released := rfl
@[simp] theorem State.grants_modRail (n : Nat) (f : RailX → RailX) : (s.modRail n f).grants = s.grants := rfl
@[simp] theorem State.owed_modRail (n : Nat) (f : RailX → RailX) : (s.modRail n f).owed = s.owed := rfl
@[simp] theorem State.flt_modRail (n : Nat) (f : RailX → RailX) : (s.modRail n f).flt = s.flt := rfl
@[simp] theorem State.mons_modRail (n : Nat) (f : RailX → RailX) : (s.modRail n f).mons = s.mons := rfl
@[simp] theorem State.adcs_modRail (n : Nat) (f : RailX → RailX) : (s.modRail n f).adcs = s.adcs := rfl
@[simp] theorem State.harvs_modRail (n : Nat) (f : RailX → RailX) : (s.modRail n f).harvs = s.harvs := rfl
@[simp] theorem State.relay_modRail (n : Nat) (f : RailX → RailX) : (s.modRail n f).relay = s.relay := rfl
@[simp] theorem State.bridge_modRail (n : Nat) (f : RailX → RailX) : (s.modRail n f).bridge = s.bridge := rfl
@[simp] theorem State.gauge_modRail (n : Nat) (f : RailX → RailX) : (s.modRail n f).gauge = s.gauge := rfl
@[simp] theorem State.tt_modRail (n : Nat) (f : RailX → RailX) : (s.modRail n f).tt = s.tt := rfl
@[simp] theorem State.phs_modRail (n : Nat) (f : RailX → RailX) : (s.modRail n f).phs = s.phs := rfl
@[simp] theorem State.sync_modRail (n : Nat) (f : RailX → RailX) : (s.modRail n f).sync = s.sync := rfl
@[simp] theorem State.sync3_modRail (n : Nat) (f : RailX → RailX) : (s.modRail n f).sync3 = s.sync3 := rfl
@[simp] theorem State.heads_modRail (n : Nat) (f : RailX → RailX) : (s.modRail n f).heads = s.heads := rfl
@[simp] theorem State.store_modRail (n : Nat) (f : RailX → RailX) : (s.modRail n f).store = s.store := rfl
@[simp] theorem State.bist_modRail (n : Nat) (f : RailX → RailX) : (s.modRail n f).bist = s.bist := rfl
@[simp] theorem State.part_modPh (n : Nat) (f : PhX → PhX) : (s.modPh n f).part = s.part := rfl
@[simp] theorem State.rev_modPh (n : Nat) (f : PhX → PhX) : (s.modPh n f).rev = s.rev := rfl
@[simp] theorem State.pending_modPh (n : Nat) (f : PhX → PhX) : (s.modPh n f).pending = s.pending := rfl
@[simp] theorem State.regs_modPh (n : Nat) (f : PhX → PhX) : (s.modPh n f).regs = s.regs := rfl
@[simp] theorem State.dev_modPh (n : Nat) (f : PhX → PhX) : (s.modPh n f).dev = s.dev := rfl
@[simp] theorem State.compat_modPh (n : Nat) (f : PhX → PhX) : (s.modPh n f).compat = s.compat := rfl
@[simp] theorem State.lastReset_modPh (n : Nat) (f : PhX → PhX) : (s.modPh n f).lastReset = s.lastReset := rfl
@[simp] theorem State.ticks_modPh (n : Nat) (f : PhX → PhX) : (s.modPh n f).ticks = s.ticks := rfl
@[simp] theorem State.free_modPh (n : Nat) (f : PhX → PhX) : (s.modPh n f).free = s.free := rfl
@[simp] theorem State.aon_modPh (n : Nat) (f : PhX → PhX) : (s.modPh n f).aon = s.aon := rfl
@[simp] theorem State.core_modPh (n : Nat) (f : PhX → PhX) : (s.modPh n f).core = s.core := rfl
@[simp] theorem State.host_modPh (n : Nat) (f : PhX → PhX) : (s.modPh n f).host = s.host := rfl
@[simp] theorem State.service_modPh (n : Nat) (f : PhX → PhX) : (s.modPh n f).service = s.service := rfl
@[simp] theorem State.spi_modPh (n : Nat) (f : PhX → PhX) : (s.modPh n f).spi = s.spi := rfl
@[simp] theorem State.queue_modPh (n : Nat) (f : PhX → PhX) : (s.modPh n f).queue = s.queue := rfl
@[simp] theorem State.held_modPh (n : Nat) (f : PhX → PhX) : (s.modPh n f).held = s.held := rfl
@[simp] theorem State.released_modPh (n : Nat) (f : PhX → PhX) : (s.modPh n f).released = s.released := rfl
@[simp] theorem State.grants_modPh (n : Nat) (f : PhX → PhX) : (s.modPh n f).grants = s.grants := rfl
@[simp] theorem State.owed_modPh (n : Nat) (f : PhX → PhX) : (s.modPh n f).owed = s.owed := rfl
@[simp] theorem State.flt_modPh (n : Nat) (f : PhX → PhX) : (s.modPh n f).flt = s.flt := rfl
@[simp] theorem State.mons_modPh (n : Nat) (f : PhX → PhX) : (s.modPh n f).mons = s.mons := rfl
@[simp] theorem State.adcs_modPh (n : Nat) (f : PhX → PhX) : (s.modPh n f).adcs = s.adcs := rfl
@[simp] theorem State.harvs_modPh (n : Nat) (f : PhX → PhX) : (s.modPh n f).harvs = s.harvs := rfl
@[simp] theorem State.relay_modPh (n : Nat) (f : PhX → PhX) : (s.modPh n f).relay = s.relay := rfl
@[simp] theorem State.bridge_modPh (n : Nat) (f : PhX → PhX) : (s.modPh n f).bridge = s.bridge := rfl
@[simp] theorem State.gauge_modPh (n : Nat) (f : PhX → PhX) : (s.modPh n f).gauge = s.gauge := rfl
@[simp] theorem State.tt_modPh (n : Nat) (f : PhX → PhX) : (s.modPh n f).tt = s.tt := rfl
@[simp] theorem State.rails_modPh (n : Nat) (f : PhX → PhX) : (s.modPh n f).rails = s.rails := rfl
@[simp] theorem State.sync_modPh (n : Nat) (f : PhX → PhX) : (s.modPh n f).sync = s.sync := rfl
@[simp] theorem State.sync3_modPh (n : Nat) (f : PhX → PhX) : (s.modPh n f).sync3 = s.sync3 := rfl
@[simp] theorem State.heads_modPh (n : Nat) (f : PhX → PhX) : (s.modPh n f).heads = s.heads := rfl
@[simp] theorem State.store_modPh (n : Nat) (f : PhX → PhX) : (s.modPh n f).store = s.store := rfl
@[simp] theorem State.bist_modPh (n : Nat) (f : PhX → PhX) : (s.modPh n f).bist = s.bist := rfl
@[simp] theorem State.part_modHead (n : Nat) (f : HeadX → HeadX) : (s.modHead n f).part = s.part := rfl
@[simp] theorem State.rev_modHead (n : Nat) (f : HeadX → HeadX) : (s.modHead n f).rev = s.rev := rfl
@[simp] theorem State.pending_modHead (n : Nat) (f : HeadX → HeadX) : (s.modHead n f).pending = s.pending := rfl
@[simp] theorem State.regs_modHead (n : Nat) (f : HeadX → HeadX) : (s.modHead n f).regs = s.regs := rfl
@[simp] theorem State.dev_modHead (n : Nat) (f : HeadX → HeadX) : (s.modHead n f).dev = s.dev := rfl
@[simp] theorem State.compat_modHead (n : Nat) (f : HeadX → HeadX) : (s.modHead n f).compat = s.compat := rfl
@[simp] theorem State.lastReset_modHead (n : Nat) (f : HeadX → HeadX) : (s.modHead n f).lastReset = s.lastReset := rfl
@[simp] theorem State.ticks_modHead (n : Nat) (f : HeadX → HeadX) : (s.modHead n f).ticks = s.ticks := rfl
@[simp] theorem State.free_modHead (n : Nat) (f : HeadX → HeadX) : (s.modHead n f).free = s.free := rfl
@[simp] theorem State.aon_modHead (n : Nat) (f : HeadX → HeadX) : (s.modHead n f).aon = s.aon := rfl
@[simp] theorem State.core_modHead (n : Nat) (f : HeadX → HeadX) : (s.modHead n f).core = s.core := rfl
@[simp] theorem State.host_modHead (n : Nat) (f : HeadX → HeadX) : (s.modHead n f).host = s.host := rfl
@[simp] theorem State.service_modHead (n : Nat) (f : HeadX → HeadX) : (s.modHead n f).service = s.service := rfl
@[simp] theorem State.spi_modHead (n : Nat) (f : HeadX → HeadX) : (s.modHead n f).spi = s.spi := rfl
@[simp] theorem State.queue_modHead (n : Nat) (f : HeadX → HeadX) : (s.modHead n f).queue = s.queue := rfl
@[simp] theorem State.held_modHead (n : Nat) (f : HeadX → HeadX) : (s.modHead n f).held = s.held := rfl
@[simp] theorem State.released_modHead (n : Nat) (f : HeadX → HeadX) : (s.modHead n f).released = s.released := rfl
@[simp] theorem State.grants_modHead (n : Nat) (f : HeadX → HeadX) : (s.modHead n f).grants = s.grants := rfl
@[simp] theorem State.owed_modHead (n : Nat) (f : HeadX → HeadX) : (s.modHead n f).owed = s.owed := rfl
@[simp] theorem State.flt_modHead (n : Nat) (f : HeadX → HeadX) : (s.modHead n f).flt = s.flt := rfl
@[simp] theorem State.mons_modHead (n : Nat) (f : HeadX → HeadX) : (s.modHead n f).mons = s.mons := rfl
@[simp] theorem State.adcs_modHead (n : Nat) (f : HeadX → HeadX) : (s.modHead n f).adcs = s.adcs := rfl
@[simp] theorem State.harvs_modHead (n : Nat) (f : HeadX → HeadX) : (s.modHead n f).harvs = s.harvs := rfl
@[simp] theorem State.relay_modHead (n : Nat) (f : HeadX → HeadX) : (s.modHead n f).relay = s.relay := rfl
@[simp] theorem State.bridge_modHead (n : Nat) (f : HeadX → HeadX) : (s.modHead n f).bridge = s.bridge := rfl
@[simp] theorem State.gauge_modHead (n : Nat) (f : HeadX → HeadX) : (s.modHead n f).gauge = s.gauge := rfl
@[simp] theorem State.tt_modHead (n : Nat) (f : HeadX → HeadX) : (s.modHead n f).tt = s.tt := rfl
@[simp] theorem State.rails_modHead (n : Nat) (f : HeadX → HeadX) : (s.modHead n f).rails = s.rails := rfl
@[simp] theorem State.phs_modHead (n : Nat) (f : HeadX → HeadX) : (s.modHead n f).phs = s.phs := rfl
@[simp] theorem State.sync_modHead (n : Nat) (f : HeadX → HeadX) : (s.modHead n f).sync = s.sync := rfl
@[simp] theorem State.sync3_modHead (n : Nat) (f : HeadX → HeadX) : (s.modHead n f).sync3 = s.sync3 := rfl
@[simp] theorem State.store_modHead (n : Nat) (f : HeadX → HeadX) : (s.modHead n f).store = s.store := rfl
@[simp] theorem State.bist_modHead (n : Nat) (f : HeadX → HeadX) : (s.modHead n f).bist = s.bist := rfl
@[simp] theorem State.part_modPort (p : PortId) (f : PortX → PortX) : (s.modPort p f).part = s.part := by cases p <;> rfl
@[simp] theorem State.rev_modPort (p : PortId) (f : PortX → PortX) : (s.modPort p f).rev = s.rev := by cases p <;> rfl
@[simp] theorem State.pending_modPort (p : PortId) (f : PortX → PortX) : (s.modPort p f).pending = s.pending := by cases p <;> rfl
@[simp] theorem State.regs_modPort (p : PortId) (f : PortX → PortX) : (s.modPort p f).regs = s.regs := by cases p <;> rfl
@[simp] theorem State.dev_modPort (p : PortId) (f : PortX → PortX) : (s.modPort p f).dev = s.dev := by cases p <;> rfl
@[simp] theorem State.compat_modPort (p : PortId) (f : PortX → PortX) : (s.modPort p f).compat = s.compat := by cases p <;> rfl
@[simp] theorem State.lastReset_modPort (p : PortId) (f : PortX → PortX) : (s.modPort p f).lastReset = s.lastReset := by cases p <;> rfl
@[simp] theorem State.ticks_modPort (p : PortId) (f : PortX → PortX) : (s.modPort p f).ticks = s.ticks := by cases p <;> rfl
@[simp] theorem State.free_modPort (p : PortId) (f : PortX → PortX) : (s.modPort p f).free = s.free := by cases p <;> rfl
@[simp] theorem State.aon_modPort (p : PortId) (f : PortX → PortX) : (s.modPort p f).aon = s.aon := by cases p <;> rfl
@[simp] theorem State.core_modPort (p : PortId) (f : PortX → PortX) : (s.modPort p f).core = s.core := by cases p <;> rfl
@[simp] theorem State.queue_modPort (p : PortId) (f : PortX → PortX) : (s.modPort p f).queue = s.queue := by cases p <;> rfl
@[simp] theorem State.held_modPort (p : PortId) (f : PortX → PortX) : (s.modPort p f).held = s.held := by cases p <;> rfl
@[simp] theorem State.released_modPort (p : PortId) (f : PortX → PortX) : (s.modPort p f).released = s.released := by cases p <;> rfl
@[simp] theorem State.grants_modPort (p : PortId) (f : PortX → PortX) : (s.modPort p f).grants = s.grants := by cases p <;> rfl
@[simp] theorem State.owed_modPort (p : PortId) (f : PortX → PortX) : (s.modPort p f).owed = s.owed := by cases p <;> rfl
@[simp] theorem State.flt_modPort (p : PortId) (f : PortX → PortX) : (s.modPort p f).flt = s.flt := by cases p <;> rfl
@[simp] theorem State.mons_modPort (p : PortId) (f : PortX → PortX) : (s.modPort p f).mons = s.mons := by cases p <;> rfl
@[simp] theorem State.adcs_modPort (p : PortId) (f : PortX → PortX) : (s.modPort p f).adcs = s.adcs := by cases p <;> rfl
@[simp] theorem State.harvs_modPort (p : PortId) (f : PortX → PortX) : (s.modPort p f).harvs = s.harvs := by cases p <;> rfl
@[simp] theorem State.relay_modPort (p : PortId) (f : PortX → PortX) : (s.modPort p f).relay = s.relay := by cases p <;> rfl
@[simp] theorem State.bridge_modPort (p : PortId) (f : PortX → PortX) : (s.modPort p f).bridge = s.bridge := by cases p <;> rfl
@[simp] theorem State.gauge_modPort (p : PortId) (f : PortX → PortX) : (s.modPort p f).gauge = s.gauge := by cases p <;> rfl
@[simp] theorem State.tt_modPort (p : PortId) (f : PortX → PortX) : (s.modPort p f).tt = s.tt := by cases p <;> rfl
@[simp] theorem State.rails_modPort (p : PortId) (f : PortX → PortX) : (s.modPort p f).rails = s.rails := by cases p <;> rfl
@[simp] theorem State.phs_modPort (p : PortId) (f : PortX → PortX) : (s.modPort p f).phs = s.phs := by cases p <;> rfl
@[simp] theorem State.sync_modPort (p : PortId) (f : PortX → PortX) : (s.modPort p f).sync = s.sync := by cases p <;> rfl
@[simp] theorem State.sync3_modPort (p : PortId) (f : PortX → PortX) : (s.modPort p f).sync3 = s.sync3 := by cases p <;> rfl
@[simp] theorem State.heads_modPort (p : PortId) (f : PortX → PortX) : (s.modPort p f).heads = s.heads := by cases p <;> rfl
@[simp] theorem State.store_modPort (p : PortId) (f : PortX → PortX) : (s.modPort p f).store = s.store := by cases p <;> rfl
@[simp] theorem State.bist_modPort (p : PortId) (f : PortX → PortX) : (s.modPort p f).bist = s.bist := by cases p <;> rfl
@[simp] theorem State.part_reach (t : Nat) : (s.reach t).part = s.part := rfl
@[simp] theorem State.rev_reach (t : Nat) : (s.reach t).rev = s.rev := rfl
@[simp] theorem State.pending_reach (t : Nat) : (s.reach t).pending = s.pending := rfl
@[simp] theorem State.regs_reach (t : Nat) : (s.reach t).regs = s.regs := rfl
@[simp] theorem State.dev_reach (t : Nat) : (s.reach t).dev = s.dev := rfl
@[simp] theorem State.compat_reach (t : Nat) : (s.reach t).compat = s.compat := rfl
@[simp] theorem State.lastReset_reach (t : Nat) : (s.reach t).lastReset = s.lastReset := rfl
@[simp] theorem State.free_reach (t : Nat) : (s.reach t).free = s.free := rfl
@[simp] theorem State.aon_reach (t : Nat) : (s.reach t).aon = s.aon := rfl
@[simp] theorem State.core_reach (t : Nat) : (s.reach t).core = s.core := rfl
@[simp] theorem State.host_reach (t : Nat) : (s.reach t).host = s.host := rfl
@[simp] theorem State.service_reach (t : Nat) : (s.reach t).service = s.service := rfl
@[simp] theorem State.spi_reach (t : Nat) : (s.reach t).spi = s.spi := rfl
@[simp] theorem State.queue_reach (t : Nat) : (s.reach t).queue = s.queue := rfl
@[simp] theorem State.held_reach (t : Nat) : (s.reach t).held = s.held := rfl
@[simp] theorem State.released_reach (t : Nat) : (s.reach t).released = s.released := rfl
@[simp] theorem State.grants_reach (t : Nat) : (s.reach t).grants = s.grants := rfl
@[simp] theorem State.owed_reach (t : Nat) : (s.reach t).owed = s.owed := rfl
@[simp] theorem State.flt_reach (t : Nat) : (s.reach t).flt = s.flt := rfl
@[simp] theorem State.mons_reach (t : Nat) : (s.reach t).mons = s.mons := rfl
@[simp] theorem State.adcs_reach (t : Nat) : (s.reach t).adcs = s.adcs := rfl
@[simp] theorem State.harvs_reach (t : Nat) : (s.reach t).harvs = s.harvs := rfl
@[simp] theorem State.relay_reach (t : Nat) : (s.reach t).relay = s.relay := rfl
@[simp] theorem State.bridge_reach (t : Nat) : (s.reach t).bridge = s.bridge := rfl
@[simp] theorem State.gauge_reach (t : Nat) : (s.reach t).gauge = s.gauge := rfl
@[simp] theorem State.tt_reach (t : Nat) : (s.reach t).tt = s.tt := rfl
@[simp] theorem State.rails_reach (t : Nat) : (s.reach t).rails = s.rails := rfl
@[simp] theorem State.phs_reach (t : Nat) : (s.reach t).phs = s.phs := rfl
@[simp] theorem State.sync_reach (t : Nat) : (s.reach t).sync = s.sync := rfl
@[simp] theorem State.sync3_reach (t : Nat) : (s.reach t).sync3 = s.sync3 := rfl
@[simp] theorem State.heads_reach (t : Nat) : (s.reach t).heads = s.heads := rfl
@[simp] theorem State.store_reach (t : Nat) : (s.reach t).store = s.store := rfl
@[simp] theorem State.bist_reach (t : Nat) : (s.reach t).bist = s.bist := rfl

/-! ### A copy of the reference -/

@[simp] theorem State.part_modRef (bp : Nat) (f : SyncX → SyncX) : (s.modRef bp f).part = s.part := by unfold State.modRef; split <;> rfl
@[simp] theorem State.rev_modRef (bp : Nat) (f : SyncX → SyncX) : (s.modRef bp f).rev = s.rev := by unfold State.modRef; split <;> rfl
@[simp] theorem State.pending_modRef (bp : Nat) (f : SyncX → SyncX) : (s.modRef bp f).pending = s.pending := by unfold State.modRef; split <;> rfl
@[simp] theorem State.regs_modRef (bp : Nat) (f : SyncX → SyncX) : (s.modRef bp f).regs = s.regs := by unfold State.modRef; split <;> rfl
@[simp] theorem State.dev_modRef (bp : Nat) (f : SyncX → SyncX) : (s.modRef bp f).dev = s.dev := by unfold State.modRef; split <;> rfl
@[simp] theorem State.compat_modRef (bp : Nat) (f : SyncX → SyncX) : (s.modRef bp f).compat = s.compat := by unfold State.modRef; split <;> rfl
@[simp] theorem State.lastReset_modRef (bp : Nat) (f : SyncX → SyncX) : (s.modRef bp f).lastReset = s.lastReset := by unfold State.modRef; split <;> rfl
@[simp] theorem State.ticks_modRef (bp : Nat) (f : SyncX → SyncX) : (s.modRef bp f).ticks = s.ticks := by unfold State.modRef; split <;> rfl
@[simp] theorem State.free_modRef (bp : Nat) (f : SyncX → SyncX) : (s.modRef bp f).free = s.free := by unfold State.modRef; split <;> rfl
@[simp] theorem State.aon_modRef (bp : Nat) (f : SyncX → SyncX) : (s.modRef bp f).aon = s.aon := by unfold State.modRef; split <;> rfl
@[simp] theorem State.core_modRef (bp : Nat) (f : SyncX → SyncX) : (s.modRef bp f).core = s.core := by unfold State.modRef; split <;> rfl
@[simp] theorem State.host_modRef (bp : Nat) (f : SyncX → SyncX) : (s.modRef bp f).host = s.host := by unfold State.modRef; split <;> rfl
@[simp] theorem State.service_modRef (bp : Nat) (f : SyncX → SyncX) : (s.modRef bp f).service = s.service := by unfold State.modRef; split <;> rfl
@[simp] theorem State.spi_modRef (bp : Nat) (f : SyncX → SyncX) : (s.modRef bp f).spi = s.spi := by unfold State.modRef; split <;> rfl
@[simp] theorem State.queue_modRef (bp : Nat) (f : SyncX → SyncX) : (s.modRef bp f).queue = s.queue := by unfold State.modRef; split <;> rfl
@[simp] theorem State.held_modRef (bp : Nat) (f : SyncX → SyncX) : (s.modRef bp f).held = s.held := by unfold State.modRef; split <;> rfl
@[simp] theorem State.released_modRef (bp : Nat) (f : SyncX → SyncX) : (s.modRef bp f).released = s.released := by unfold State.modRef; split <;> rfl
@[simp] theorem State.grants_modRef (bp : Nat) (f : SyncX → SyncX) : (s.modRef bp f).grants = s.grants := by unfold State.modRef; split <;> rfl
@[simp] theorem State.owed_modRef (bp : Nat) (f : SyncX → SyncX) : (s.modRef bp f).owed = s.owed := by unfold State.modRef; split <;> rfl
@[simp] theorem State.flt_modRef (bp : Nat) (f : SyncX → SyncX) : (s.modRef bp f).flt = s.flt := by unfold State.modRef; split <;> rfl
@[simp] theorem State.mons_modRef (bp : Nat) (f : SyncX → SyncX) : (s.modRef bp f).mons = s.mons := by unfold State.modRef; split <;> rfl
@[simp] theorem State.adcs_modRef (bp : Nat) (f : SyncX → SyncX) : (s.modRef bp f).adcs = s.adcs := by unfold State.modRef; split <;> rfl
@[simp] theorem State.harvs_modRef (bp : Nat) (f : SyncX → SyncX) : (s.modRef bp f).harvs = s.harvs := by unfold State.modRef; split <;> rfl
@[simp] theorem State.relay_modRef (bp : Nat) (f : SyncX → SyncX) : (s.modRef bp f).relay = s.relay := by unfold State.modRef; split <;> rfl
@[simp] theorem State.bridge_modRef (bp : Nat) (f : SyncX → SyncX) : (s.modRef bp f).bridge = s.bridge := by unfold State.modRef; split <;> rfl
@[simp] theorem State.gauge_modRef (bp : Nat) (f : SyncX → SyncX) : (s.modRef bp f).gauge = s.gauge := by unfold State.modRef; split <;> rfl
@[simp] theorem State.tt_modRef (bp : Nat) (f : SyncX → SyncX) : (s.modRef bp f).tt = s.tt := by unfold State.modRef; split <;> rfl
@[simp] theorem State.rails_modRef (bp : Nat) (f : SyncX → SyncX) : (s.modRef bp f).rails = s.rails := by unfold State.modRef; split <;> rfl
@[simp] theorem State.phs_modRef (bp : Nat) (f : SyncX → SyncX) : (s.modRef bp f).phs = s.phs := by unfold State.modRef; split <;> rfl
@[simp] theorem State.heads_modRef (bp : Nat) (f : SyncX → SyncX) : (s.modRef bp f).heads = s.heads := by unfold State.modRef; split <;> rfl
@[simp] theorem State.store_modRef (bp : Nat) (f : SyncX → SyncX) : (s.modRef bp f).store = s.store := by unfold State.modRef; split <;> rfl
@[simp] theorem State.bist_modRef (bp : Nat) (f : SyncX → SyncX) : (s.modRef bp f).bist = s.bist := by unfold State.modRef; split <;> rfl

/-- A copy of the reference reads as changed, the other as before. -/
theorem State.ref_modRef (a b : Nat) (f : SyncX → SyncX) :
    (s.modRef a f).ref b = if (b = 3) ↔ (a = 3) then f (s.ref b) else s.ref b := by
  unfold State.modRef State.ref; by_cases ha : a = 3 <;> by_cases hb : b = 3 <;> simp [ha, hb]

/-! ### The ends of a meaning -/

@[simp] theorem State.part_settle : s.settle.part = s.part := rfl
@[simp] theorem State.rev_settle : s.settle.rev = s.rev := rfl
@[simp] theorem State.pending_settle : s.settle.pending = s.pending := rfl
@[simp] theorem State.regs_settle : s.settle.regs = s.regs := rfl
@[simp] theorem State.dev_settle : s.settle.dev = s.dev := rfl
@[simp] theorem State.compat_settle : s.settle.compat = s.compat := rfl
@[simp] theorem State.lastReset_settle : s.settle.lastReset = s.lastReset := rfl
@[simp] theorem State.ticks_settle : s.settle.ticks = s.ticks := rfl
@[simp] theorem State.free_settle : s.settle.free = s.free := rfl
@[simp] theorem State.aon_settle : s.settle.aon = s.aon := rfl
@[simp] theorem State.host_settle : s.settle.host = s.host := rfl
@[simp] theorem State.service_settle : s.settle.service = s.service := rfl
@[simp] theorem State.spi_settle : s.settle.spi = s.spi := rfl
@[simp] theorem State.queue_settle : s.settle.queue = s.queue := rfl
@[simp] theorem State.held_settle : s.settle.held = s.held := rfl
@[simp] theorem State.released_settle : s.settle.released = s.released := rfl
@[simp] theorem State.grants_settle : s.settle.grants = s.grants := rfl
@[simp] theorem State.owed_settle : s.settle.owed = s.owed := rfl
@[simp] theorem State.mons_settle : s.settle.mons = s.mons := rfl
@[simp] theorem State.adcs_settle : s.settle.adcs = s.adcs := rfl
@[simp] theorem State.harvs_settle : s.settle.harvs = s.harvs := rfl
@[simp] theorem State.relay_settle : s.settle.relay = s.relay := rfl
@[simp] theorem State.bridge_settle : s.settle.bridge = s.bridge := rfl
@[simp] theorem State.gauge_settle : s.settle.gauge = s.gauge := rfl
@[simp] theorem State.tt_settle : s.settle.tt = s.tt := rfl
@[simp] theorem State.rails_settle : s.settle.rails = s.rails := rfl
@[simp] theorem State.phs_settle : s.settle.phs = s.phs := rfl
@[simp] theorem State.sync3_settle : s.settle.sync3 = s.sync3 := rfl
@[simp] theorem State.sync_settle : s.settle.sync = s.sync := rfl
@[simp] theorem State.heads_settle : s.settle.heads = s.heads := rfl
@[simp] theorem State.store_settle : s.settle.store = s.store := rfl
@[simp] theorem State.bist_settle : s.settle.bist = s.bist := rfl
@[simp] theorem State.core_vcore_settle : s.settle.core.vcore = s.core.vcore := rfl
@[simp] theorem State.core_stby_settle : s.settle.core.stby = s.core.stby := rfl
@[simp] theorem State.core_levelAt_settle : s.settle.core.levelAt = s.core.levelAt := rfl
@[simp] theorem State.core_refAt_settle : s.settle.core.refAt = s.core.refAt := rfl
@[simp] theorem State.core_lowAt_settle : s.settle.core.lowAt = s.core.lowAt := rfl
@[simp] theorem State.core_fine_settle : s.settle.core.fine = s.core.fine := rfl
@[simp] theorem State.core_coarse_settle : s.settle.core.coarse = s.core.coarse := rfl
@[simp] theorem State.core_coarseN_settle : s.settle.core.coarseN = s.core.coarseN := rfl
@[simp] theorem State.core_winAt_settle : s.settle.core.winAt = s.core.winAt := rfl
@[simp] theorem State.core_outRun_settle : s.settle.core.outRun = s.core.outRun := rfl
@[simp] theorem State.core_calCount_settle : s.settle.core.calCount = s.core.calCount := rfl
@[simp] theorem State.core_calTaps_settle : s.settle.core.calTaps = s.core.calTaps := rfl
@[simp] theorem State.core_passRun_settle : s.settle.core.passRun = s.core.passRun := rfl
@[simp] theorem State.core_oscTrim_settle : s.settle.core.oscTrim = s.core.oscTrim := rfl
@[simp] theorem State.flt_causes_settle : s.settle.flt.causes = s.flt.causes := rfl
@[simp] theorem State.flt_held_settle : s.settle.flt.held = s.flt.held := rfl
@[simp] theorem State.flt_srcs_settle : s.settle.flt.srcs = s.flt.srcs := rfl
@[simp] theorem State.flt_grants_settle : s.settle.flt.grants = s.flt.grants := rfl
@[simp] theorem State.flt_logQ_settle : s.settle.flt.logQ = s.flt.logQ := rfl
@[simp] theorem State.flt_fltMin_settle : s.settle.flt.fltMin = s.flt.fltMin := rfl
@[simp] theorem State.flt_fltHeld_settle : s.settle.flt.fltHeld = s.flt.fltHeld := rfl
@[simp] theorem State.flt_fltRel_settle : s.settle.flt.fltRel = s.flt.fltRel := rfl
@[simp] theorem State.flt_evtPulse_settle : s.settle.flt.evtPulse = s.flt.evtPulse := rfl
@[simp] theorem State.flt_waitRouted_settle : s.settle.flt.waitRouted = s.flt.waitRouted := rfl
@[simp] theorem State.flt_sigHigh_settle : s.settle.flt.sigHigh = s.flt.sigHigh := rfl
@[simp] theorem State.flt_sigFallen_settle : s.settle.flt.sigFallen = s.flt.sigFallen := rfl
@[simp] theorem State.flt_stuckAt_settle : s.settle.flt.stuckAt = s.flt.stuckAt := rfl
@[simp] theorem State.flt_dropTold_settle : s.settle.flt.dropTold = s.flt.dropTold := rfl

/-- A meaning that changes nothing leaves the trackers settled. -/
@[simp] theorem State.commit_self : s.commit s = s.settle := rfl
@[simp] theorem State.pending_commit (t : State) : (s.commit t).pending = s.pending := rfl
@[simp] theorem State.part_commit (t : State) : (s.commit t).part = s.part := rfl
@[simp] theorem State.rev_commit (t : State) : (s.commit t).rev = s.rev := rfl
@[simp] theorem State.regs_commit (t : State) : (s.commit t).regs = t.regs := rfl
@[simp] theorem State.dev_commit (t : State) : (s.commit t).dev = t.dev := rfl
@[simp] theorem State.compat_commit (t : State) : (s.commit t).compat = t.compat := rfl
@[simp] theorem State.lastReset_commit (t : State) : (s.commit t).lastReset = t.lastReset := rfl
@[simp] theorem State.ticks_commit (t : State) : (s.commit t).ticks = t.ticks := rfl
@[simp] theorem State.free_commit (t : State) : (s.commit t).free = t.free := rfl
@[simp] theorem State.aon_commit (t : State) : (s.commit t).aon = t.aon := rfl
@[simp] theorem State.host_commit (t : State) : (s.commit t).host = t.host := rfl
@[simp] theorem State.service_commit (t : State) : (s.commit t).service = t.service := rfl
@[simp] theorem State.spi_commit (t : State) : (s.commit t).spi = t.spi := rfl
@[simp] theorem State.queue_commit (t : State) : (s.commit t).queue = t.queue := rfl
@[simp] theorem State.held_commit (t : State) : (s.commit t).held = t.held := rfl
@[simp] theorem State.released_commit (t : State) : (s.commit t).released = t.released := rfl
@[simp] theorem State.grants_commit (t : State) : (s.commit t).grants = t.grants := rfl
@[simp] theorem State.owed_commit (t : State) : (s.commit t).owed = t.owed := rfl
@[simp] theorem State.mons_commit (t : State) : (s.commit t).mons = t.mons := rfl
@[simp] theorem State.adcs_commit (t : State) : (s.commit t).adcs = t.adcs := rfl
@[simp] theorem State.harvs_commit (t : State) : (s.commit t).harvs = t.harvs := rfl
@[simp] theorem State.relay_commit (t : State) : (s.commit t).relay = t.relay := rfl
@[simp] theorem State.bridge_commit (t : State) : (s.commit t).bridge = t.bridge := rfl
@[simp] theorem State.gauge_commit (t : State) : (s.commit t).gauge = t.gauge := rfl
@[simp] theorem State.tt_commit (t : State) : (s.commit t).tt = t.tt := rfl
@[simp] theorem State.rails_commit (t : State) : (s.commit t).rails = t.rails := rfl
@[simp] theorem State.phs_commit (t : State) : (s.commit t).phs = t.phs := rfl
@[simp] theorem State.sync3_commit (t : State) : (s.commit t).sync3 = t.sync3 := rfl
@[simp] theorem State.sync_commit (t : State) : (s.commit t).sync = t.sync := rfl
@[simp] theorem State.heads_commit (t : State) : (s.commit t).heads = t.heads := rfl
@[simp] theorem State.store_commit (t : State) : (s.commit t).store = t.store := rfl
@[simp] theorem State.bist_commit (t : State) : (s.commit t).bist = t.bist := rfl
@[simp] theorem State.core_vcore_commit (t : State) : (s.commit t).core.vcore = t.core.vcore := rfl
@[simp] theorem State.core_stby_commit (t : State) : (s.commit t).core.stby = t.core.stby := rfl
@[simp] theorem State.core_levelAt_commit (t : State) : (s.commit t).core.levelAt = t.core.levelAt := rfl
@[simp] theorem State.core_refAt_commit (t : State) : (s.commit t).core.refAt = t.core.refAt := rfl
@[simp] theorem State.core_lowAt_commit (t : State) : (s.commit t).core.lowAt = t.core.lowAt := rfl
@[simp] theorem State.core_fine_commit (t : State) : (s.commit t).core.fine = t.core.fine := rfl
@[simp] theorem State.core_coarse_commit (t : State) : (s.commit t).core.coarse = t.core.coarse := rfl
@[simp] theorem State.core_coarseN_commit (t : State) : (s.commit t).core.coarseN = t.core.coarseN := rfl
@[simp] theorem State.core_winAt_commit (t : State) : (s.commit t).core.winAt = t.core.winAt := rfl
@[simp] theorem State.core_outRun_commit (t : State) : (s.commit t).core.outRun = t.core.outRun := rfl
@[simp] theorem State.core_calCount_commit (t : State) : (s.commit t).core.calCount = t.core.calCount := rfl
@[simp] theorem State.core_calTaps_commit (t : State) : (s.commit t).core.calTaps = t.core.calTaps := rfl
@[simp] theorem State.core_passRun_commit (t : State) : (s.commit t).core.passRun = t.core.passRun := rfl
@[simp] theorem State.core_oscTrim_commit (t : State) : (s.commit t).core.oscTrim = t.core.oscTrim := rfl
@[simp] theorem State.flt_causes_commit (t : State) : (s.commit t).flt.causes = t.flt.causes := rfl
@[simp] theorem State.flt_held_commit (t : State) : (s.commit t).flt.held = t.flt.held := rfl
@[simp] theorem State.flt_srcs_commit (t : State) : (s.commit t).flt.srcs = t.flt.srcs := rfl
@[simp] theorem State.flt_grants_commit (t : State) : (s.commit t).flt.grants = t.flt.grants := rfl
@[simp] theorem State.flt_logQ_commit (t : State) : (s.commit t).flt.logQ = t.flt.logQ := rfl
@[simp] theorem State.flt_fltMin_commit (t : State) : (s.commit t).flt.fltMin = t.flt.fltMin := rfl
@[simp] theorem State.flt_fltHeld_commit (t : State) : (s.commit t).flt.fltHeld = t.flt.fltHeld := rfl
@[simp] theorem State.flt_fltRel_commit (t : State) : (s.commit t).flt.fltRel = t.flt.fltRel := rfl
@[simp] theorem State.flt_evtPulse_commit (t : State) : (s.commit t).flt.evtPulse = t.flt.evtPulse := rfl
@[simp] theorem State.flt_waitRouted_commit (t : State) : (s.commit t).flt.waitRouted = t.flt.waitRouted := rfl
@[simp] theorem State.flt_sigHigh_commit (t : State) : (s.commit t).flt.sigHigh = t.flt.sigHigh := rfl
@[simp] theorem State.flt_sigFallen_commit (t : State) : (s.commit t).flt.sigFallen = t.flt.sigFallen := rfl
@[simp] theorem State.flt_stuckAt_commit (t : State) : (s.commit t).flt.stuckAt = t.flt.stuckAt := rfl
@[simp] theorem State.flt_dropTold_commit (t : State) : (s.commit t).flt.dropTold = t.flt.dropTold := rfl

/-- A word read through the end of a meaning. -/
theorem State.word_commit (t : State) (h : t.part = s.part) (a : Nat) : (s.commit t).word a = t.word a :=
  State.word_congr (s := t) (t := s.commit t) h.symm rfl a

/-- The records of a source read through the end of a meaning. -/
@[simp] theorem State.srcRec_commit (t : State) (e : Nat) : (s.commit t).srcRec e = t.srcRec e := rfl
@[simp] theorem State.mon_commit (t : State) (n : Nat) : (s.commit t).mon n = t.mon n := rfl
@[simp] theorem State.harv_commit (t : State) (n : Nat) : (s.commit t).harv n = t.harv n := rfl
@[simp] theorem State.adc_commit (t : State) (n : Nat) : (s.commit t).adc n = t.adc n := rfl
@[simp] theorem State.rail_commit (t : State) (n : Nat) : (s.commit t).rail n = t.rail n := rfl
@[simp] theorem State.ph_commit (t : State) (n : Nat) : (s.commit t).ph n = t.ph n := rfl
@[simp] theorem State.head_commit (t : State) (n : Nat) : (s.commit t).head n = t.head n := rfl
@[simp] theorem State.ref_commit (t : State) (bp : Nat) : (s.commit t).ref bp = t.ref bp := rfl
@[simp] theorem State.port_commit (t : State) (p : PortId) : (s.commit t).port p = t.port p := by cases p <;> rfl

/-- What of the trackers a command's end can change: a cause that is PRESENT was so before. -/
theorem State.present_settle (x : Nat × Nat × Nat) (h : x ∈ s.settle.flt.present) : x ∈ s.flt.present :=
  List.mem_of_mem_filter h

end Sys2Proof.Machine
end

