-- ==== Sys2Proof/Laws/Ops.lean ====
section
/-! SUPPORT. What the causes, the ports and the time operations leave alone: they write no register. -/

namespace Sys2Proof.Machine

variable (s : State)

/-! ### Causes -/

@[simp] theorem State.part_setPresent (e no key : Nat) : (s.setPresent e no key).part = s.part := by unfold State.setPresent; split <;> rfl
@[simp] theorem State.rev_setPresent (e no key : Nat) : (s.setPresent e no key).rev = s.rev := by unfold State.setPresent; split <;> rfl
@[simp] theorem State.pending_setPresent (e no key : Nat) : (s.setPresent e no key).pending = s.pending := by unfold State.setPresent; split <;> rfl
@[simp] theorem State.regs_setPresent (e no key : Nat) : (s.setPresent e no key).regs = s.regs := by unfold State.setPresent; split <;> rfl
@[simp] theorem State.dev_setPresent (e no key : Nat) : (s.setPresent e no key).dev = s.dev := by unfold State.setPresent; split <;> rfl
@[simp] theorem State.compat_setPresent (e no key : Nat) : (s.setPresent e no key).compat = s.compat := by unfold State.setPresent; split <;> rfl
@[simp] theorem State.lastReset_setPresent (e no key : Nat) : (s.setPresent e no key).lastReset = s.lastReset := by unfold State.setPresent; split <;> rfl
@[simp] theorem State.ticks_setPresent (e no key : Nat) : (s.setPresent e no key).ticks = s.ticks := by unfold State.setPresent; split <;> rfl
@[simp] theorem State.free_setPresent (e no key : Nat) : (s.setPresent e no key).free = s.free := by unfold State.setPresent; split <;> rfl
@[simp] theorem State.aon_setPresent (e no key : Nat) : (s.setPresent e no key).aon = s.aon := by unfold State.setPresent; split <;> rfl
@[simp] theorem State.core_setPresent (e no key : Nat) : (s.setPresent e no key).core = s.core := by unfold State.setPresent; split <;> rfl
@[simp] theorem State.host_setPresent (e no key : Nat) : (s.setPresent e no key).host = s.host := by unfold State.setPresent; split <;> rfl
@[simp] theorem State.service_setPresent (e no key : Nat) : (s.setPresent e no key).service = s.service := by unfold State.setPresent; split <;> rfl
@[simp] theorem State.spi_setPresent (e no key : Nat) : (s.setPresent e no key).spi = s.spi := by unfold State.setPresent; split <;> rfl
@[simp] theorem State.queue_setPresent (e no key : Nat) : (s.setPresent e no key).queue = s.queue := by unfold State.setPresent; split <;> rfl
@[simp] theorem State.held_setPresent (e no key : Nat) : (s.setPresent e no key).held = s.held := by unfold State.setPresent; split <;> rfl
@[simp] theorem State.released_setPresent (e no key : Nat) : (s.setPresent e no key).released = s.released := by unfold State.setPresent; split <;> rfl
@[simp] theorem State.grants_setPresent (e no key : Nat) : (s.setPresent e no key).grants = s.grants := by unfold State.setPresent; split <;> rfl
@[simp] theorem State.owed_setPresent (e no key : Nat) : (s.setPresent e no key).owed = s.owed := by unfold State.setPresent; split <;> rfl
@[simp] theorem State.mons_setPresent (e no key : Nat) : (s.setPresent e no key).mons = s.mons := by unfold State.setPresent; split <;> rfl
@[simp] theorem State.adcs_setPresent (e no key : Nat) : (s.setPresent e no key).adcs = s.adcs := by unfold State.setPresent; split <;> rfl
@[simp] theorem State.harvs_setPresent (e no key : Nat) : (s.setPresent e no key).harvs = s.harvs := by unfold State.setPresent; split <;> rfl
@[simp] theorem State.relay_setPresent (e no key : Nat) : (s.setPresent e no key).relay = s.relay := by unfold State.setPresent; split <;> rfl
@[simp] theorem State.bridge_setPresent (e no key : Nat) : (s.setPresent e no key).bridge = s.bridge := by unfold State.setPresent; split <;> rfl
@[simp] theorem State.gauge_setPresent (e no key : Nat) : (s.setPresent e no key).gauge = s.gauge := by unfold State.setPresent; split <;> rfl
@[simp] theorem State.tt_setPresent (e no key : Nat) : (s.setPresent e no key).tt = s.tt := by unfold State.setPresent; split <;> rfl
@[simp] theorem State.rails_setPresent (e no key : Nat) : (s.setPresent e no key).rails = s.rails := by unfold State.setPresent; split <;> rfl
@[simp] theorem State.phs_setPresent (e no key : Nat) : (s.setPresent e no key).phs = s.phs := by unfold State.setPresent; split <;> rfl
@[simp] theorem State.sync_setPresent (e no key : Nat) : (s.setPresent e no key).sync = s.sync := by unfold State.setPresent; split <;> rfl
@[simp] theorem State.heads_setPresent (e no key : Nat) : (s.setPresent e no key).heads = s.heads := by unfold State.setPresent; split <;> rfl
@[simp] theorem State.store_setPresent (e no key : Nat) : (s.setPresent e no key).store = s.store := by unfold State.setPresent; split <;> rfl
@[simp] theorem State.bist_setPresent (e no key : Nat) : (s.setPresent e no key).bist = s.bist := by unfold State.setPresent; split <;> rfl
@[simp] theorem State.part_clearCause (e no : Nat) : (s.clearCause e no).part = s.part := rfl
@[simp] theorem State.rev_clearCause (e no : Nat) : (s.clearCause e no).rev = s.rev := rfl
@[simp] theorem State.pending_clearCause (e no : Nat) : (s.clearCause e no).pending = s.pending := rfl
@[simp] theorem State.regs_clearCause (e no : Nat) : (s.clearCause e no).regs = s.regs := rfl
@[simp] theorem State.dev_clearCause (e no : Nat) : (s.clearCause e no).dev = s.dev := rfl
@[simp] theorem State.compat_clearCause (e no : Nat) : (s.clearCause e no).compat = s.compat := rfl
@[simp] theorem State.lastReset_clearCause (e no : Nat) : (s.clearCause e no).lastReset = s.lastReset := rfl
@[simp] theorem State.ticks_clearCause (e no : Nat) : (s.clearCause e no).ticks = s.ticks := rfl
@[simp] theorem State.free_clearCause (e no : Nat) : (s.clearCause e no).free = s.free := rfl
@[simp] theorem State.aon_clearCause (e no : Nat) : (s.clearCause e no).aon = s.aon := rfl
@[simp] theorem State.core_clearCause (e no : Nat) : (s.clearCause e no).core = s.core := rfl
@[simp] theorem State.host_clearCause (e no : Nat) : (s.clearCause e no).host = s.host := rfl
@[simp] theorem State.service_clearCause (e no : Nat) : (s.clearCause e no).service = s.service := rfl
@[simp] theorem State.spi_clearCause (e no : Nat) : (s.clearCause e no).spi = s.spi := rfl
@[simp] theorem State.queue_clearCause (e no : Nat) : (s.clearCause e no).queue = s.queue := rfl
@[simp] theorem State.held_clearCause (e no : Nat) : (s.clearCause e no).held = s.held := rfl
@[simp] theorem State.released_clearCause (e no : Nat) : (s.clearCause e no).released = s.released := rfl
@[simp] theorem State.grants_clearCause (e no : Nat) : (s.clearCause e no).grants = s.grants := rfl
@[simp] theorem State.owed_clearCause (e no : Nat) : (s.clearCause e no).owed = s.owed := rfl
@[simp] theorem State.mons_clearCause (e no : Nat) : (s.clearCause e no).mons = s.mons := rfl
@[simp] theorem State.adcs_clearCause (e no : Nat) : (s.clearCause e no).adcs = s.adcs := rfl
@[simp] theorem State.harvs_clearCause (e no : Nat) : (s.clearCause e no).harvs = s.harvs := rfl
@[simp] theorem State.relay_clearCause (e no : Nat) : (s.clearCause e no).relay = s.relay := rfl
@[simp] theorem State.bridge_clearCause (e no : Nat) : (s.clearCause e no).bridge = s.bridge := rfl
@[simp] theorem State.gauge_clearCause (e no : Nat) : (s.clearCause e no).gauge = s.gauge := rfl
@[simp] theorem State.tt_clearCause (e no : Nat) : (s.clearCause e no).tt = s.tt := rfl
@[simp] theorem State.rails_clearCause (e no : Nat) : (s.clearCause e no).rails = s.rails := rfl
@[simp] theorem State.phs_clearCause (e no : Nat) : (s.clearCause e no).phs = s.phs := rfl
@[simp] theorem State.sync_clearCause (e no : Nat) : (s.clearCause e no).sync = s.sync := rfl
@[simp] theorem State.heads_clearCause (e no : Nat) : (s.clearCause e no).heads = s.heads := rfl
@[simp] theorem State.store_clearCause (e no : Nat) : (s.clearCause e no).store = s.store := rfl
@[simp] theorem State.bist_clearCause (e no : Nat) : (s.clearCause e no).bist = s.bist := rfl
@[simp] theorem State.part_clear (e : Nat) (n : String) : (s.clear e n).part = s.part := by unfold State.clear; split <;> rfl
@[simp] theorem State.rev_clear (e : Nat) (n : String) : (s.clear e n).rev = s.rev := by unfold State.clear; split <;> rfl
@[simp] theorem State.pending_clear (e : Nat) (n : String) : (s.clear e n).pending = s.pending := by unfold State.clear; split <;> rfl
@[simp] theorem State.regs_clear (e : Nat) (n : String) : (s.clear e n).regs = s.regs := by unfold State.clear; split <;> rfl
@[simp] theorem State.dev_clear (e : Nat) (n : String) : (s.clear e n).dev = s.dev := by unfold State.clear; split <;> rfl
@[simp] theorem State.compat_clear (e : Nat) (n : String) : (s.clear e n).compat = s.compat := by unfold State.clear; split <;> rfl
@[simp] theorem State.lastReset_clear (e : Nat) (n : String) : (s.clear e n).lastReset = s.lastReset := by unfold State.clear; split <;> rfl
@[simp] theorem State.ticks_clear (e : Nat) (n : String) : (s.clear e n).ticks = s.ticks := by unfold State.clear; split <;> rfl
@[simp] theorem State.free_clear (e : Nat) (n : String) : (s.clear e n).free = s.free := by unfold State.clear; split <;> rfl
@[simp] theorem State.aon_clear (e : Nat) (n : String) : (s.clear e n).aon = s.aon := by unfold State.clear; split <;> rfl
@[simp] theorem State.core_clear (e : Nat) (n : String) : (s.clear e n).core = s.core := by unfold State.clear; split <;> rfl
@[simp] theorem State.host_clear (e : Nat) (n : String) : (s.clear e n).host = s.host := by unfold State.clear; split <;> rfl
@[simp] theorem State.service_clear (e : Nat) (n : String) : (s.clear e n).service = s.service := by unfold State.clear; split <;> rfl
@[simp] theorem State.spi_clear (e : Nat) (n : String) : (s.clear e n).spi = s.spi := by unfold State.clear; split <;> rfl
@[simp] theorem State.queue_clear (e : Nat) (n : String) : (s.clear e n).queue = s.queue := by unfold State.clear; split <;> rfl
@[simp] theorem State.held_clear (e : Nat) (n : String) : (s.clear e n).held = s.held := by unfold State.clear; split <;> rfl
@[simp] theorem State.released_clear (e : Nat) (n : String) : (s.clear e n).released = s.released := by unfold State.clear; split <;> rfl
@[simp] theorem State.grants_clear (e : Nat) (n : String) : (s.clear e n).grants = s.grants := by unfold State.clear; split <;> rfl
@[simp] theorem State.owed_clear (e : Nat) (n : String) : (s.clear e n).owed = s.owed := by unfold State.clear; split <;> rfl
@[simp] theorem State.mons_clear (e : Nat) (n : String) : (s.clear e n).mons = s.mons := by unfold State.clear; split <;> rfl
@[simp] theorem State.adcs_clear (e : Nat) (n : String) : (s.clear e n).adcs = s.adcs := by unfold State.clear; split <;> rfl
@[simp] theorem State.harvs_clear (e : Nat) (n : String) : (s.clear e n).harvs = s.harvs := by unfold State.clear; split <;> rfl
@[simp] theorem State.relay_clear (e : Nat) (n : String) : (s.clear e n).relay = s.relay := by unfold State.clear; split <;> rfl
@[simp] theorem State.bridge_clear (e : Nat) (n : String) : (s.clear e n).bridge = s.bridge := by unfold State.clear; split <;> rfl
@[simp] theorem State.gauge_clear (e : Nat) (n : String) : (s.clear e n).gauge = s.gauge := by unfold State.clear; split <;> rfl
@[simp] theorem State.tt_clear (e : Nat) (n : String) : (s.clear e n).tt = s.tt := by unfold State.clear; split <;> rfl
@[simp] theorem State.rails_clear (e : Nat) (n : String) : (s.clear e n).rails = s.rails := by unfold State.clear; split <;> rfl
@[simp] theorem State.phs_clear (e : Nat) (n : String) : (s.clear e n).phs = s.phs := by unfold State.clear; split <;> rfl
@[simp] theorem State.sync_clear (e : Nat) (n : String) : (s.clear e n).sync = s.sync := by unfold State.clear; split <;> rfl
@[simp] theorem State.heads_clear (e : Nat) (n : String) : (s.clear e n).heads = s.heads := by unfold State.clear; split <;> rfl
@[simp] theorem State.store_clear (e : Nat) (n : String) : (s.clear e n).store = s.store := by unfold State.clear; split <;> rfl
@[simp] theorem State.bist_clear (e : Nat) (n : String) : (s.clear e n).bist = s.bist := by unfold State.clear; split <;> rfl
@[simp] theorem State.part_clearKey (e : Nat) (n : String) (k : Nat) : (s.clearKey e n k).part = s.part := by unfold State.clearKey; split <;> rfl
@[simp] theorem State.rev_clearKey (e : Nat) (n : String) (k : Nat) : (s.clearKey e n k).rev = s.rev := by unfold State.clearKey; split <;> rfl
@[simp] theorem State.pending_clearKey (e : Nat) (n : String) (k : Nat) : (s.clearKey e n k).pending = s.pending := by unfold State.clearKey; split <;> rfl
@[simp] theorem State.regs_clearKey (e : Nat) (n : String) (k : Nat) : (s.clearKey e n k).regs = s.regs := by unfold State.clearKey; split <;> rfl
@[simp] theorem State.dev_clearKey (e : Nat) (n : String) (k : Nat) : (s.clearKey e n k).dev = s.dev := by unfold State.clearKey; split <;> rfl
@[simp] theorem State.compat_clearKey (e : Nat) (n : String) (k : Nat) : (s.clearKey e n k).compat = s.compat := by unfold State.clearKey; split <;> rfl
@[simp] theorem State.lastReset_clearKey (e : Nat) (n : String) (k : Nat) : (s.clearKey e n k).lastReset = s.lastReset := by unfold State.clearKey; split <;> rfl
@[simp] theorem State.ticks_clearKey (e : Nat) (n : String) (k : Nat) : (s.clearKey e n k).ticks = s.ticks := by unfold State.clearKey; split <;> rfl
@[simp] theorem State.free_clearKey (e : Nat) (n : String) (k : Nat) : (s.clearKey e n k).free = s.free := by unfold State.clearKey; split <;> rfl
@[simp] theorem State.aon_clearKey (e : Nat) (n : String) (k : Nat) : (s.clearKey e n k).aon = s.aon := by unfold State.clearKey; split <;> rfl
@[simp] theorem State.core_clearKey (e : Nat) (n : String) (k : Nat) : (s.clearKey e n k).core = s.core := by unfold State.clearKey; split <;> rfl
@[simp] theorem State.host_clearKey (e : Nat) (n : String) (k : Nat) : (s.clearKey e n k).host = s.host := by unfold State.clearKey; split <;> rfl
@[simp] theorem State.service_clearKey (e : Nat) (n : String) (k : Nat) : (s.clearKey e n k).service = s.service := by unfold State.clearKey; split <;> rfl
@[simp] theorem State.spi_clearKey (e : Nat) (n : String) (k : Nat) : (s.clearKey e n k).spi = s.spi := by unfold State.clearKey; split <;> rfl
@[simp] theorem State.queue_clearKey (e : Nat) (n : String) (k : Nat) : (s.clearKey e n k).queue = s.queue := by unfold State.clearKey; split <;> rfl
@[simp] theorem State.held_clearKey (e : Nat) (n : String) (k : Nat) : (s.clearKey e n k).held = s.held := by unfold State.clearKey; split <;> rfl
@[simp] theorem State.released_clearKey (e : Nat) (n : String) (k : Nat) : (s.clearKey e n k).released = s.released := by unfold State.clearKey; split <;> rfl
@[simp] theorem State.grants_clearKey (e : Nat) (n : String) (k : Nat) : (s.clearKey e n k).grants = s.grants := by unfold State.clearKey; split <;> rfl
@[simp] theorem State.owed_clearKey (e : Nat) (n : String) (k : Nat) : (s.clearKey e n k).owed = s.owed := by unfold State.clearKey; split <;> rfl
@[simp] theorem State.mons_clearKey (e : Nat) (n : String) (k : Nat) : (s.clearKey e n k).mons = s.mons := by unfold State.clearKey; split <;> rfl
@[simp] theorem State.adcs_clearKey (e : Nat) (n : String) (k : Nat) : (s.clearKey e n k).adcs = s.adcs := by unfold State.clearKey; split <;> rfl
@[simp] theorem State.harvs_clearKey (e : Nat) (n : String) (k : Nat) : (s.clearKey e n k).harvs = s.harvs := by unfold State.clearKey; split <;> rfl
@[simp] theorem State.relay_clearKey (e : Nat) (n : String) (k : Nat) : (s.clearKey e n k).relay = s.relay := by unfold State.clearKey; split <;> rfl
@[simp] theorem State.bridge_clearKey (e : Nat) (n : String) (k : Nat) : (s.clearKey e n k).bridge = s.bridge := by unfold State.clearKey; split <;> rfl
@[simp] theorem State.gauge_clearKey (e : Nat) (n : String) (k : Nat) : (s.clearKey e n k).gauge = s.gauge := by unfold State.clearKey; split <;> rfl
@[simp] theorem State.tt_clearKey (e : Nat) (n : String) (k : Nat) : (s.clearKey e n k).tt = s.tt := by unfold State.clearKey; split <;> rfl
@[simp] theorem State.rails_clearKey (e : Nat) (n : String) (k : Nat) : (s.clearKey e n k).rails = s.rails := by unfold State.clearKey; split <;> rfl
@[simp] theorem State.phs_clearKey (e : Nat) (n : String) (k : Nat) : (s.clearKey e n k).phs = s.phs := by unfold State.clearKey; split <;> rfl
@[simp] theorem State.sync_clearKey (e : Nat) (n : String) (k : Nat) : (s.clearKey e n k).sync = s.sync := by unfold State.clearKey; split <;> rfl
@[simp] theorem State.heads_clearKey (e : Nat) (n : String) (k : Nat) : (s.clearKey e n k).heads = s.heads := by unfold State.clearKey; split <;> rfl
@[simp] theorem State.store_clearKey (e : Nat) (n : String) (k : Nat) : (s.clearKey e n k).store = s.store := by unfold State.clearKey; split <;> rfl
@[simp] theorem State.bist_clearKey (e : Nat) (n : String) (k : Nat) : (s.clearKey e n k).bist = s.bist := by unfold State.clearKey; split <;> rfl
@[simp] theorem State.part_present (c : Cause) (h : Bool) : (s.present c h).part = s.part := by
  cases h <;> simp only [State.present, Bool.false_eq_true, if_false, if_true] <;> (repeat' split) <;> first | rfl | simp
@[simp] theorem State.rev_present (c : Cause) (h : Bool) : (s.present c h).rev = s.rev := by
  cases h <;> simp only [State.present, Bool.false_eq_true, if_false, if_true] <;> (repeat' split) <;> first | rfl | simp
@[simp] theorem State.pending_present (c : Cause) (h : Bool) : (s.present c h).pending = s.pending := by
  cases h <;> simp only [State.present, Bool.false_eq_true, if_false, if_true] <;> (repeat' split) <;> first | rfl | simp
@[simp] theorem State.regs_present (c : Cause) (h : Bool) : (s.present c h).regs = s.regs := by
  cases h <;> simp only [State.present, Bool.false_eq_true, if_false, if_true] <;> (repeat' split) <;> first | rfl | simp
@[simp] theorem State.dev_present (c : Cause) (h : Bool) : (s.present c h).dev = s.dev := by
  cases h <;> simp only [State.present, Bool.false_eq_true, if_false, if_true] <;> (repeat' split) <;> first | rfl | simp
@[simp] theorem State.compat_present (c : Cause) (h : Bool) : (s.present c h).compat = s.compat := by
  cases h <;> simp only [State.present, Bool.false_eq_true, if_false, if_true] <;> (repeat' split) <;> first | rfl | simp
@[simp] theorem State.lastReset_present (c : Cause) (h : Bool) : (s.present c h).lastReset = s.lastReset := by
  cases h <;> simp only [State.present, Bool.false_eq_true, if_false, if_true] <;> (repeat' split) <;> first | rfl | simp
@[simp] theorem State.ticks_present (c : Cause) (h : Bool) : (s.present c h).ticks = s.ticks := by
  cases h <;> simp only [State.present, Bool.false_eq_true, if_false, if_true] <;> (repeat' split) <;> first | rfl | simp
@[simp] theorem State.free_present (c : Cause) (h : Bool) : (s.present c h).free = s.free := by
  cases h <;> simp only [State.present, Bool.false_eq_true, if_false, if_true] <;> (repeat' split) <;> first | rfl | simp
@[simp] theorem State.aon_present (c : Cause) (h : Bool) : (s.present c h).aon = s.aon := by
  cases h <;> simp only [State.present, Bool.false_eq_true, if_false, if_true] <;> (repeat' split) <;> first | rfl | simp
@[simp] theorem State.core_present (c : Cause) (h : Bool) : (s.present c h).core = s.core := by
  cases h <;> simp only [State.present, Bool.false_eq_true, if_false, if_true] <;> (repeat' split) <;> first | rfl | simp
@[simp] theorem State.host_present (c : Cause) (h : Bool) : (s.present c h).host = s.host := by
  cases h <;> simp only [State.present, Bool.false_eq_true, if_false, if_true] <;> (repeat' split) <;> first | rfl | simp
@[simp] theorem State.service_present (c : Cause) (h : Bool) : (s.present c h).service = s.service := by
  cases h <;> simp only [State.present, Bool.false_eq_true, if_false, if_true] <;> (repeat' split) <;> first | rfl | simp
@[simp] theorem State.spi_present (c : Cause) (h : Bool) : (s.present c h).spi = s.spi := by
  cases h <;> simp only [State.present, Bool.false_eq_true, if_false, if_true] <;> (repeat' split) <;> first | rfl | simp
@[simp] theorem State.queue_present (c : Cause) (h : Bool) : (s.present c h).queue = s.queue := by
  cases h <;> simp only [State.present, Bool.false_eq_true, if_false, if_true] <;> (repeat' split) <;> first | rfl | simp
@[simp] theorem State.held_present (c : Cause) (h : Bool) : (s.present c h).held = s.held := by
  cases h <;> simp only [State.present, Bool.false_eq_true, if_false, if_true] <;> (repeat' split) <;> first | rfl | simp
@[simp] theorem State.released_present (c : Cause) (h : Bool) : (s.present c h).released = s.released := by
  cases h <;> simp only [State.present, Bool.false_eq_true, if_false, if_true] <;> (repeat' split) <;> first | rfl | simp
@[simp] theorem State.grants_present (c : Cause) (h : Bool) : (s.present c h).grants = s.grants := by
  cases h <;> simp only [State.present, Bool.false_eq_true, if_false, if_true] <;> (repeat' split) <;> first | rfl | simp
@[simp] theorem State.owed_present (c : Cause) (h : Bool) : (s.present c h).owed = s.owed := by
  cases h <;> simp only [State.present, Bool.false_eq_true, if_false, if_true] <;> (repeat' split) <;> first | rfl | simp
@[simp] theorem State.mons_present (c : Cause) (h : Bool) : (s.present c h).mons = s.mons := by
  cases h <;> simp only [State.present, Bool.false_eq_true, if_false, if_true] <;> (repeat' split) <;> first | rfl | simp
@[simp] theorem State.adcs_present (c : Cause) (h : Bool) : (s.present c h).adcs = s.adcs := by
  cases h <;> simp only [State.present, Bool.false_eq_true, if_false, if_true] <;> (repeat' split) <;> first | rfl | simp
@[simp] theorem State.harvs_present (c : Cause) (h : Bool) : (s.present c h).harvs = s.harvs := by
  cases h <;> simp only [State.present, Bool.false_eq_true, if_false, if_true] <;> (repeat' split) <;> first | rfl | simp
@[simp] theorem State.relay_present (c : Cause) (h : Bool) : (s.present c h).relay = s.relay := by
  cases h <;> simp only [State.present, Bool.false_eq_true, if_false, if_true] <;> (repeat' split) <;> first | rfl | simp
@[simp] theorem State.bridge_present (c : Cause) (h : Bool) : (s.present c h).bridge = s.bridge := by
  cases h <;> simp only [State.present, Bool.false_eq_true, if_false, if_true] <;> (repeat' split) <;> first | rfl | simp
@[simp] theorem State.gauge_present (c : Cause) (h : Bool) : (s.present c h).gauge = s.gauge := by
  cases h <;> simp only [State.present, Bool.false_eq_true, if_false, if_true] <;> (repeat' split) <;> first | rfl | simp
@[simp] theorem State.tt_present (c : Cause) (h : Bool) : (s.present c h).tt = s.tt := by
  cases h <;> simp only [State.present, Bool.false_eq_true, if_false, if_true] <;> (repeat' split) <;> first | rfl | simp
@[simp] theorem State.rails_present (c : Cause) (h : Bool) : (s.present c h).rails = s.rails := by
  cases h <;> simp only [State.present, Bool.false_eq_true, if_false, if_true] <;> (repeat' split) <;> first | rfl | simp
@[simp] theorem State.phs_present (c : Cause) (h : Bool) : (s.present c h).phs = s.phs := by
  cases h <;> simp only [State.present, Bool.false_eq_true, if_false, if_true] <;> (repeat' split) <;> first | rfl | simp
@[simp] theorem State.sync_present (c : Cause) (h : Bool) : (s.present c h).sync = s.sync := by
  cases h <;> simp only [State.present, Bool.false_eq_true, if_false, if_true] <;> (repeat' split) <;> first | rfl | simp
@[simp] theorem State.heads_present (c : Cause) (h : Bool) : (s.present c h).heads = s.heads := by
  cases h <;> simp only [State.present, Bool.false_eq_true, if_false, if_true] <;> (repeat' split) <;> first | rfl | simp
@[simp] theorem State.store_present (c : Cause) (h : Bool) : (s.present c h).store = s.store := by
  cases h <;> simp only [State.present, Bool.false_eq_true, if_false, if_true] <;> (repeat' split) <;> first | rfl | simp
@[simp] theorem State.bist_present (c : Cause) (h : Bool) : (s.present c h).bist = s.bist := by
  cases h <;> simp only [State.present, Bool.false_eq_true, if_false, if_true] <;> (repeat' split) <;> first | rfl | simp
@[simp] theorem State.part_raiseAs (e : Nat) (n : String) (c : Cls) (h : Bool) (f : String) (m : Option Nat) (k : Nat) : (s.raiseAs e n c h f m k).part = s.part := by
  unfold State.raiseAs; split <;> simp
@[simp] theorem State.rev_raiseAs (e : Nat) (n : String) (c : Cls) (h : Bool) (f : String) (m : Option Nat) (k : Nat) : (s.raiseAs e n c h f m k).rev = s.rev := by
  unfold State.raiseAs; split <;> simp
@[simp] theorem State.pending_raiseAs (e : Nat) (n : String) (c : Cls) (h : Bool) (f : String) (m : Option Nat) (k : Nat) : (s.raiseAs e n c h f m k).pending = s.pending := by
  unfold State.raiseAs; split <;> simp
@[simp] theorem State.regs_raiseAs (e : Nat) (n : String) (c : Cls) (h : Bool) (f : String) (m : Option Nat) (k : Nat) : (s.raiseAs e n c h f m k).regs = s.regs := by
  unfold State.raiseAs; split <;> simp
@[simp] theorem State.dev_raiseAs (e : Nat) (n : String) (c : Cls) (h : Bool) (f : String) (m : Option Nat) (k : Nat) : (s.raiseAs e n c h f m k).dev = s.dev := by
  unfold State.raiseAs; split <;> simp
@[simp] theorem State.compat_raiseAs (e : Nat) (n : String) (c : Cls) (h : Bool) (f : String) (m : Option Nat) (k : Nat) : (s.raiseAs e n c h f m k).compat = s.compat := by
  unfold State.raiseAs; split <;> simp
@[simp] theorem State.lastReset_raiseAs (e : Nat) (n : String) (c : Cls) (h : Bool) (f : String) (m : Option Nat) (k : Nat) : (s.raiseAs e n c h f m k).lastReset = s.lastReset := by
  unfold State.raiseAs; split <;> simp
@[simp] theorem State.ticks_raiseAs (e : Nat) (n : String) (c : Cls) (h : Bool) (f : String) (m : Option Nat) (k : Nat) : (s.raiseAs e n c h f m k).ticks = s.ticks := by
  unfold State.raiseAs; split <;> simp
@[simp] theorem State.free_raiseAs (e : Nat) (n : String) (c : Cls) (h : Bool) (f : String) (m : Option Nat) (k : Nat) : (s.raiseAs e n c h f m k).free = s.free := by
  unfold State.raiseAs; split <;> simp
@[simp] theorem State.aon_raiseAs (e : Nat) (n : String) (c : Cls) (h : Bool) (f : String) (m : Option Nat) (k : Nat) : (s.raiseAs e n c h f m k).aon = s.aon := by
  unfold State.raiseAs; split <;> simp
@[simp] theorem State.core_raiseAs (e : Nat) (n : String) (c : Cls) (h : Bool) (f : String) (m : Option Nat) (k : Nat) : (s.raiseAs e n c h f m k).core = s.core := by
  unfold State.raiseAs; split <;> simp
@[simp] theorem State.host_raiseAs (e : Nat) (n : String) (c : Cls) (h : Bool) (f : String) (m : Option Nat) (k : Nat) : (s.raiseAs e n c h f m k).host = s.host := by
  unfold State.raiseAs; split <;> simp
@[simp] theorem State.service_raiseAs (e : Nat) (n : String) (c : Cls) (h : Bool) (f : String) (m : Option Nat) (k : Nat) : (s.raiseAs e n c h f m k).service = s.service := by
  unfold State.raiseAs; split <;> simp
@[simp] theorem State.spi_raiseAs (e : Nat) (n : String) (c : Cls) (h : Bool) (f : String) (m : Option Nat) (k : Nat) : (s.raiseAs e n c h f m k).spi = s.spi := by
  unfold State.raiseAs; split <;> simp
@[simp] theorem State.queue_raiseAs (e : Nat) (n : String) (c : Cls) (h : Bool) (f : String) (m : Option Nat) (k : Nat) : (s.raiseAs e n c h f m k).queue = s.queue := by
  unfold State.raiseAs; split <;> simp
@[simp] theorem State.held_raiseAs (e : Nat) (n : String) (c : Cls) (h : Bool) (f : String) (m : Option Nat) (k : Nat) : (s.raiseAs e n c h f m k).held = s.held := by
  unfold State.raiseAs; split <;> simp
@[simp] theorem State.released_raiseAs (e : Nat) (n : String) (c : Cls) (h : Bool) (f : String) (m : Option Nat) (k : Nat) : (s.raiseAs e n c h f m k).released = s.released := by
  unfold State.raiseAs; split <;> simp
@[simp] theorem State.grants_raiseAs (e : Nat) (n : String) (c : Cls) (h : Bool) (f : String) (m : Option Nat) (k : Nat) : (s.raiseAs e n c h f m k).grants = s.grants := by
  unfold State.raiseAs; split <;> simp
@[simp] theorem State.owed_raiseAs (e : Nat) (n : String) (c : Cls) (h : Bool) (f : String) (m : Option Nat) (k : Nat) : (s.raiseAs e n c h f m k).owed = s.owed := by
  unfold State.raiseAs; split <;> simp
@[simp] theorem State.mons_raiseAs (e : Nat) (n : String) (c : Cls) (h : Bool) (f : String) (m : Option Nat) (k : Nat) : (s.raiseAs e n c h f m k).mons = s.mons := by
  unfold State.raiseAs; split <;> simp
@[simp] theorem State.adcs_raiseAs (e : Nat) (n : String) (c : Cls) (h : Bool) (f : String) (m : Option Nat) (k : Nat) : (s.raiseAs e n c h f m k).adcs = s.adcs := by
  unfold State.raiseAs; split <;> simp
@[simp] theorem State.harvs_raiseAs (e : Nat) (n : String) (c : Cls) (h : Bool) (f : String) (m : Option Nat) (k : Nat) : (s.raiseAs e n c h f m k).harvs = s.harvs := by
  unfold State.raiseAs; split <;> simp
@[simp] theorem State.relay_raiseAs (e : Nat) (n : String) (c : Cls) (h : Bool) (f : String) (m : Option Nat) (k : Nat) : (s.raiseAs e n c h f m k).relay = s.relay := by
  unfold State.raiseAs; split <;> simp
@[simp] theorem State.bridge_raiseAs (e : Nat) (n : String) (c : Cls) (h : Bool) (f : String) (m : Option Nat) (k : Nat) : (s.raiseAs e n c h f m k).bridge = s.bridge := by
  unfold State.raiseAs; split <;> simp
@[simp] theorem State.gauge_raiseAs (e : Nat) (n : String) (c : Cls) (h : Bool) (f : String) (m : Option Nat) (k : Nat) : (s.raiseAs e n c h f m k).gauge = s.gauge := by
  unfold State.raiseAs; split <;> simp
@[simp] theorem State.tt_raiseAs (e : Nat) (n : String) (c : Cls) (h : Bool) (f : String) (m : Option Nat) (k : Nat) : (s.raiseAs e n c h f m k).tt = s.tt := by
  unfold State.raiseAs; split <;> simp
@[simp] theorem State.rails_raiseAs (e : Nat) (n : String) (c : Cls) (h : Bool) (f : String) (m : Option Nat) (k : Nat) : (s.raiseAs e n c h f m k).rails = s.rails := by
  unfold State.raiseAs; split <;> simp
@[simp] theorem State.phs_raiseAs (e : Nat) (n : String) (c : Cls) (h : Bool) (f : String) (m : Option Nat) (k : Nat) : (s.raiseAs e n c h f m k).phs = s.phs := by
  unfold State.raiseAs; split <;> simp
@[simp] theorem State.sync_raiseAs (e : Nat) (n : String) (c : Cls) (h : Bool) (f : String) (m : Option Nat) (k : Nat) : (s.raiseAs e n c h f m k).sync = s.sync := by
  unfold State.raiseAs; split <;> simp
@[simp] theorem State.heads_raiseAs (e : Nat) (n : String) (c : Cls) (h : Bool) (f : String) (m : Option Nat) (k : Nat) : (s.raiseAs e n c h f m k).heads = s.heads := by
  unfold State.raiseAs; split <;> simp
@[simp] theorem State.store_raiseAs (e : Nat) (n : String) (c : Cls) (h : Bool) (f : String) (m : Option Nat) (k : Nat) : (s.raiseAs e n c h f m k).store = s.store := by
  unfold State.raiseAs; split <;> simp
@[simp] theorem State.bist_raiseAs (e : Nat) (n : String) (c : Cls) (h : Bool) (f : String) (m : Option Nat) (k : Nat) : (s.raiseAs e n c h f m k).bist = s.bist := by
  unfold State.raiseAs; split <;> simp
@[simp] theorem State.part_raise (e : Nat) (n : String) (f : String) (m : Option Nat) (k : Nat) : (s.raise e n f m k).part = s.part := by
  unfold State.raise; split <;> simp
@[simp] theorem State.rev_raise (e : Nat) (n : String) (f : String) (m : Option Nat) (k : Nat) : (s.raise e n f m k).rev = s.rev := by
  unfold State.raise; split <;> simp
@[simp] theorem State.pending_raise (e : Nat) (n : String) (f : String) (m : Option Nat) (k : Nat) : (s.raise e n f m k).pending = s.pending := by
  unfold State.raise; split <;> simp
@[simp] theorem State.regs_raise (e : Nat) (n : String) (f : String) (m : Option Nat) (k : Nat) : (s.raise e n f m k).regs = s.regs := by
  unfold State.raise; split <;> simp
@[simp] theorem State.dev_raise (e : Nat) (n : String) (f : String) (m : Option Nat) (k : Nat) : (s.raise e n f m k).dev = s.dev := by
  unfold State.raise; split <;> simp
@[simp] theorem State.compat_raise (e : Nat) (n : String) (f : String) (m : Option Nat) (k : Nat) : (s.raise e n f m k).compat = s.compat := by
  unfold State.raise; split <;> simp
@[simp] theorem State.lastReset_raise (e : Nat) (n : String) (f : String) (m : Option Nat) (k : Nat) : (s.raise e n f m k).lastReset = s.lastReset := by
  unfold State.raise; split <;> simp
@[simp] theorem State.ticks_raise (e : Nat) (n : String) (f : String) (m : Option Nat) (k : Nat) : (s.raise e n f m k).ticks = s.ticks := by
  unfold State.raise; split <;> simp
@[simp] theorem State.free_raise (e : Nat) (n : String) (f : String) (m : Option Nat) (k : Nat) : (s.raise e n f m k).free = s.free := by
  unfold State.raise; split <;> simp
@[simp] theorem State.aon_raise (e : Nat) (n : String) (f : String) (m : Option Nat) (k : Nat) : (s.raise e n f m k).aon = s.aon := by
  unfold State.raise; split <;> simp
@[simp] theorem State.core_raise (e : Nat) (n : String) (f : String) (m : Option Nat) (k : Nat) : (s.raise e n f m k).core = s.core := by
  unfold State.raise; split <;> simp
@[simp] theorem State.host_raise (e : Nat) (n : String) (f : String) (m : Option Nat) (k : Nat) : (s.raise e n f m k).host = s.host := by
  unfold State.raise; split <;> simp
@[simp] theorem State.service_raise (e : Nat) (n : String) (f : String) (m : Option Nat) (k : Nat) : (s.raise e n f m k).service = s.service := by
  unfold State.raise; split <;> simp
@[simp] theorem State.spi_raise (e : Nat) (n : String) (f : String) (m : Option Nat) (k : Nat) : (s.raise e n f m k).spi = s.spi := by
  unfold State.raise; split <;> simp
@[simp] theorem State.queue_raise (e : Nat) (n : String) (f : String) (m : Option Nat) (k : Nat) : (s.raise e n f m k).queue = s.queue := by
  unfold State.raise; split <;> simp
@[simp] theorem State.held_raise (e : Nat) (n : String) (f : String) (m : Option Nat) (k : Nat) : (s.raise e n f m k).held = s.held := by
  unfold State.raise; split <;> simp
@[simp] theorem State.released_raise (e : Nat) (n : String) (f : String) (m : Option Nat) (k : Nat) : (s.raise e n f m k).released = s.released := by
  unfold State.raise; split <;> simp
@[simp] theorem State.grants_raise (e : Nat) (n : String) (f : String) (m : Option Nat) (k : Nat) : (s.raise e n f m k).grants = s.grants := by
  unfold State.raise; split <;> simp
@[simp] theorem State.owed_raise (e : Nat) (n : String) (f : String) (m : Option Nat) (k : Nat) : (s.raise e n f m k).owed = s.owed := by
  unfold State.raise; split <;> simp
@[simp] theorem State.mons_raise (e : Nat) (n : String) (f : String) (m : Option Nat) (k : Nat) : (s.raise e n f m k).mons = s.mons := by
  unfold State.raise; split <;> simp
@[simp] theorem State.adcs_raise (e : Nat) (n : String) (f : String) (m : Option Nat) (k : Nat) : (s.raise e n f m k).adcs = s.adcs := by
  unfold State.raise; split <;> simp
@[simp] theorem State.harvs_raise (e : Nat) (n : String) (f : String) (m : Option Nat) (k : Nat) : (s.raise e n f m k).harvs = s.harvs := by
  unfold State.raise; split <;> simp
@[simp] theorem State.relay_raise (e : Nat) (n : String) (f : String) (m : Option Nat) (k : Nat) : (s.raise e n f m k).relay = s.relay := by
  unfold State.raise; split <;> simp
@[simp] theorem State.bridge_raise (e : Nat) (n : String) (f : String) (m : Option Nat) (k : Nat) : (s.raise e n f m k).bridge = s.bridge := by
  unfold State.raise; split <;> simp
@[simp] theorem State.gauge_raise (e : Nat) (n : String) (f : String) (m : Option Nat) (k : Nat) : (s.raise e n f m k).gauge = s.gauge := by
  unfold State.raise; split <;> simp
@[simp] theorem State.tt_raise (e : Nat) (n : String) (f : String) (m : Option Nat) (k : Nat) : (s.raise e n f m k).tt = s.tt := by
  unfold State.raise; split <;> simp
@[simp] theorem State.rails_raise (e : Nat) (n : String) (f : String) (m : Option Nat) (k : Nat) : (s.raise e n f m k).rails = s.rails := by
  unfold State.raise; split <;> simp
@[simp] theorem State.phs_raise (e : Nat) (n : String) (f : String) (m : Option Nat) (k : Nat) : (s.raise e n f m k).phs = s.phs := by
  unfold State.raise; split <;> simp
@[simp] theorem State.sync_raise (e : Nat) (n : String) (f : String) (m : Option Nat) (k : Nat) : (s.raise e n f m k).sync = s.sync := by
  unfold State.raise; split <;> simp
@[simp] theorem State.heads_raise (e : Nat) (n : String) (f : String) (m : Option Nat) (k : Nat) : (s.raise e n f m k).heads = s.heads := by
  unfold State.raise; split <;> simp
@[simp] theorem State.store_raise (e : Nat) (n : String) (f : String) (m : Option Nat) (k : Nat) : (s.raise e n f m k).store = s.store := by
  unfold State.raise; split <;> simp
@[simp] theorem State.bist_raise (e : Nat) (n : String) (f : String) (m : Option Nat) (k : Nat) : (s.raise e n f m k).bist = s.bist := by
  unfold State.raise; split <;> simp
@[simp] theorem State.part_raiseMon (n no : Nat) (t : String) (m : Option Nat) (h : Bool) : (s.raiseMon n no t m h).part = s.part := by simp [State.raiseMon]
@[simp] theorem State.rev_raiseMon (n no : Nat) (t : String) (m : Option Nat) (h : Bool) : (s.raiseMon n no t m h).rev = s.rev := by simp [State.raiseMon]
@[simp] theorem State.pending_raiseMon (n no : Nat) (t : String) (m : Option Nat) (h : Bool) : (s.raiseMon n no t m h).pending = s.pending := by simp [State.raiseMon]
@[simp] theorem State.regs_raiseMon (n no : Nat) (t : String) (m : Option Nat) (h : Bool) : (s.raiseMon n no t m h).regs = s.regs := by simp [State.raiseMon]
@[simp] theorem State.dev_raiseMon (n no : Nat) (t : String) (m : Option Nat) (h : Bool) : (s.raiseMon n no t m h).dev = s.dev := by simp [State.raiseMon]
@[simp] theorem State.compat_raiseMon (n no : Nat) (t : String) (m : Option Nat) (h : Bool) : (s.raiseMon n no t m h).compat = s.compat := by simp [State.raiseMon]
@[simp] theorem State.lastReset_raiseMon (n no : Nat) (t : String) (m : Option Nat) (h : Bool) : (s.raiseMon n no t m h).lastReset = s.lastReset := by simp [State.raiseMon]
@[simp] theorem State.ticks_raiseMon (n no : Nat) (t : String) (m : Option Nat) (h : Bool) : (s.raiseMon n no t m h).ticks = s.ticks := by simp [State.raiseMon]
@[simp] theorem State.free_raiseMon (n no : Nat) (t : String) (m : Option Nat) (h : Bool) : (s.raiseMon n no t m h).free = s.free := by simp [State.raiseMon]
@[simp] theorem State.aon_raiseMon (n no : Nat) (t : String) (m : Option Nat) (h : Bool) : (s.raiseMon n no t m h).aon = s.aon := by simp [State.raiseMon]
@[simp] theorem State.core_raiseMon (n no : Nat) (t : String) (m : Option Nat) (h : Bool) : (s.raiseMon n no t m h).core = s.core := by simp [State.raiseMon]
@[simp] theorem State.host_raiseMon (n no : Nat) (t : String) (m : Option Nat) (h : Bool) : (s.raiseMon n no t m h).host = s.host := by simp [State.raiseMon]
@[simp] theorem State.service_raiseMon (n no : Nat) (t : String) (m : Option Nat) (h : Bool) : (s.raiseMon n no t m h).service = s.service := by simp [State.raiseMon]
@[simp] theorem State.spi_raiseMon (n no : Nat) (t : String) (m : Option Nat) (h : Bool) : (s.raiseMon n no t m h).spi = s.spi := by simp [State.raiseMon]
@[simp] theorem State.queue_raiseMon (n no : Nat) (t : String) (m : Option Nat) (h : Bool) : (s.raiseMon n no t m h).queue = s.queue := by simp [State.raiseMon]
@[simp] theorem State.held_raiseMon (n no : Nat) (t : String) (m : Option Nat) (h : Bool) : (s.raiseMon n no t m h).held = s.held := by simp [State.raiseMon]
@[simp] theorem State.released_raiseMon (n no : Nat) (t : String) (m : Option Nat) (h : Bool) : (s.raiseMon n no t m h).released = s.released := by simp [State.raiseMon]
@[simp] theorem State.grants_raiseMon (n no : Nat) (t : String) (m : Option Nat) (h : Bool) : (s.raiseMon n no t m h).grants = s.grants := by simp [State.raiseMon]
@[simp] theorem State.owed_raiseMon (n no : Nat) (t : String) (m : Option Nat) (h : Bool) : (s.raiseMon n no t m h).owed = s.owed := by simp [State.raiseMon]
@[simp] theorem State.mons_raiseMon (n no : Nat) (t : String) (m : Option Nat) (h : Bool) : (s.raiseMon n no t m h).mons = s.mons := by simp [State.raiseMon]
@[simp] theorem State.adcs_raiseMon (n no : Nat) (t : String) (m : Option Nat) (h : Bool) : (s.raiseMon n no t m h).adcs = s.adcs := by simp [State.raiseMon]
@[simp] theorem State.harvs_raiseMon (n no : Nat) (t : String) (m : Option Nat) (h : Bool) : (s.raiseMon n no t m h).harvs = s.harvs := by simp [State.raiseMon]
@[simp] theorem State.relay_raiseMon (n no : Nat) (t : String) (m : Option Nat) (h : Bool) : (s.raiseMon n no t m h).relay = s.relay := by simp [State.raiseMon]
@[simp] theorem State.bridge_raiseMon (n no : Nat) (t : String) (m : Option Nat) (h : Bool) : (s.raiseMon n no t m h).bridge = s.bridge := by simp [State.raiseMon]
@[simp] theorem State.gauge_raiseMon (n no : Nat) (t : String) (m : Option Nat) (h : Bool) : (s.raiseMon n no t m h).gauge = s.gauge := by simp [State.raiseMon]
@[simp] theorem State.tt_raiseMon (n no : Nat) (t : String) (m : Option Nat) (h : Bool) : (s.raiseMon n no t m h).tt = s.tt := by simp [State.raiseMon]
@[simp] theorem State.rails_raiseMon (n no : Nat) (t : String) (m : Option Nat) (h : Bool) : (s.raiseMon n no t m h).rails = s.rails := by simp [State.raiseMon]
@[simp] theorem State.phs_raiseMon (n no : Nat) (t : String) (m : Option Nat) (h : Bool) : (s.raiseMon n no t m h).phs = s.phs := by simp [State.raiseMon]
@[simp] theorem State.sync_raiseMon (n no : Nat) (t : String) (m : Option Nat) (h : Bool) : (s.raiseMon n no t m h).sync = s.sync := by simp [State.raiseMon]
@[simp] theorem State.heads_raiseMon (n no : Nat) (t : String) (m : Option Nat) (h : Bool) : (s.raiseMon n no t m h).heads = s.heads := by simp [State.raiseMon]
@[simp] theorem State.store_raiseMon (n no : Nat) (t : String) (m : Option Nat) (h : Bool) : (s.raiseMon n no t m h).store = s.store := by simp [State.raiseMon]
@[simp] theorem State.bist_raiseMon (n no : Nat) (t : String) (m : Option Nat) (h : Bool) : (s.raiseMon n no t m h).bist = s.bist := by simp [State.raiseMon]

/-! ### No register changes -/

@[simp] theorem State.word_clear (e : Nat) (n : String) (a : Nat) : (s.clear e n).word a = s.word a := State.word_congr (by simp) (by simp) a
@[simp] theorem State.get_clear (e : Nat) (n : String) (g : Field) : (s.clear e n).get g = s.get g := by simp [State.get]
@[simp] theorem State.word_clearKey (e : Nat) (n : String) (k : Nat) (a : Nat) : (s.clearKey e n k).word a = s.word a := State.word_congr (by simp) (by simp) a
@[simp] theorem State.get_clearKey (e : Nat) (n : String) (k : Nat) (g : Field) : (s.clearKey e n k).get g = s.get g := by simp [State.get]
@[simp] theorem State.word_raiseAs (e : Nat) (n : String) (c : Cls) (h : Bool) (f : String) (m : Option Nat) (k : Nat) (a : Nat) : (s.raiseAs e n c h f m k).word a = s.word a := State.word_congr (by simp) (by simp) a
@[simp] theorem State.get_raiseAs (e : Nat) (n : String) (c : Cls) (h : Bool) (f : String) (m : Option Nat) (k : Nat) (g : Field) : (s.raiseAs e n c h f m k).get g = s.get g := by simp [State.get]
@[simp] theorem State.word_raise (e : Nat) (n : String) (f : String) (m : Option Nat) (k : Nat) (a : Nat) : (s.raise e n f m k).word a = s.word a := State.word_congr (by simp) (by simp) a
@[simp] theorem State.get_raise (e : Nat) (n : String) (f : String) (m : Option Nat) (k : Nat) (g : Field) : (s.raise e n f m k).get g = s.get g := by simp [State.get]
@[simp] theorem State.word_raiseMon (n no : Nat) (t : String) (m : Option Nat) (h : Bool) (a : Nat) : (s.raiseMon n no t m h).word a = s.word a := State.word_congr (by simp) (by simp) a
@[simp] theorem State.get_raiseMon (n no : Nat) (t : String) (m : Option Nat) (h : Bool) (g : Field) : (s.raiseMon n no t m h).get g = s.get g := by simp [State.get]
@[simp] theorem State.word_reach (t : Nat) (a : Nat) : (s.reach t).word a = s.word a := State.word_congr (by simp) (by simp) a
@[simp] theorem State.get_reach (t : Nat) (g : Field) : (s.reach t).get g = s.get g := by simp [State.get]
@[simp] theorem State.get_modMon (n : Nat) (f : MonX → MonX) (g : Field) : (s.modMon n f).get g = s.get g := by simp [State.get]
@[simp] theorem State.get_modAdc (n : Nat) (f : AdcX → AdcX) (g : Field) : (s.modAdc n f).get g = s.get g := by simp [State.get]
@[simp] theorem State.get_modHarv (n : Nat) (f : HarvX → HarvX) (g : Field) : (s.modHarv n f).get g = s.get g := by simp [State.get]
@[simp] theorem State.get_modRail (n : Nat) (f : RailX → RailX) (g : Field) : (s.modRail n f).get g = s.get g := by simp [State.get]
@[simp] theorem State.get_modPh (n : Nat) (f : PhX → PhX) (g : Field) : (s.modPh n f).get g = s.get g := by simp [State.get]
@[simp] theorem State.get_modHead (n : Nat) (f : HeadX → HeadX) (g : Field) : (s.modHead n f).get g = s.get g := by simp [State.get]

end Sys2Proof.Machine
end

