-- ==== Sys2Proof/Laws/Outcome.lean ====
section
/-! SUPPORT. What a meaning answers, by the device state in which it acts (R8, R65, R83). -/

namespace Sys2Proof.Machine

variable {s : State} {f : State → State}

theorem inRun_of_run (h : s.dev = .run) : inRun s f = .next (s.commit (f s)) := by simp [inRun, h]

theorem inRun_of_not_run (h : s.dev ≠ .run) : inRun s f = .next (s.commit s) := by simp [inRun, h]

theorem live_of_live (h : s.dev ≠ .bufferStop) : live s f = .next (s.commit (f s)) := by simp [live, h]

theorem live_of_bufferStop (h : s.dev = .bufferStop) : live s f = .next (s.commit s) := by simp [live, h]

theorem anyDev_of_live (h : s.dev ≠ .bufferStop) : anyDev s f = .next (s.commit (f s)) := by simp [anyDev, State.stay, h]

/-- Freight work with no line waiting: the count of lines passed before it starts again. -/
theorem freight_of_free (h : s.dev = .run) (hw : s.lineWaits = false) :
    freight s f = .next (s.commit (f { s with core := { s.core with passRun := 0 } })) := by
  simp [freight, inRun, h, hw]

/-- Freight work with a line waiting and fewer than seven granted since the last is not granted. -/
theorem freight_of_waits (h : s.lineWaits = true) (hp : s.core.passRun < 7) : freight s f = .next (s.commit s) := by
  have : ¬7 ≤ s.core.passRun := by omega
  simp [freight, inRun, h, this]

/-- Whatever a meaning does, what it answers is a next state with the part, the revision and the queue kept. -/
theorem commit_keeps (s t : State) :
    (s.commit t).part = s.part ∧ (s.commit t).rev = s.rev ∧ (s.commit t).pending = s.pending := ⟨rfl, rfl, rfl⟩

end Sys2Proof.Machine
end

