-- ==== Sys2Proof/Laws/Power.lean ====
section
/-! SUPPORT. What the operations of the power side change: right-away writes GAUGE_RA and GAUGE_TIME, the gauge and the
collector, and nothing else. -/

namespace Sys2Proof.Machine

variable (s : State)

/-- A fold of steps that each keep a view keeps it. -/
theorem foldl_keep {ι β : Type} (P : State → β) (f : State → ι → State) (h : ∀ s k, P (f s k) = P s) (l : List ι) (s : State) :
    P (l.foldl f s) = P s := by
  induction l generalizing s with
  | nil => rfl
  | cons k l ih => rw [List.foldl_cons, ih, h]

@[simp] theorem State.part_holdEvents (o n : Nat) : (s.holdEvents o n).part = s.part := foldl_keep State.part _ (fun s k => by repeat (first | split | simp)) _ s
@[simp] theorem State.regs_holdEvents (o n : Nat) : (s.holdEvents o n).regs = s.regs := foldl_keep State.regs _ (fun s k => by repeat (first | split | simp)) _ s
@[simp] theorem State.dev_holdEvents (o n : Nat) : (s.holdEvents o n).dev = s.dev := foldl_keep State.dev _ (fun s k => by repeat (first | split | simp)) _ s
@[simp] theorem State.word_holdEvents (o n : Nat) (a : Nat) : (s.holdEvents o n).word a = s.word a := State.word_congr (by simp) (by simp) a
@[simp] theorem State.get_holdEvents (o n : Nat) (g : Field) : (s.holdEvents o n).get g = s.get g := by simp [State.get]
@[simp] theorem State.part_reserveCheck : (s.reserveCheck).part = s.part := by simp only [State.reserveCheck]; repeat (first | split | simp | rfl)
@[simp] theorem State.regs_reserveCheck : (s.reserveCheck).regs = s.regs := by simp only [State.reserveCheck]; repeat (first | split | simp | rfl)
@[simp] theorem State.dev_reserveCheck : (s.reserveCheck).dev = s.dev := by simp only [State.reserveCheck]; repeat (first | split | simp | rfl)
@[simp] theorem State.word_reserveCheck  (a : Nat) : (s.reserveCheck ).word a = s.word a := State.word_congr (by simp) (by simp) a
@[simp] theorem State.get_reserveCheck  (g : Field) : (s.reserveCheck ).get g = s.get g := by simp [State.get]
@[simp] theorem State.part_evalRa : (s.evalRa).part = s.part := by unfold State.evalRa; split <;> rfl
@[simp] theorem State.rev_evalRa : (s.evalRa).rev = s.rev := by unfold State.evalRa; split <;> rfl
@[simp] theorem State.pending_evalRa : (s.evalRa).pending = s.pending := by unfold State.evalRa; split <;> rfl
@[simp] theorem State.dev_evalRa : (s.evalRa).dev = s.dev := by unfold State.evalRa; split <;> rfl
@[simp] theorem State.compat_evalRa : (s.evalRa).compat = s.compat := by unfold State.evalRa; split <;> rfl
@[simp] theorem State.lastReset_evalRa : (s.evalRa).lastReset = s.lastReset := by unfold State.evalRa; split <;> rfl
@[simp] theorem State.ticks_evalRa : (s.evalRa).ticks = s.ticks := by unfold State.evalRa; split <;> rfl
@[simp] theorem State.free_evalRa : (s.evalRa).free = s.free := by unfold State.evalRa; split <;> rfl
@[simp] theorem State.aon_evalRa : (s.evalRa).aon = s.aon := by unfold State.evalRa; split <;> rfl
@[simp] theorem State.core_evalRa : (s.evalRa).core = s.core := by unfold State.evalRa; split <;> rfl
@[simp] theorem State.host_evalRa : (s.evalRa).host = s.host := by unfold State.evalRa; split <;> rfl
@[simp] theorem State.service_evalRa : (s.evalRa).service = s.service := by unfold State.evalRa; split <;> rfl
@[simp] theorem State.spi_evalRa : (s.evalRa).spi = s.spi := by unfold State.evalRa; split <;> rfl
@[simp] theorem State.queue_evalRa : (s.evalRa).queue = s.queue := by unfold State.evalRa; split <;> rfl
@[simp] theorem State.held_evalRa : (s.evalRa).held = s.held := by unfold State.evalRa; split <;> rfl
@[simp] theorem State.released_evalRa : (s.evalRa).released = s.released := by unfold State.evalRa; split <;> rfl
@[simp] theorem State.grants_evalRa : (s.evalRa).grants = s.grants := by unfold State.evalRa; split <;> rfl
@[simp] theorem State.owed_evalRa : (s.evalRa).owed = s.owed := by unfold State.evalRa; split <;> rfl
@[simp] theorem State.mons_evalRa : (s.evalRa).mons = s.mons := by unfold State.evalRa; split <;> rfl
@[simp] theorem State.adcs_evalRa : (s.evalRa).adcs = s.adcs := by unfold State.evalRa; split <;> rfl
@[simp] theorem State.harvs_evalRa : (s.evalRa).harvs = s.harvs := by unfold State.evalRa; split <;> rfl
@[simp] theorem State.relay_evalRa : (s.evalRa).relay = s.relay := by unfold State.evalRa; split <;> rfl
@[simp] theorem State.bridge_evalRa : (s.evalRa).bridge = s.bridge := by unfold State.evalRa; split <;> rfl
@[simp] theorem State.tt_evalRa : (s.evalRa).tt = s.tt := by unfold State.evalRa; split <;> rfl
@[simp] theorem State.rails_evalRa : (s.evalRa).rails = s.rails := by unfold State.evalRa; split <;> rfl
@[simp] theorem State.phs_evalRa : (s.evalRa).phs = s.phs := by unfold State.evalRa; split <;> rfl
@[simp] theorem State.sync_evalRa : (s.evalRa).sync = s.sync := by unfold State.evalRa; split <;> rfl
@[simp] theorem State.heads_evalRa : (s.evalRa).heads = s.heads := by unfold State.evalRa; split <;> rfl
@[simp] theorem State.store_evalRa : (s.evalRa).store = s.store := by unfold State.evalRa; split <;> rfl
@[simp] theorem State.bist_evalRa : (s.evalRa).bist = s.bist := by unfold State.evalRa; split <;> rfl

@[simp] theorem State.part_raSet : s.raSet.part = s.part := by
  have w (t : State) (g : GaugeX) : ({ t with gauge := g } : State).part = t.part := rfl
  exact (State.part_set _ _ _).trans ((State.part_set _ _ _).trans ((w _ _).trans ((State.part_set _ _ _).trans
    ((State.part_setFlag _ _ _).trans (State.part_set _ _ _)))))

@[simp] theorem State.flt_raSet : s.raSet.flt = s.flt := by
  have w (t : State) (g : GaugeX) : ({ t with gauge := g } : State).flt = t.flt := rfl
  exact (State.flt_set _ _ _).trans ((State.flt_set _ _ _).trans ((w _ _).trans ((State.flt_set _ _ _).trans
    ((State.flt_setFlag _ _ _).trans (State.flt_set _ _ _)))))

@[simp] theorem State.dev_raSet : s.raSet.dev = s.dev := by
  have w (t : State) (g : GaugeX) : ({ t with gauge := g } : State).dev = t.dev := rfl
  exact (State.dev_set _ _ _).trans ((State.dev_set _ _ _).trans ((w _ _).trans ((State.dev_set _ _ _).trans
    ((State.dev_setFlag _ _ _).trans (State.dev_set _ _ _)))))

@[simp] theorem State.part_raStep : s.raStep.part = s.part := by simp only [State.raStep, State.part_reserveCheck, State.part_holdEvents, State.part_raSet]

/-- Right-away writes no register but GAUGE_RA and GAUGE_TIME. -/
theorem State.word_raSet (a : Nat) (h1 : a ≠ Reg.addr .GAUGE_RA) (h2 : a ≠ Reg.addr .GAUGE_TIME) : s.raSet.word a = s.word a := by
  have w (t : State) (g : GaugeX) : ({ t with gauge := g } : State).word a = t.word a := rfl
  have x (t : State) (f : Field) (v : Nat) (h : f.addr = Reg.addr .GAUGE_RA ∨ f.addr = Reg.addr .GAUGE_TIME) :
      (t.set f v).word a = t.word a := by
    rw [State.word_set, if_neg]; rintro rfl; rcases h with h | h; exact h1 h; exact h2 h
  exact (x _ _ _ (.inr rfl)).trans ((x _ _ _ (.inr rfl)).trans ((w _ _).trans ((x _ _ _ (.inl rfl)).trans
    ((x _ _ _ (.inl rfl)).trans (x _ _ _ (.inl rfl))))))

theorem State.word_raStep (a : Nat) (h1 : a ≠ Reg.addr .GAUGE_RA) (h2 : a ≠ Reg.addr .GAUGE_TIME) : s.raStep.word a = s.word a := by
  rw [State.raStep, State.word_reserveCheck, State.word_holdEvents, s.word_raSet a h1 h2]

theorem State.word_evalRa (a : Nat) (h1 : a ≠ Reg.addr .GAUGE_RA) (h2 : a ≠ Reg.addr .GAUGE_TIME) : s.evalRa.word a = s.word a := by
  unfold State.evalRa
  split
  · rfl
  · exact (State.word_congr (s := s.raStep) (t := { s with regs := s.raStep.regs, gauge := s.raStep.gauge, flt := s.raStep.flt })
      s.part_raStep.symm rfl a).trans (s.word_raStep a h1 h2)

theorem State.get_evalRa (f : Field) (h1 : f.addr ≠ Reg.addr .GAUGE_RA) (h2 : f.addr ≠ Reg.addr .GAUGE_TIME) :
    s.evalRa.get f = s.get f := State.get_eq_word s f (s.word_evalRa f.addr h1 h2)


end Sys2Proof.Machine
end

