-- ==== Sys2Proof/Laws/Tells.lean ====
section
/-! SUPPORT. How the collector's causes grow (R395): every operation of the power side only adds causes in RUN, and a raise
adds its own. -/

namespace Sys2Proof.Machine

open Sys2Proof.Safety

/-- From `s` to `t` the collector is handed further causes only. -/
def Grows (s t : State) : Prop := ∃ l, t.flt.causes = s.flt.causes ++ l

theorem Grows.refl (s : State) : Grows s s := ⟨[], by simp⟩

theorem Grows.of_eq {s t : State} (h : t.flt.causes = s.flt.causes) : Grows s t := ⟨[], by simp [h]⟩

theorem Grows.trans {s t u : State} (h : Grows s t) (g : Grows t u) : Grows s u := by
  obtain ⟨l, h⟩ := h; obtain ⟨m, g⟩ := g; exact ⟨l ++ m, by rw [g, h, List.append_assoc]⟩

theorem Tells.grow {s t u : State} {e : Nat} {n : String} (h : Tells s t e n) (g : Grows t u) : Tells s u e n := by
  obtain ⟨l, h, c, hc, hx⟩ := h
  obtain ⟨m, g⟩ := g
  exact ⟨l ++ m, by rw [g, h, List.append_assoc], c, List.mem_append_left _ hc, hx⟩

theorem Tells.after {s t u : State} {e : Nat} {n : String} (g : Grows s t) (h : Tells t u e n) : Tells s u e n := by
  obtain ⟨l, g⟩ := g
  obtain ⟨m, h, c, hc, hx⟩ := h
  exact ⟨l ++ m, by rw [h, g, List.append_assoc], c, List.mem_append_right _ hc, hx⟩

/-- Causes are appended in RUN and in BUFFER-STOP. -/
theorem State.causes_present (s : State) (c : Cause) (hold : Bool) (hd : s.dev = .run) (ha : sourceAbsent s.part c.src = false) :
    (s.present c hold).flt.causes = s.flt.causes ++ [{ c with epoch := s.flt.grants + 1 }] := by
  have hp : (s.setPresent c.src c.no c.key).flt.causes = s.flt.causes ∧ (s.setPresent c.src c.no c.key).flt.grants = s.flt.grants := by
    unfold State.setPresent; split <;> exact ⟨rfl, rfl⟩
  cases hold <;> simp [State.present, ha, hd, hp.1, hp.2]

theorem Grows.present (s : State) (c : Cause) (hold : Bool) : Grows s (s.present c hold) := by
  have hp : (s.setPresent c.src c.no c.key).flt.causes = s.flt.causes := by unfold State.setPresent; split <;> rfl
  cases hold <;> simp only [State.present, Bool.false_eq_true, if_false, if_true] <;> split <;> try exact Grows.refl s
  · split
    · exact ⟨_, rfl⟩
    · exact Grows.refl s
  · split
    · exact ⟨_, by rw [hp]⟩
    · exact Grows.of_eq hp

theorem Grows.raiseAs (s : State) (e : Nat) (n : String) (c : Cls) (h : Bool) (f : String) (m : Option Nat) (k : Nat) :
    Grows s (s.raiseAs e n c h f m k) := by
  unfold State.raiseAs; split
  · exact Grows.present _ _ _
  · exact Grows.refl s

theorem Grows.raise (s : State) (e : Nat) (n : String) (f : String) (m : Option Nat) (k : Nat) : Grows s (s.raise e n f m k) := by
  unfold State.raise; split
  · exact Grows.raiseAs _ _ _ _ _ _ _ _
  · exact Grows.refl s

theorem Grows.clear (s : State) (e : Nat) (n : String) : Grows s (s.clear e n) := by
  unfold State.clear; split <;> exact Grows.of_eq rfl

theorem Grows.clearKey (s : State) (e : Nat) (n : String) (k : Nat) : Grows s (s.clearKey e n k) := by
  unfold State.clearKey; split <;> exact Grows.of_eq rfl

theorem Grows.foldl {ι : Type} (f : State → ι → State) (h : ∀ s k, Grows s (f s k)) (l : List ι) (s : State) :
    Grows s (l.foldl f s) := by
  induction l generalizing s with
  | nil => exact Grows.refl s
  | cons k l ih => exact (h s k).trans (ih _)

theorem Grows.holdEvents (s : State) (o n : Nat) : Grows s (s.holdEvents o n) :=
  Grows.foldl _ (fun s k => by
    split
    · exact Grows.raise _ _ _ _ _ _
    · split
      · exact Grows.clearKey _ _ _ _
      · exact Grows.refl s) _ s

theorem Grows.reserveCheck (s : State) : Grows s s.reserveCheck := by
  simp only [State.reserveCheck]
  split
  · split
    · exact Grows.refl s
    · exact Grows.raise _ _ _ _ _ _
  · exact Grows.clear _ _ _

theorem Grows.evalRa (s : State) : Grows s s.evalRa := by
  unfold State.evalRa
  split
  · exact Grows.refl s
  · exact (Grows.of_eq (by rw [State.flt_raSet])).trans ((Grows.holdEvents s.raSet (s.get F.GAUGE_RA_HOLD) s.holdMask).trans (Grows.reserveCheck _))

/-- A raise in RUN hands its cause to the collector. -/
theorem Tells.raise (s : State) (e : Nat) (n : String) (f : String) (m : Option Nat) (k no : Nat) (i : CauseInfo)
    (hd : s.dev = .run) (ha : sourceAbsent s.part e = false) (hc : causeOf e n = some (no, i)) (hn : causeName e no = n) :
    Tells s (s.raise e n f m k) e n := by
  simp only [State.raise, hc, State.raiseAs]
  exact ⟨_, State.causes_present s _ _ hd ha, _, List.mem_singleton.mpr rfl, rfl, hn⟩

end Sys2Proof.Machine
end

