-- ==== Sys2Proof/Laws/Verbs.lean ====
section
/-! SUPPORT. Laws of the verb rows: what a grant leaves as it is, and what a row of a granted line answers. -/

namespace Sys2Proof.Laws

open Sys2Proof Sys2Proof.Machine Sys2Proof.Safety

/-- Recomputing RTS of a port changes that port alone. -/
theorem rts_eq (s : State) (p : PortId) : ∃ a b c, s.rts p = { s with host := a, service := b, spi := c } := by
  refine ⟨(s.rts p).host, (s.rts p).service, (s.rts p).spi, ?_⟩
  simp only [State.rts]
  (repeat' split) <;> cases p <;> rfl

/-- Taking a line out of the queue leaves everything but the queue, the counts of grants and the ports as it is. -/
theorem granted_eq (s : State) : ∃ q r g n a b c,
    granted s = { s with queue := q, released := r, grants := g, core := { s.core with passRun := n }, host := a, service := b,
                         spi := c } := by
  unfold granted
  cases s.choice with
  | none => exact ⟨s.queue, s.released, s.grants, s.core.passRun, s.host, s.service, s.spi, rfl⟩
  | some w =>
    simp only [State.grantLine]
    split <;>
      (obtain ⟨a, b, c, h⟩ := rts_eq _ w.port
       exact ⟨_, _, _, _, a, b, c, h.trans rfl⟩)

@[simp] theorem part_granted (s : State) : (granted s).part = s.part := by obtain ⟨_, _, _, _, _, _, _, h⟩ := granted_eq s; rw [h]
@[simp] theorem rev_granted (s : State) : (granted s).rev = s.rev := by obtain ⟨_, _, _, _, _, _, _, h⟩ := granted_eq s; rw [h]
@[simp] theorem pending_granted (s : State) : (granted s).pending = s.pending := by obtain ⟨_, _, _, _, _, _, _, h⟩ := granted_eq s; rw [h]
@[simp] theorem compat_granted (s : State) : (granted s).compat = s.compat := by obtain ⟨_, _, _, _, _, _, _, h⟩ := granted_eq s; rw [h]
@[simp] theorem regs_granted (s : State) : (granted s).regs = s.regs := by obtain ⟨_, _, _, _, _, _, _, h⟩ := granted_eq s; rw [h]
@[simp] theorem dev_granted (s : State) : (granted s).dev = s.dev := by obtain ⟨_, _, _, _, _, _, _, h⟩ := granted_eq s; rw [h]
@[simp] theorem lastReset_granted (s : State) : (granted s).lastReset = s.lastReset := by obtain ⟨_, _, _, _, _, _, _, h⟩ := granted_eq s; rw [h]
@[simp] theorem ticks_granted (s : State) : (granted s).ticks = s.ticks := by obtain ⟨_, _, _, _, _, _, _, h⟩ := granted_eq s; rw [h]
@[simp] theorem aon_granted (s : State) : (granted s).aon = s.aon := by obtain ⟨_, _, _, _, _, _, _, h⟩ := granted_eq s; rw [h]
@[simp] theorem flt_granted (s : State) : (granted s).flt = s.flt := by obtain ⟨_, _, _, _, _, _, _, h⟩ := granted_eq s; rw [h]
@[simp] theorem mons_granted (s : State) : (granted s).mons = s.mons := by obtain ⟨_, _, _, _, _, _, _, h⟩ := granted_eq s; rw [h]
@[simp] theorem adcs_granted (s : State) : (granted s).adcs = s.adcs := by obtain ⟨_, _, _, _, _, _, _, h⟩ := granted_eq s; rw [h]
@[simp] theorem harvs_granted (s : State) : (granted s).harvs = s.harvs := by obtain ⟨_, _, _, _, _, _, _, h⟩ := granted_eq s; rw [h]
@[simp] theorem relay_granted (s : State) : (granted s).relay = s.relay := by obtain ⟨_, _, _, _, _, _, _, h⟩ := granted_eq s; rw [h]
@[simp] theorem bridge_granted (s : State) : (granted s).bridge = s.bridge := by obtain ⟨_, _, _, _, _, _, _, h⟩ := granted_eq s; rw [h]
@[simp] theorem gauge_granted (s : State) : (granted s).gauge = s.gauge := by obtain ⟨_, _, _, _, _, _, _, h⟩ := granted_eq s; rw [h]
@[simp] theorem tt_granted (s : State) : (granted s).tt = s.tt := by obtain ⟨_, _, _, _, _, _, _, h⟩ := granted_eq s; rw [h]
@[simp] theorem rails_granted (s : State) : (granted s).rails = s.rails := by obtain ⟨_, _, _, _, _, _, _, h⟩ := granted_eq s; rw [h]
@[simp] theorem phs_granted (s : State) : (granted s).phs = s.phs := by obtain ⟨_, _, _, _, _, _, _, h⟩ := granted_eq s; rw [h]
@[simp] theorem sync3_granted (s : State) : (granted s).sync3 = s.sync3 := by obtain ⟨_, _, _, _, _, _, _, h⟩ := granted_eq s; rw [h]
@[simp] theorem sync_granted (s : State) : (granted s).sync = s.sync := by obtain ⟨_, _, _, _, _, _, _, h⟩ := granted_eq s; rw [h]
@[simp] theorem heads_granted (s : State) : (granted s).heads = s.heads := by obtain ⟨_, _, _, _, _, _, _, h⟩ := granted_eq s; rw [h]
@[simp] theorem store_granted (s : State) : (granted s).store = s.store := by obtain ⟨_, _, _, _, _, _, _, h⟩ := granted_eq s; rw [h]
@[simp] theorem bist_granted (s : State) : (granted s).bist = s.bist := by obtain ⟨_, _, _, _, _, _, _, h⟩ := granted_eq s; rw [h]

@[simp] theorem word_granted (s : State) (a : Nat) : (granted s).word a = s.word a := State.word_congr (by simp) (by simp) a
@[simp] theorem get_granted (s : State) (f : Field) : (granted s).get f = s.get f := by simp [State.get]
@[simp] theorem sget_granted (s : State) (f : Field) : (granted s).sget f = s.sget f := by simp [State.sget]
@[simp] theorem flag_granted (s : State) (f : Field) : (granted s).flag f = s.flag f := by simp [State.flag]
@[simp] theorem bit_granted (s : State) (f : Field) (k : Nat) : (granted s).bit f k = s.bit f k := by simp [State.bit]
@[simp] theorem failed_granted (s : State) (bp : Nat) : (granted s).failed bp = s.failed bp := by simp [State.failed]
@[simp] theorem underTest_granted (s : State) (bp : Nat) : (granted s).underTest bp = s.underTest bp := by simp [State.underTest]

@[simp] theorem phBp_granted (s : State) (n : Nat) : (granted s).phBp n = s.phBp n := by simp [State.phBp]
@[simp] theorem regBp_granted (s : State) (a : Nat) : (granted s).regBp a = s.regBp a := by simp [State.regBp]
@[simp] theorem mustWait_granted (s : State) (l : Line) : (granted s).mustWait l = s.mustWait l := by
  simp [State.mustWait, State.lineBps, State.phObjBp]

/-- A row of a granted line in its form executes the line on the state without it, and answers what that gives. -/
theorem verbRow_of_grants (v : Verb) (q : Bool) (form : Line → Bool) (p : PortId) (l : Line) (s : State) (body : State → Exec)
    (h : Grants s p l v q) (hf : form l = true) :
    verbRow v q form p l s body =
      .next (s.commit (match body (granted s) with | .ok (t, a) => t.answer p l a | .error a => (granted s).answer p l a)) := by
  obtain ⟨h1, h2, h3, h4, h5⟩ := h
  simp only [verbRow, inRun, h1, h2, h3, h4, hf, if_true, Bool.and_self, beq_self_eq_true]
  show Host.Outcome.next (s.commit ((granted s).execLine p l body)) = _
  exact congrArg (fun t => Host.Outcome.next (s.commit t)) (if_neg (by simp [h5]))

/-- The same, where the line is executed. -/
theorem verbRow_ok {v : Verb} {q : Bool} {form : Line → Bool} {p : PortId} {l : Line} {s t : State} {body : State → Exec} {a : Ans}
    (h : Grants s p l v q) (hf : form l = true) (hb : body (granted s) = .ok (t, a)) :
    verbRow v q form p l s body = .next (replied s t p l a) := by
  rw [verbRow_of_grants _ _ _ _ _ _ _ h hf, hb]
  rfl

/-- The same, where the line is refused. -/
theorem verbRow_error {v : Verb} {q : Bool} {form : Line → Bool} {p : PortId} {l : Line} {s : State} {body : State → Exec} {a : Ans}
    (h : Grants s p l v q) (hf : form l = true) (hb : body (granted s) = .error a) :
    verbRow v q form p l s body = .next (replied s (granted s) p l a) := by
  rw [verbRow_of_grants _ _ _ _ _ _ _ h hf, hb]
  rfl

end Sys2Proof.Laws
end

