-- ==== Sys2Proof/WellFormed.lean ====
section
/-! DEFINITION. What an operand of a command must satisfy to be one that the hardware can be given: the widths of codes,
the lengths of blocks, and the form of a line. Decoding a line is the Felten rows' matter, so that no meaning relies on
these conditions. -/

namespace Sys2Proof

/-- Code groups of a lane, 10 bits each (R321). -/
def charsWf (cs : List Nat) : Bool := cs.all (· < 1024)

/-- A token of a line past row 3 of R35: not empty, in upper case, free of spaces. -/
def tokenWf (t : String) : Bool := !t.toList.isEmpty && t.toList.all fun c => c != ' ' && !c.isLower

/-- A line of the verb `v`, a query or not, with a tag of R38, short enough for R31. -/
def Line.wf (l : Line) (v : Verb) (q : Bool) : Bool :=
  l.verb == v && l.query == q && l.toks.all tokenWf && (match l.tag with | some t => decide (t ≤ 9999) | none => true) &&
    decide (l.len ≤ 160)

/-- The operands of a command are ones the hardware can be given. -/
def Instr.wf (i : Instr) : Bool :=
  match i with
  | .aonStartRise _ mpp => mpp.length == 4
  | .endOfReset _ _ _ => true
  | .bistCondCheck _ => true
  | .bistTerminalCount _ => true
  | .lineTerminator _ => true
  | .uartBreak _ => true
  | .ctsChange _ => true
  | .spiFrame _ => true
  | .replySent _ => true
  | .notifyQueueSpace _ => true
  | .capsQuery _ l => l.wf .caps true
  | .stateQuery _ l => l.wf .state true
  | .portCmd _ l => l.wf .port false
  | .portQuery _ l => l.wf .port true
  | .subCmd _ l => l.wf .sub false
  | .unsubCmd _ l => l.wf .unsub false
  | .subQuery _ l => l.wf .sub true
  | .peekQuery _ l => l.wf .peek true
  | .pokeCmd _ l => l.wf .poke false
  | .timeQuery _ l => l.wf .time true
  | .rodQuery _ l => l.wf .rod true
  | .freightQuery _ l => l.wf .freight true
  | .monCmd _ l => l.wf .mon false
  | .monQuery _ l => l.wf .mon true
  | .harvestCmd _ l => l.wf .harvest false
  | .harvestQuery _ l => l.wf .harvest true
  | .vkaQuery _ l vka => l.wf .vka true && decide (vka < 4096)
  | .stackCmd _ l => l.wf .stack false
  | .stackQuery _ l => l.wf .stack true
  | .stackCellQuery _ l => l.wf .stack true
  | .bridgeCmd _ l => l.wf .bridge false
  | .bridgeQuery _ l => l.wf .bridge true
  | .relaySetCmd _ l => l.wf .relay false
  | .relayClrCmd _ l => l.wf .relay false
  | .relayCfgCmd _ l => l.wf .relay false
  | .relayQuery _ l => l.wf .relay true
  | .backupQuery _ l => l.wf .backup true
  | .gaugeQuery _ l => l.wf .gauge true
  | .rightawayQuery _ l => l.wf .rightaway true
  | .claimCmd _ l => l.wf .claim false
  | .doneCmd _ l => l.wf .done false
  | .budgetCmd _ l => l.wf .budget false
  | .budgetQuery _ l => l.wf .budget true
  | .loadBegin _ l => l.wf .load false
  | .loadAt _ l => l.wf .load false
  | .loadEnd _ l => l.wf .load false
  | .loadAbort _ l => l.wf .load false
  | .loadErase _ l => l.wf .load false
  | .startCmd _ l => l.wf .start false
  | .stopCmd _ l => l.wf .stop false
  | .ttQuery _ l => l.wf .tt true
  | .dependsCmd _ l => l.wf .depends false
  | .dependsQuery _ l => l.wf .depends true
  | .phaseCmd _ l => l.wf .phase false
  | .phaseQuery _ l => l.wf .phase true
  | .syncCmd _ l => l.wf .sync false
  | .syncQuery _ l => l.wf .sync true
  | .balanceCmd _ l => l.wf .balance false
  | .balanceQuery _ l => l.wf .balance true
  | .railCmd _ l => l.wf .rail false
  | .railQuery _ l => l.wf .rail true
  | .enableCmd _ l => l.wf .enable false
  | .disableCmd _ l => l.wf .disable false
  | .marginCmd _ l => l.wf .margin false
  | .marginQuery _ l => l.wf .margin true
  | .limitCmd _ l => l.wf .limit false
  | .limitRestoreCmd _ l => l.wf .limit false
  | .limitQuery _ l => l.wf .limit true
  | .linkQuery _ l => l.wf .link true
  | .encCmd _ l => l.wf .enc false
  | .encQuery _ l => l.wf .enc true
  | .regCmd _ l => l.wf .reg false
  | .regQuery _ l => l.wf .reg true
  | .strobeCmd _ l => l.wf .strobe false
  | .strobeQuery _ l => l.wf .strobe true
  | .headQuery _ l => l.wf .head true
  | .doseCmd _ l => l.wf .dose false
  | .doseQuery _ l => l.wf .dose true
  | .lightgateCmd _ l => l.wf .lightgate false
  | .lightgateStartCmd _ l _ => l.wf .lightgate false
  | .lightgateAbortCmd _ l => l.wf .lightgate false
  | .lightgateQuery _ l => l.wf .lightgate true
  | .calPhaseCmd _ l => l.wf .cal false
  | .calHeadCmd _ l => l.wf .cal false
  | .calGaugeCmd _ l => l.wf .cal false
  | .routeCmd _ l => l.wf .route false
  | .routeQuery _ l => l.wf .route true
  | .faultQuery _ l => l.wf .fault true
  | .clearCmd _ l => l.wf .clear false
  | .clearFaultCmd _ l => l.wf .clear false
  | .fltCmd _ l => l.wf .flt false
  | .fltQuery _ l => l.wf .flt true
  | .signalQuery _ l => l.wf .signal true
  | .bistCmd _ l => l.wf .bist false
  | .bistAbortCmd _ l => l.wf .bist false
  | .bistPwrupCmd _ l => l.wf .bist false
  | .bistQuery _ l => l.wf .bist true
  | .logQuery _ l => l.wf .log true
  | .nvQuery _ l => l.wf .nv true
  | .saveConfigCmd _ l => l.wf .save false
  | .registerWrite a _ => a % 4 == 0 && decide (a < 65536)
  | .headMdataRead _ => true
  | .faultLatchClear _ => true
  | .railEnWrite _ _ => true
  | .railTargetWrite _ _ => true
  | .phCalRequest _ => true
  | .phRestoreRequest _ => true
  | .lineTrainRequest _ => true
  | .headResumeRequest _ => true
  | .headLgStart _ _ => true
  | .headLgAbort _ => true
  | .headCalRequest _ => true
  | .rodWindowEnd _ taps => taps.length == 8
  | .freightLateCheck _ => true
  | .scrubSram _ => true
  | .scrubMirrorWord _ k _ => decide (k < 3968)
  | .scrubTrimRequest _ => true
  | .calIsnsConversion _ code _ => decide (code < 1024)
  | .calHeadsnsSample _ vhead => decide (vhead < 4096)
  | .nvScrubSlot _ _ => true
  | .monitorSample _ x => decide (x < 4096)
  | .referenceRefresh mpp => mpp.length == 4
  | .blankWindowClose _ x => decide (x < 4096)
  | .converterFree _ x => decide (x < 4096)
  | .imbalanceTimer _ => true
  | .fractionPeriod _ => true
  | .fractionDwellEnd _ => true
  | .inputClamp _ => true
  | .clampRelease _ => true
  | .keyPulseStart _ => true
  | .keyPulseEnd _ _ => true
  | .resOnFall _ _ => true
  | .trickleStop _ => true
  | .bridgeCycle m => decide (m.v < 4096) && decide (m.vbus < 4096)
  | .stackMeasTimer v _ vbus _ => decide (v < 4096 ∧ vbus < 4096)
  | .bridgePhaseIlim _ _ => true
  | .pageClaimEdge _ => true
  | .ttStart _ _ => true
  | .fallT1Expiry _ => true
  | .fallT2Expiry _ => true
  | .disableDependentWaitEnd _ => true
  | .railTrigger _ _ => true
  | .phaseOnTimeEnd _ => true
  | .phaseSample _ code _ _ => decide (code < 1024)
  | .lightLoadDecision _ => true
  | .balanceInterval _ => true
  | .syncWindowEnd _ => true
  | .vinsSample code => decide (code < 1024)
  | .railWaitReady _ => true
  | .onDelayEnd _ => true
  | .offDelayEnd _ => true
  | .vcmdStep _ => true
  | .allPhaseResponse _ => true
  | .responseOnTimeEnd _ _ _ => true
  | .boostStart _ _ => true
  | .phaseLimitTrip _ => true
  | .phaseShortTrip _ => true
  | .hiccupOffEnd _ => true
  | .hiccupCountReset _ => true
  | .overloadTimerExpiry _ => true
  | .overvoltTrip _ _ => true
  | .tsnsConversion _ _ => true
  | .tsnsFaultTrip _ => true
  | .upstreamLock _ => true
  | .upstreamQuiet _ => true
  | .trainAttemptStart _ => true
  | .identReceived _ chars => charsWf chars
  | .probeAck _ chars => charsWf chars
  | .trainTimeout _ => true
  | .linkLockLoss _ => true
  | .linkRetryTimer _ => true
  | .retriesResetTimer _ => true
  | .memblockReceived _ chars => charsWf chars
  | .memblockTimeout _ => true
  | .trimAck _ chars => charsWf chars
  | .trimAckTimeout _ => true
  | .sideReplyReceived _ chars => charsWf chars
  | .encCount _ _ _ => true
  | .encIndex _ => true
  | .lineGoRise _ _ => true
  | .groupPulseRise _ => true
  | .pulseFall _ => true
  | .reportReceived _ chars _ => charsWf chars
  | .reportDue _ => true
  | .frameSendStart _ _ => true
  | .frameCommitted _ _ => true
  | .lgRunStart _ _ => true
  | .lgTestLine _ dark lit rep => decide (dark < 4096) && decide (lit < 4096) && (match rep with | some cs => charsWf cs | none => true)
  | .lgRunDone _ => true
  | .hparkFall _ => true
  | .evtPulseEnd _ => true
  | .slotWriteDone _ => true
  | .byteReceived _ _ => true
  | .backupUpdate code _ => decide (code < 4096)
  | .phaseEligible _ => true
  | .syncInFall _ => true
  | .rodCoarseStep _ => true
  | .dischargeSinkLimit _ => true
  | .dischargeRestart _ => true
  | .testOscTrim _ => true
  | .powerOnReset => true
  | .resetNLow => true
  | .coreLowFall => true
  | .autobootStart => true
  | .keyHold5s => true
  | .keyHoldDrain => true
  | .drainRelease => true
  | .vioLoss => true
  | .vioReturn => true
  | .vlvLoss => true
  | .vdrvLow _ => true
  | .vdrvRise => true
  | .ttDataRead => true
  | .ttCtrlStart => true
  | .ttCtrlStop => true
  | .relayCtrlSet => true
  | .relayCtrlClr => true
  | .fltReleaseWrite => true
  | .bistStartRequest => true
  | .bistAbortRequest => true
  | .nvSaveRequest => true
  | .vcoreToStby => true
  | .vcoreToRun => true
  | .vcoreLowTimer => true
  | .xtalQualified => true
  | .xtalLost => true
  | .telemetrySample => true
  | .resOffRise _ => true
  | .resOffHoldTimer => true
  | .stackFeedLow _ => true
  | .stackFeedRecover _ => true
  | .trickleStart _ => true
  | .vkaClamp => true
  | .vkaClampRelease => true
  | .bkOnFall _ => true
  | .backupEmpty => true
  | .relayGapEnd => true
  | .relayArmed => true
  | .relayPulseEnd => true
  | .relayCut => true
  | .relayUnarmed => true
  | .fullSet => true
  | .absorbZeroTimer => true
  | .bridgeOverloadTimer => true
  | .mainsOkFall => true
  | .mainsOkRise => true
  | .mainsQualified => true
  | .topupRequest => true
  | .topupRetryTimer => true
  | .mainsWaitEnd => true
  | .pageDoneEdge => true
  | .gaugeCalRun => true
  | .ttPendingStart => true
  | .ttStepEnable => true
  | .ttStepDisable => true
  | .ttStepWait => true
  | .ttStepCheck => true
  | .ttStepJump => true
  | .ttStepMargin => true
  | .ttStepMark => true
  | .ttStepHalt => true
  | .waitCondMet => true
  | .waitTimeout => true
  | .checkWindowEnd => true
  | .sigPulseEnd => true
  | .syncInEdge => true
  | .syncInLost => true
  | .causeGrant => true
  | .fltMinExpiry => true
  | .signalFall => true
  | .signalStuckLow => true
  | .signalRise => true
  | .tokenGain => true
  | .vlvReturn => true
  | .goodRise => true
  | .goodFall => true
  | .referenceEdgeInternal => true

end Sys2Proof
end

