-- ==== Sys2Proof/Tests/Slice0.lean ====
section
/-! SUPPORT. Tests: for each statement, states and operands that meet its hypotheses, clause by clause. -/

namespace Sys2Proof.Tests

open Sys2Proof Sys2Proof.Machine Sys2Proof.Safety

set_option Elab.async false

/-- A state in RUN, with the always-on domain running, the crystal qualified, GOOD 1 and VINS in range. -/
def base : State :=
  let s := { State.reset with
    dev := .run, sync := { vin := 500 }, sync3 := { vin := 500 },
    aon := { State.reset.aon with running := true, xtal := true, vdrvOk := true, coreQual := true, leftReset := true } }
  s.setFlag F.SYS_VCORE_GOOD true

/-- Fields stored one after the other. -/
def sets (s : State) (fs : List (Field × Nat)) : State := fs.foldl (fun s x => s.set x.1 x.2) s

/-- The line alone in the queue, from the HOST port. -/
def queued (s : State) (l : Line) : State := { s with queue := [⟨.host, l, 0⟩] }

/-- Nothing holds right-away back, and the stack has energy for a sheet. -/
def ready : State :=
  { sets base [(F.BR_CTRL_EN, 1), (F.BR_CTRL_SUP_EN, 1), (F.BR_STATUS_MODE, 1), (F.GAUGE_CFG_RA_HEADS, 0), (F.MON_CTRL_EN 0, 1),
      (F.MON_CTRL_INPUT 0, nodeBus)] with gauge := { base.gauge with eAvail := 4000000000, fresh := true } }

/-- TTn runs at `step`, whose word is `w`; the area starts at word 10. -/
def runs (n step : Nat) (w : Word) : State :=
  { sets base [(F.TT_DIR_START n, 10), (F.TT_DIR_LEN n, 60), (F.TT_DIR_VALID n, 1)] with
    tt := { base.tt with ram := [(11 + step, w)], run := some { tt := n, step := step } } }

/-- Where ROUTE, the phases and the monitors have settings, as register numbers. -/
def manyAt : List Nat :=
  (List.range 66).map (64 + ·) ++ (List.range 16).flatMap (fun n => [640 + 8 * n, 641 + 8 * n]) ++
    (List.range 24).flatMap fun n => [768 + 4 * n, 769 + 4 * n, 770 + 4 * n]

/-- More settings away from their reset words than a bank has room for. -/
def manySettings : State := { base with regs := manyAt.map fun i => (4 * i, 0xFFFFFFFF#32) }

theorem manyAt_sublist : manyAt.Sublist (List.range 0x900) := by rw [← List.isSublist_iff_sublist]; decide +kernel

theorem manyAt_words : ∀ i ∈ manyAt, manySettings.word (4 * i) = 0xFFFFFFFF#32 := by decide +kernel

theorem manyAt_settings : ∀ i ∈ manyAt, Nat.land (0xFFFFFFFF#32).toNat (cfgMask .uhk7344 (4 * i)) ≠
    Nat.land (resetWord .uhk7344 (4 * i)).toNat (cfgMask .uhk7344 (4 * i)) := by decide +kernel

theorem length_filterMap_of_isSome {α β : Type} (f : α → Option β) :
    ∀ l : List α, (∀ a ∈ l, (f a).isSome = true) → (l.filterMap f).length = l.length
  | [], _ => rfl
  | a :: l, h => by
    obtain ⟨b, hb⟩ := Option.isSome_iff_exists.1 (h a (.head _))
    rw [List.filterMap_cons, hb, List.length_cons, List.length_cons,
      length_filterMap_of_isSome f l fun x hx => h x (.tail _ hx)]

theorem saveEntries_of_words (s : State) (hp : s.part = .uhk7344) (h : ∀ i ∈ manyAt, s.word (4 * i) = 0xFFFFFFFF#32) :
    168 < s.saveEntries.length := by
  unfold State.saveEntries
  simp only [List.length_append]
  refine Nat.lt_of_lt_of_le ?_ (Nat.le_trans (manyAt_sublist.filterMap _).length_le (Nat.le_add_right _ _))
  rw [length_filterMap_of_isSome]
  · decide +kernel
  · intro i hi
    rw [hp, h i hi, if_neg (manyAt_settings i hi)]
    rfl

/-- The arguments of a line that parses. -/
def argsOf (r : Except Ans Args) : Args := match r with | .ok a => a | .error _ => []

/-- What a result holds. -/
def okOf {α : Type} (r : Except Ans α) (d : α) : α := match r with | .ok a => a | .error _ => d

/-- The state that a check answers. -/
def stateOf (o : Option State) : State := o.getD base

/-- Every converter has a Freight conversion in progress. -/
def busyAll (s : State) : State :=
  [0, 1, 2, 3].foldl (fun s c => s.modAdc c fun y => { y with busy := some .freight }) s

/-- A REPORT of line 10. -/
def report10 : Report := { line := 10, lits := [1, 2, 3, 32767], tseg := [300, 0, 1, 2, 3, 4, 5, 1023], vhead := 900 }

/-! A good on-head memory. -/

/-- The memory but for the check of its table: FORMAT 1, rank 0, W0_NOM 4,096, V_REF 1,024, every chip factor 1. -/
def goodMem0 : Tab Byte :=
  [(12, 1#8), (16, 16#8), (20, 4#8), (126, 0x2A#8), (127, 0x8D#8)] ++ (List.range 248).map fun c => (31872 + 2 * c, 0x80#8)

/-- The memory with `c` as the check of its table. -/
def goodMem (c : Nat) : Tab Byte := goodMem0 ++ [(32640, BitVec.ofNat 8 (c / 256)), (32641, BitVec.ofNat 8 c)]

theorem crc16Shift_lt (c : Nat) (h : c < 65536) : crc16Shift c < 65536 := by
  unfold crc16Shift
  split
  · exact Nat.xor_lt_two_pow (n := 16) (Nat.mod_lt _ (by decide)) (by decide)
  · omega

theorem crc16Shifts_lt : ∀ n c, c < 65536 → crc16Shifts n c < 65536
  | 0, _, h => h
  | n + 1, c, h => crc16Shifts_lt n _ (crc16Shift_lt c h)

theorem crc16From_lt (bs : List Byte) (c : Nat) (h : c < 65536) : crc16From c bs < 65536 := by
  unfold crc16From
  induction bs generalizing c with
  | nil => exact h
  | cons b bs ih =>
    rw [List.foldl_cons]
    refine ih _ (crc16Shifts_lt 8 _ (Nat.xor_lt_two_pow (n := 16) h ?_))
    have := b.isLt
    omega

theorem crc16_lt (bs : List Byte) : crc16 bs < 65536 := crc16From_lt bs _ (by decide)

theorem get_goodMem (c k : Nat) (h : k < 32640) : Tab.get (fun _ => 0#8) (goodMem c) k = Tab.get (fun _ => 0#8) goodMem0 k := by
  have happ : ∀ t : Tab Byte, Tab.find (t ++ [(32640, BitVec.ofNat 8 (c / 256)), (32641, BitVec.ofNat 8 c)]) k =
      Tab.find t k := by
    intro t
    induction t with
    | nil =>
      show (if 32640 = k then _ else if 32641 = k then _ else none) = none
      rw [if_neg (by omega), if_neg (by omega)]
    | cons e t ih => rw [List.cons_append, Tab.find, Tab.find, ih]
  rw [Tab.get, Tab.get, goodMem, happ]

theorem getList_goodMem (c k n : Nat) (h : k + n ≤ 32640) :
    Tab.getList (fun _ => 0#8) (goodMem c) k n = Tab.getList (fun _ => 0#8) goodMem0 k n := by
  refine List.map_congr_left fun i hi => get_goodMem _ _ ?_
  have := List.mem_range.1 hi
  omega

theorem memWord_goodMem (c k : Nat) (h : k + 1 < 32640) : memWord (goodMem c) k = memWord goodMem0 k := by
  rw [memWord, memWord, memByte, memByte, memByte, memByte, get_goodMem _ _ (by omega), get_goodMem _ _ h]

theorem find_append_none {t : Tab Byte} (u : Tab Byte) {k : Nat} (h : Tab.find t k = none) : Tab.find (t ++ u) k = Tab.find u k := by
  induction t with
  | nil => rfl
  | cons e t ih =>
    rw [Tab.find] at h
    rw [List.cons_append, Tab.find]
    split at h
    · exact absurd h (by simp)
    · rw [if_neg ‹_›, ih h]

theorem find_of_mem {t : Tab Byte} {k : Nat} {v : Byte} (hv : ∀ e ∈ t, e.2 = v) (hk : ∃ e ∈ t, e.1 = k) : Tab.find t k = some v := by
  induction t with
  | nil => obtain ⟨e, he, -⟩ := hk; cases he
  | cons e t ih =>
    rw [Tab.find]
    split
    · rw [← hv e (.head _)]
    · refine ih (fun x hx => hv x (.tail _ hx)) ?_
      obtain ⟨x, hx, hxk⟩ := hk
      rcases List.mem_cons.1 hx with rfl | hx
      · contradiction
      · exact ⟨x, hx, hxk⟩

theorem goodMem0_chip (k : Nat) (h : k < 248) : memByte goodMem0 (31872 + 2 * k) = 128 := by
  have hn : Tab.find [(12, 1#8), (16, 16#8), (20, 4#8), (126, 0x2A#8), (127, 0x8D#8)] (31872 + 2 * k) = none := by
    rw [Tab.find, if_neg (by omega), Tab.find, if_neg (by omega), Tab.find, if_neg (by omega), Tab.find, if_neg (by omega),
      Tab.find, if_neg (by omega), Tab.find]
  rw [memByte, Tab.get, goodMem0, find_append_none _ hn, find_of_mem (v := 0x80#8)]
  · rfl
  · intro e he
    obtain ⟨c, -, rfl⟩ := List.mem_map.1 he
    rfl
  · exact ⟨_, List.mem_map.2 ⟨k, List.mem_range.2 h, rfl⟩, rfl⟩

theorem goodMem_crc (c : Nat) (h : c < 65536) : memWord (goodMem c) 32640 = c := by
  have h0 : Tab.find goodMem0 32640 = none := by decide +kernel
  have h1 : Tab.find goodMem0 32641 = none := by decide +kernel
  have e0 : memByte (goodMem c) 32640 = c / 256 % 256 := by
    rw [memByte, Tab.get, goodMem, find_append_none _ h0, Tab.find, if_pos rfl, Option.getD_some, BitVec.toNat_ofNat]
  have e1 : memByte (goodMem c) 32641 = c % 256 := by
    rw [memByte, Tab.get, goodMem, find_append_none _ h1, Tab.find, if_neg (by decide), Tab.find, if_pos rfl, Option.getD_some,
      BitVec.toNat_ofNat]
  unfold memWord
  rw [e0, e1]
  omega

theorem goodMem_accepted (c : Nat) (h : crc16 (Tab.getList (fun _ => 0#8) goodMem0 128 32512) = c) :
    base.attachRefusal 2 (goodMem c) = none := by
  have hlt : c < 65536 := h ▸ crc16_lt _
  have hc : (List.range 248).any (fun k => decide (memWord (goodMem c) (31872 + 2 * k) < 16384)) = false := by
    rw [List.any_eq_false]
    intro k hk
    have hk := List.mem_range.1 hk
    rw [memWord_goodMem _ _ (by omega), memWord, goodMem0_chip k hk]
    simp; omega
  have hb : memByte (goodMem c) 12 = 1 ∧ memByte (goodMem c) 13 = 0 := by
    rw [memByte, memByte, get_goodMem _ _ (by decide), get_goodMem _ _ (by decide)]
    decide +kernel
  unfold State.attachRefusal
  simp only [getList_goodMem _ _ _ (show 0 + 126 ≤ 32640 by decide), getList_goodMem _ _ _ (show 128 + 32512 ≤ 32640 by decide), goodMem_crc c hlt,
    memWord_goodMem _ 126 (by decide), memWord_goodMem _ 16 (by decide), memWord_goodMem _ 18 (by decide), memWord_goodMem _ 20 (by decide),
    hb.1, hb.2, hc]
  have h1 : crc16 (Tab.getList (fun _ => 0#8) goodMem0 0 126) = memWord goodMem0 126 := by decide +kernel
  rw [h1, h, if_neg (by simp)]
  decide +kernel

/-! ### The hypotheses of each statement are met -/

theorem witness_StepRunsFront :
    (∃ (s : State), s.aon.running = true ∧ ({ s with pending := [], ticks := s.ticks + 1 }).due = []) ∧
    (∃ (c : Instr) (s : State), s.aon.running = true ∧ ({ s with pending := [], ticks := s.ticks + 1 }).due = [c]) ∧
    (∃ (s : State), s.aon.running = false) :=
  ⟨⟨base, by decide +kernel⟩,
    ⟨.relayGapEnd, { base with relay := { base.relay with gapAt := some 1 } }, by decide +kernel⟩,
    ⟨State.reset, by decide +kernel⟩⟩

theorem witness_BufferStopHolds :
    ∃ (c : Instr) (s : State) (t : State), s.dev = .bufferStop ∧ PowerCycle c = false ∧ exec c s = .next t :=
  ⟨.resetNLow, { base with dev := .bufferStop }, { base with dev := .bufferStop }, by decide +kernel, by decide +kernel, by rfl⟩

theorem witness_StepInvariant :
    ∃ (s : State) (t : State), step s = .next t ∧ s.dev = .bufferStop ∧ (∀ c, s.pending.head? = some c → PowerCycle c = false) :=
  ⟨{ base with dev := .bufferStop, pending := [.resetNLow] }, { base with dev := .bufferStop }, by rfl, by decide +kernel, by intro c h; cases h; rfl⟩

theorem witness_VcoreLevels :
    (∃ (s : State) (d : _), s.dev = .run ∧ s.core.stby = false ∧ s.standbyOk = true ∧ s.core.stbyAt = some d) ∧
    (∃ (s : State), s.dev = .run ∧ s.core.stbyAt = none) ∧
    (∃ (s : State), s.dev = .run ∧ s.core.stby = true ∧ s.standbyOk = false) ∧
    (∃ (s : State), s.dev = .run ∧ s.flag F.SYS_VCORE_GOOD = false ∧ s.core.stby = false) ∧
    (∃ (s : State), s.dev = .run ∧ s.flag F.SYS_VCORE_GOOD = true) ∧
    (∃ (s : State) (d : _), s.dev = .run ∧ s.core.lowAt = some d) :=
  ⟨⟨{ base with core := { base.core with stbyAt := some 5 } }, 5, by decide +kernel⟩,
    ⟨base, by decide +kernel⟩,
    ⟨{ (sets base [(F.SYS_VCORE_HOLD_RUN, 1)]) with core := { base.core with stby := true } }, by decide +kernel⟩,
    ⟨(sets base [(F.SYS_VCORE_GOOD, 0)]), by decide +kernel⟩,
    ⟨base, by decide +kernel⟩,
    ⟨{ base with core := { base.core with lowAt := some 7 } }, 7, by decide +kernel⟩⟩

theorem witness_TickSourceAndRod :
    (∃ (s : State), s.dev = .run ∧ s.aon.running = true ∧ s.aon.xtal = false) ∧
    (∃ (s : State) (d : _), s.dev = .run ∧ s.rod = 1 ∧ s.aon.xtal = true ∧ s.core.coarseN < 10 ∧ s.core.winAt = some d) ∧
    (∃ (s : State) (count : _), s.dev = .run ∧ 499990 ≤ count ∧ count ≤ 500010 ∧ (s.rod = 1 ∨ s.rod = 2 ∨ s.rod = 3) ∧ s.aon.xtal = true ∧ 10 ≤ s.core.coarseN) :=
  ⟨⟨{ base with aon := { base.aon with xtal := false } }, by decide +kernel⟩,
    ⟨{ (sets base [(F.SYS_TIMEBASE_ROD_STATE, 1)]) with core := { base.core with coarseN := 9, winAt := some 5 } }, 5, by decide +kernel⟩,
    ⟨{ (sets base [(F.SYS_TIMEBASE_ROD_STATE, 3)]) with core := { base.core with coarseN := 10 } }, 499990, by decide +kernel⟩⟩

theorem witness_FreightJobsReport :
    (∃ (s : State) (j : Fin 10) (p : _) (d : _), s.dev = .run ∧ jobPeriod j = some p ∧ jobUnits s.part j = [0] ∧ s.jobCond j 0 = true ∧ s.works (s.jobBp j 0) = true ∧ (s.job j 0).since = some d ∧ (s.job j 0).late = false ∧ (s.job j 0).paused = none) ∧
    (∃ (s : State) (j : Fin 10), s.dev = .run ∧ s.jobDeadlines j = []) ∧
    (∃ (s : State) (d : _), s.dev = .run ∧ s.lineWaits = false ∧ s.works 0 = true ∧ (s.job 0 0).since = some d ∧ (s.job 0 0).paused = none) ∧
    (∃ (s : State) (d : _), s.dev = .run ∧ s.lineWaits = false ∧ s.works 0 = true ∧ (s.job 9 0).since = some d ∧ (s.job 9 0).paused = none ∧ (∀ c : Nat, c < 4 → (s.adc c).busy ≠ none)) ∧
    (∃ (s : State), s.dev = .run ∧ s.lineWaits = true ∧ s.core.passRun < 7) :=
  ⟨⟨{ base with core := { base.core with jobs := [(0, { since := some 5 })] } }, 0, 65536, 5, by decide +kernel⟩,
    ⟨base, 0, by decide +kernel⟩,
    ⟨{ base with core := { base.core with jobs := [(0, { since := some 5 })] } }, 5, by decide +kernel⟩,
    ⟨busyAll ({ base with core := { base.core with jobs := [(288, { since := some 5 })] } }), 5, by decide +kernel⟩,
    ⟨(queued base { verb := .caps, query := true }), by decide +kernel⟩⟩

theorem witness_WindowStates :
    (∃ (lo : Nat) (hi : Nat) (hys : Nat) (st : MonState), lo < hi ∧ 2 * hys ≤ hi - lo ∧ st ≠ .below) ∧
    (∃ (lo : Nat) (hi : Nat) (hys : Nat) (st : MonState), lo < hi ∧ 2 * hys ≤ hi - lo ∧ st ≠ .above) ∧
    (∃ (lo : Nat) (hi : Nat) (hys : Nat) (cnt : Nat), lo < hi ∧ 2 * hys ≤ hi - lo ∧ cnt + 1 < 8) :=
  ⟨⟨100, 104, 2, .inside, by decide +kernel⟩,
    ⟨100, 104, 2, .inside, by decide +kernel⟩,
    ⟨100, 104, 2, 6, by decide +kernel⟩⟩

theorem witness_MonitorCommands :
    (∃ (s : State) (n : Fin 24), s.dev = .run ∧ s.samples n = true ∧ (s.mon n).blank = false ∧ (s.flag (F.MON_CTRL_MODE n) = false ∨ (s.adc (s.get (F.MON_CTRL_ADC n))).busy = none)) ∧
    (∃ (s : State) (n : Fin 24), s.dev = .run ∧ s.samples n = true ∧ (s.mon n).blank = false ∧ s.flag (F.MON_CTRL_MODE n) = true ∧ (s.adc (s.get (F.MON_CTRL_ADC n))).busy ≠ none) ∧
    (∃ (s : State) (n : Fin 24), s.dev = .run ∧ s.samples n = true ∧ (s.mon n).blank = true ∧ (s.mon n).wait = false) ∧
    (∃ (s : State) (n : Fin 24), s.dev = .run ∧ s.samples n = true ∧ (s.mon n).blank = true ∧ (s.mon n).wait = true) ∧
    (∃ (s : State) (n : Fin 24), s.dev = .run ∧ s.samples n = true ∧ (s.mon n).blank = false ∧ s.flag (F.MON_CTRL_MODE n) = false ∧ s.get (F.MON_CTRL_INPUT n) = 15 ∧ s.tt.run = none) ∧
    (∃ (s : State) (n : Fin 24) (c : Fin 4) (m : _) (ms : _), s.dev = .run ∧ s.samples n = true ∧ (s.adc c).busy = some .freight ∧ bitsSet (s.adc c).mons 24 = m :: ms) ∧
    (∃ (s : State) (n : Fin 24) (c : Fin 4) (r : _) (rs : _), s.dev = .run ∧ s.samples n = true ∧ (s.adc c).busy = some .freight ∧ bitsSet (s.adc c).mons 24 = [] ∧ (s.adc c).freight = r :: rs) :=
  ⟨⟨(sets base [((F.MON_CTRL_EN 3), 1), ((F.MON_CTRL_MODE 3), 0), ((F.MON_CTRL_ADC 3), 1)]), 3, by decide +kernel⟩,
    ⟨((sets base [((F.MON_CTRL_EN 3), 1), ((F.MON_CTRL_MODE 3), 1), ((F.MON_CTRL_ADC 3), 1)]).modAdc 1 fun y => { y with busy := some .freight }), 3, by decide +kernel⟩,
    ⟨((sets base [((F.MON_CTRL_EN 3), 1), ((F.MON_CTRL_MODE 3), 0), ((F.MON_CTRL_ADC 3), 1)]).modMon 3 fun y => { y with blank := true }), 3, by decide +kernel⟩,
    ⟨((sets base [((F.MON_CTRL_EN 3), 1), ((F.MON_CTRL_MODE 3), 0), ((F.MON_CTRL_ADC 3), 1)]).modMon 3 fun y => { y with blank := true, wait := true }), 3, by decide +kernel⟩,
    ⟨(sets (sets base [((F.MON_CTRL_EN 3), 1), ((F.MON_CTRL_MODE 3), 0), ((F.MON_CTRL_ADC 3), 1)]) [((F.MON_CTRL_INPUT 3), 15)]), 3, by decide +kernel⟩,
    ⟨((sets base [((F.MON_CTRL_EN 3), 1), ((F.MON_CTRL_MODE 3), 0), ((F.MON_CTRL_ADC 3), 1)]).modAdc 2 fun y => { y with busy := some .freight, mons := 4 }), 3, 2, 2, [], by decide +kernel⟩,
    ⟨((sets base [((F.MON_CTRL_EN 3), 1), ((F.MON_CTRL_MODE 3), 0), ((F.MON_CTRL_ADC 3), 1)]).modAdc 2 fun y => { y with busy := some .freight, freight := [.voc 1] }), 3, 2, .voc 1, [], by decide +kernel⟩⟩

theorem witness_CellBalanceTimer :
    (∃ (s : State) (k : Fin 8) (d : _), s.dev = .run ∧ Tab.get (fun _ => none) s.bridge.balAt k = some d ∧ s.bit F.RES_BAL_BAL_ON k = true) ∧
    (∃ (s : State) (k : Fin 8), s.dev = .run ∧ (s.bit F.RES_BAL_BAL_ON k = false ∨ Tab.get (fun _ => none) s.bridge.balAt k = none)) ∧
    (∃ (s : State) (k : Fin 8), s.dev = .run ∧ s.bit F.RES_BAL_BAL_ON k = false) :=
  ⟨⟨{ (sets base [(F.RES_BAL_BAL_ON, 128)]) with bridge := { base.bridge with balAt := [(7, some 40)] } }, 7, 40, by decide +kernel⟩,
    ⟨base, 3, by decide +kernel⟩,
    ⟨base, 3, by decide +kernel⟩⟩

theorem witness_HarvestInputs :
    (∃ (s : State) (i : Fin 4), s.dev = .run ∧ s.part.hasHarv i = true ∧ s.aon.running = true) ∧
    (∃ (s : State) (i : Fin 4) (d : _), s.dev = .run ∧ s.part.hasHarv i = true ∧ (s.harv i).nextAt = some d ∧ s.harvMode i = 1 ∧ (s.harv i).voc = .none) ∧
    (∃ (s : State) (i : Fin 4) (d : _), s.dev = .run ∧ s.part.hasHarv i = true ∧ (s.harv i).voc = .dwell ∧ (s.harv i).dwellAt = some d ∧ (∀ c : Nat, c < 4 → (s.adc c).busy ≠ none)) :=
  ⟨⟨base, 1, by decide +kernel⟩,
    ⟨((sets base [((F.HARV_CTRL_MODE 1), 1)]).modHarv 1 fun x => { x with nextAt := some 9 }), 1, 9, by decide +kernel⟩,
    ⟨busyAll ((sets base [((F.HARV_CTRL_MODE 1), 1)]).modHarv 1 fun x => { x with voc := .dwell, dwellAt := some 9 }), 1, 9, by decide +kernel⟩⟩

theorem witness_HarvestClampPresent :
    (∃ (s : State) (i : Fin 4), s.dev = .run ∧ (s.harv i).clampOwn = false ∧ (s.harv i).clampMon = false) ∧
    (∃ (s : State) (i : Fin 4) (a : _), s.dev = .run ∧ a ≠ Reg.addr (.HARV_STATUS i)) :=
  ⟨⟨base, 1, by decide +kernel⟩,
    ⟨base, 1, 0x0000, by decide +kernel⟩⟩

theorem witness_KeyPulses :
    (∃ (s : State), s.dev = .run ∧ s.aon.keyPulse = .none) ∧
    (∃ (s : State), s.dev = .run ∧ s.aon.keyPulse = .release) ∧
    (∃ (s : State) (stack : _), s.dev = .run ∧ s.aon.keyPulse = .press ∧ 1000 ≤ stack) :=
  ⟨⟨base, by decide +kernel⟩,
    ⟨{ base with aon := { base.aon with keyPulse := .release } }, by decide +kernel⟩,
    ⟨{ base with aon := { base.aon with keyPulse := .press } }, 1000, by decide +kernel⟩⟩

theorem witness_KeepAliveSource :
    (∃ (s : State) (vka : Nat) (stack : _), s.dev = .run ∧ s.aon.running = true ∧ s.aon.drain = false ∧ 1050 ≤ stack ∧ s.get F.HARV_START_SOURCE = 0 ∧ vka < s.holdLevel) ∧
    (∃ (s : State) (vka : Nat), s.dev = .run ∧ s.aon.running = true ∧ s.aon.drain = false ∧ s.holdLevel ≤ vka) ∧
    (∃ (s : State) (vka : Nat), s.dev = .run ∧ s.aon.running = true ∧ s.aon.drain = false ∧ (s.get F.HARV_START_SOURCE = 2 ∨ s.get F.HARV_START_SOURCE = 1) ∧ s.relayIdle = true ∧ s.get F.HARV_KA_RES_OFF * 25 ≤ vka) ∧
    (∃ (s : State), s.dev = .run ∧ s.aon.running = true ∧ s.aon.drain = false ∧ s.get F.HARV_START_SOURCE = 1 ∧ s.relayIdle = true) ∧
    (∃ (s : State) (vka : Nat), s.dev = .run ∧ s.aon.running = true ∧ s.aon.drain = false ∧ (s.get F.HARV_START_SOURCE = 2 ∨ s.get F.HARV_START_SOURCE = 0) ∧ s.aon.feedLow = true ∧ vka < s.holdLevel) ∧
    (∃ (s : State) (vka : Nat), s.dev = .run ∧ s.aon.running = true ∧ s.aon.drain = false ∧ s.flag F.BACKUP_STATUS_PRESENT = true ∧ s.get F.HARV_START_SOURCE ≠ 2 ∧ vka ≤ s.bkOn) ∧
    (∃ (s : State) (vka : Nat), s.dev = .run ∧ s.aon.running = true ∧ s.aon.drain = false ∧ s.get F.HARV_START_SOURCE = 0 ∧ s.relay.wait = none ∧ s.atFull = false ∧ s.get F.HARV_KA_TRICKLE_ON * 25 ≤ vka) :=
  ⟨⟨base, 0, 1050, by decide +kernel⟩,
    ⟨base, 9999, by decide +kernel⟩,
    ⟨(sets base [(F.HARV_START_SOURCE, 1)]), 9999, by decide +kernel⟩,
    ⟨(sets base [(F.HARV_START_SOURCE, 1)]), by decide +kernel⟩,
    ⟨{ base with aon := { base.aon with feedLow := true } }, 0, by decide +kernel⟩,
    ⟨(sets base [(F.HARV_START_SOURCE, 1), (F.BACKUP_STATUS_PRESENT, 1)]), 0, by decide +kernel⟩,
    ⟨base, 9999, by decide +kernel⟩⟩

theorem witness_BackupCell :
    (∃ (s : State), s.dev = .run ∧ s.aon.running = true ∧ s.flag F.BACKUP_STATUS_EMPTY = false) ∧
    (∃ (s : State) (code : _) (used : _), s.dev = .run ∧ s.aon.running = true ∧ 1434 ≤ code ∧ code < 4096 ∧ s.get F.BACKUP_STATUS_USED + used < 65536) :=
  ⟨⟨base, by decide +kernel⟩,
    ⟨(sets base [(F.BACKUP_STATUS_USED, 65530)]), 1434, 5, by decide +kernel⟩⟩

theorem witness_RelayPulses :
    (∃ (s : State) (d : _), s.dev = .run ∧ s.relay.gapAt = some d) ∧
    (∃ (s : State) (r : _) (a : _), s.dev = .run ∧ s.relay.wait = some r ∧ s.relay.armAt = some a ∧ (r.set = true ∨ s.failed 4 = false) ∧ s.failed 6 = false) ∧
    (∃ (s : State) (r : _) (a : _), s.dev = .run ∧ s.relay.wait = some r ∧ s.relay.armAt = some a ∧ r.set = false ∧ r.why = .recovery ∧ (s.failed 4 = true ∨ s.failed 6 = true)) ∧
    (∃ (s : State) (r : _) (d : _), s.dev = .run ∧ s.relay.shot = none ∧ s.relay.run = some (r, d) ∧ r.why = .recovery) ∧
    (∃ (s : State) (r : _) (d : _), s.dev = .run ∧ s.relay.wait = some r ∧ s.relay.armAt = some d ∧ r.why = .recovery) :=
  ⟨⟨{ base with relay := { base.relay with gapAt := some 4, wait := some ⟨true, .register⟩ } }, 4, by decide +kernel⟩,
    ⟨{ base with relay := { base.relay with armAt := some 4, wait := some ⟨true, .register⟩ } }, ⟨true, .register⟩, 4, by decide +kernel⟩,
    ⟨{ (sets base [(F.BIST_SUM_FAILED, 16)]) with relay := { base.relay with armAt := some 4, wait := some ⟨false, .recovery⟩ } }, ⟨false, .recovery⟩, 4, by decide +kernel⟩,
    ⟨{ base with relay := { base.relay with run := some (⟨false, .recovery⟩, 80) } }, ⟨false, .recovery⟩, 80, by decide +kernel⟩,
    ⟨{ base with relay := { base.relay with armAt := some 4, wait := some ⟨true, .recovery⟩ } }, ⟨true, .recovery⟩, 4, by decide +kernel⟩⟩

theorem witness_TopUpAndMainsWait :
    (∃ (s : State), s.dev = .run ∧ s.topupDue = true) ∧
    (∃ (s : State) (d : _), s.dev = .run ∧ s.relay.retryAt = some d) ∧
    (∃ (s : State) (d : _), s.dev = .run ∧ s.relay.mainsAt = some d ∧ s.relay.mainsMet = false ∧ s.get F.RELAY_STATUS_STATE = 2) ∧
    (∃ (s : State) (d : _), s.dev = .run ∧ s.relay.mainsAt = some d ∧ s.relay.mainsMet = true) :=
  ⟨⟨(sets base [(F.RELAY_CTRL_TOPUP_EN, 1)]), by decide +kernel⟩,
    ⟨{ base with relay := { base.relay with retryAt := some 4 } }, 4, by decide +kernel⟩,
    ⟨{ (sets base [(F.RELAY_STATUS_STATE, 2)]) with relay := { base.relay with mainsAt := some 4 } }, 4, by decide +kernel⟩,
    ⟨{ (sets base [(F.RELAY_STATUS_STATE, 2)]) with relay := { base.relay with mainsAt := some 4, mainsMet := true } }, 4, by decide +kernel⟩⟩

theorem witness_BridgeCommands :
    (∃ (s : State) (b : _), s.dev = .run ∧ within 2 4 s.mode = false ∧ s.works 4 = true ∧ b < 4096) ∧
    (∃ (s : State) (m : BridgeMeas), s.dev = .run ∧ within 2 4 s.mode = true ∧ s.works 4 = true ∧ m.vbus < 4096) ∧
    (∃ (s : State) (d : _), s.dev = .run ∧ s.bridge.fullAt = some d ∧ s.flag F.RES_STATUS_FULL = false ∧ s.relay.closure = .none) ∧
    (∃ (s : State) (d : _), s.dev = .run ∧ s.bridge.absAt = some d ∧ s.mode = 3) ∧
    (∃ (s : State), s.dev = .run ∧ s.mode = 3 ∧ s.bridge.absOver = true ∧ s.bridge.absEdge = false ∧ s.works 4 = true) ∧
    (∃ (s : State) (d : _), s.dev = .run ∧ s.bridge.limAt = some d ∧ s.mode = 4 ∧ s.causePresent 43 2 = false) :=
  ⟨⟨base, 4095, by decide +kernel⟩,
    ⟨(sets base [(F.BR_STATUS_MODE, 2), (F.BR_CTRL_EN, 1)]), ⟨3000, 5, 4095, 10, 100, true⟩, by decide +kernel⟩,
    ⟨{ (sets base []) with bridge := { base.bridge with fullAt := some 3 } }, 3, by decide +kernel⟩,
    ⟨{ (sets base [(F.BR_STATUS_MODE, 3), (F.BR_CTRL_EN, 1)]) with bridge := { base.bridge with absAt := some 3 } }, 3, by decide +kernel⟩,
    ⟨{ (sets base [(F.BR_STATUS_MODE, 3)]) with bridge := { base.bridge with absOver := true } }, by decide +kernel⟩,
    ⟨{ (sets base [(F.BR_STATUS_MODE, 4), (F.BR_CTRL_EN, 1)]) with bridge := { base.bridge with limAt := some 3 } }, 3, by decide +kernel⟩⟩

theorem witness_MainsQualification :
    (∃ (s : State), s.dev = .run ∧ s.flag F.BR_STATUS_MAINS_OK = false) ∧
    (∃ (s : State) (d : _), s.dev = .run ∧ s.bridge.qualAt = some d ∧ s.flag F.BR_STATUS_MAINS_OK = true ∧ s.get F.RELAY_STATUS_STATE = 0) :=
  ⟨⟨base, by decide +kernel⟩,
    ⟨{ (sets base [(F.BR_STATUS_MAINS_OK, 1), (F.RELAY_STATUS_WAIT_MAINS, 1)]) with bridge := { base.bridge with qualAt := some 9 } }, 9, by decide +kernel⟩⟩

theorem witness_ResetEntries :
    (∃ (s : State), (s.dev = .selftest ∨ s.dev = .run)) ∧
    (∃ (s : State), s.dev = .bufferStop) ∧
    (∃ (s : State), s.dev ≠ .bufferStop) :=
  ⟨⟨{ base with dev := .selftest }, by decide +kernel⟩,
    ⟨{ base with dev := .bufferStop }, by decide +kernel⟩,
    ⟨base, by decide +kernel⟩⟩

theorem witness_EndOfResetAndKeyHold :
    (∃ (s : State) (vka : Nat) (peak : Nat), s.dev = .reset ∧ s.aon.running = true ∧ s.aon.drain = false ∧ 2000 ≤ vka ∧ s.coreOk vka peak = true) ∧
    (∃ (s : State) (vka : Nat) (peak : Nat), s.dev = .reset ∧ (vka < 2000 ∨ s.coreOk vka peak = false)) ∧
    (∃ (s : State) (d : _), s.dev = .run ∧ s.aon.keyHold = some d) ∧
    (∃ (s : State), s.dev = .reset ∧ s.aon.running = false) ∧
    (∃ (s : State), s.dev = .bufferStop ∧ s.aon.drain = true ∧ s.aon.running = false) ∧
    (∃ (s : State), s.dev ≠ .bufferStop ∧ s.aon.drain = true ∧ s.aon.running = false) :=
  ⟨⟨{ base with dev := .reset }, 2000, 2000, by decide +kernel⟩,
    ⟨{ base with dev := .reset }, 1999, 1999, by decide +kernel⟩,
    ⟨{ base with aon := { base.aon with keyHold := some 6 } }, 6, by decide +kernel⟩,
    ⟨State.reset, by decide +kernel⟩,
    ⟨{ base with dev := .bufferStop, aon := { base.aon with drain := true, running := false } }, by decide +kernel⟩,
    ⟨{ base with aon := { base.aon with drain := true, running := false } }, by decide +kernel⟩⟩

theorem witness_SupplyCommands :
    (∃ (s : State), s.dev = .run ∧ s.aon.vioOk = true) ∧
    (∃ (s : State), s.dev = .run ∧ s.aon.vioOk = false) :=
  ⟨⟨base, by decide +kernel⟩,
    ⟨{ base with aon := { base.aon with vioOk := false } }, by decide +kernel⟩⟩

theorem witness_BytesAndLines :
    (∃ (s : State) (p : PortId) (b : Byte), s.dev = .run ∧ s.aon.vioOk = true ∧ p ≠ .spi ∧ 32 ≤ b.toNat ∧ b.toNat ≤ 126 ∧ s.failed 1 = false ∧ (s.port p).skip = false ∧ s.held256 p < 256 ∧ (s.port p).rx.length < 160) ∧
    (∃ (s : State) (p : PortId), s.dev = .run ∧ s.aon.vioOk = true ∧ (s.port p).rx = [0x74#8, 0x69#8, 0x6D#8, 0x65#8, 0x3F#8] ∧ (s.port p).extra = 0 ∧ (s.port p).skip = false ∧ (s.port p).overrun = false ∧ (s.port p).bad = false ∧ s.strict p = false ∧ s.failed 1 = false ∧ (s.waiting p).length < 8) ∧
    (∃ (s : State) (p : PortId), s.dev = .run ∧ s.aon.vioOk = true ∧ (s.port p).overrun = true ∧ s.failed 1 = false) :=
  ⟨⟨base, .host, 126#8, by decide +kernel⟩,
    ⟨{ base with host := { base.host with rx := [0x74#8, 0x69#8, 0x6D#8, 0x65#8, 0x3F#8] } }, .host, by decide +kernel⟩,
    ⟨{ base with host := { base.host with overrun := true } }, .host, by decide +kernel⟩⟩

theorem witness_OutputOfPorts :
    (∃ (s : State) (p : PortId) (i : _) (rest : _), s.dev = .run ∧ s.canSend = true ∧ (s.port p).out = i :: rest ∧ i.kind ≠ .echo ∧ i.apply = none ∧ (p = .host ∧ s.host.set.flow = true → s.host.cts = true)) ∧
    (∃ (s : State), s.dev = .run ∧ s.canSend = true ∧ s.host.set.flow = true ∧ s.host.cts = false) ∧
    (∃ (s : State) (p : PortId), s.dev = .run ∧ s.canSend = true ∧ 0 < (s.port p).dropped ∧ (s.port p).notices < 32 ∧ s.typed p = true ∧ (s.port p).rx ≠ [] ∧ (s.port p).out = []) ∧
    (∃ (s : State) (p : PortId), s.dev = .run ∧ s.canSend = true ∧ 0 < (s.port p).dropped ∧ (s.port p).notices < 32 ∧ (s.typed p = false ∨ (s.port p).rx = [])) :=
  ⟨⟨{ base with host := { base.host with out := [{ kind := .reply, text := "OK CAPS" }] } }, .host, { kind := .reply, text := "OK CAPS" }, [], by decide +kernel⟩,
    ⟨{ base with host := { base.host with cts := false, set := { base.host.set with flow := true } } }, by decide +kernel⟩,
    ⟨{ base with service := { base.service with rx := [0x74#8], dropped := 2, set := { base.service.set with strict := false } } }, .service, by decide +kernel⟩,
    ⟨{ base with host := { base.host with dropped := 2 } }, .host, by decide +kernel⟩⟩

theorem witness_TimetableStarts :
    (∃ (s : State) (n : Fin 8) (src : StartSrc), s.dev = .run ∧ (n.val, src) ∉ s.tt.asked) ∧
    (∃ (s : State) (n : Fin 8) (src : StartSrc), s.dev = .run ∧ (n.val, src) ∈ s.tt.asked ∧ s.failed 2 = false ∧ s.tt.run = none ∧ s.ttValid n = true) ∧
    (∃ (s : State) (n : Fin 8) (src : StartSrc) (r : _), s.dev = .run ∧ (n.val, src) ∈ s.tt.asked ∧ s.failed 2 = false ∧ s.tt.run = some r ∧ r.tt ≠ 4 ∧ n ≠ 4 ∧ s.ttValid n = true) ∧
    (∃ (s : State) (src : StartSrc) (r : _), s.dev = .run ∧ (4, src) ∈ s.tt.asked ∧ s.failed 2 = false ∧ s.tt.run = some r ∧ r.tt < 8 ∧ r.tt ≠ 4 ∧ s.ttValid 4 = true) ∧
    (∃ (s : State) (n : Fin 8) (src : StartSrc), s.dev = .run ∧ (n.val, src) ∈ s.tt.asked ∧ s.failed 2 = false ∧ s.ttRuns 4 = true) ∧
    (∃ (s : State) (n : Fin 8) (src : StartSrc), s.dev = .run ∧ (n.val, src) ∈ s.tt.asked ∧ s.failed 2 = true) ∧
    (∃ (s : State) (x : _), s.dev = .run ∧ s.tt.run = none ∧ s.tt.pend = some x ∧ x.tt < 8 ∧ x.owed = none ∧ s.failed 2 = false) ∧
    (∃ (s : State), s.dev = .run ∧ s.tt.bootPend = true ∧ s.flt.causes = [] ∧ s.flag F.TT_CTRL_AUTOBOOT = true ∧ s.ttValid 0 = true ∧ s.failed 2 = false ∧ s.tt.run = none) ∧
    (∃ (s : State), s.dev = .run ∧ s.failed 2 = false ∧ s.tt.run = none ∧ s.ttValid (s.get F.TT_CTRL_SEL) = true) ∧
    (∃ (s : State) (r : _), s.dev = .run ∧ s.failed 2 = false ∧ s.tt.run = some r ∧ r.tt = s.get F.TT_CTRL_SEL ∧ r.tt ≠ 4) ∧
    (∃ (s : State) (x : _), s.dev = .run ∧ s.failed 2 = false ∧ s.tt.pend = some x ∧ x.owed = none ∧ x.tt = s.get F.TT_CTRL_SEL ∧ x.tt ≠ 4 ∧ s.ttRuns x.tt = false) ∧
    (∃ (s : State), s.dev = .run ∧ s.get F.TT_CTRL_SEL = 4) :=
  ⟨⟨base, 3, .reg, by decide +kernel⟩,
    ⟨{ (sets base [(F.TT_DIR_VALID 3, 1)]) with tt := { base.tt with asked := [(3, .reg)] } }, 3, .reg, by decide +kernel⟩,
    ⟨{ (sets base [(F.TT_DIR_VALID 3, 1)]) with tt := { base.tt with asked := [(3, .reg)], run := some { tt := 2 } } }, 3, .reg, { tt := 2 }, by decide +kernel⟩,
    ⟨{ (sets base [(F.TT_DIR_VALID 4, 1)]) with tt := { base.tt with asked := [(4, .reg)], run := some { tt := 2 } } }, .reg, { tt := 2 }, by decide +kernel⟩,
    ⟨{ (sets base [(F.TT_DIR_VALID 3, 1)]) with tt := { base.tt with asked := [(3, .reg)], run := some { tt := 4 } } }, 3, .reg, by decide +kernel⟩,
    ⟨{ (sets base [(F.BIST_SUM_FAILED, 4)]) with tt := { base.tt with asked := [(3, .reg)] } }, 3, .reg, by decide +kernel⟩,
    ⟨{ base with tt := { base.tt with pend := some { tt := 2, src := .cmd } } }, { tt := 2, src := .cmd }, by decide +kernel⟩,
    ⟨{ (sets base [(F.TT_CTRL_AUTOBOOT, 1), ((F.TT_DIR_VALID 0), 1)]) with tt := { base.tt with bootPend := true } }, by decide +kernel⟩,
    ⟨(sets base [(F.TT_DIR_VALID 0, 1)]), by decide +kernel⟩,
    ⟨{ base with tt := { base.tt with run := some { tt := 0 } } }, { tt := 0 }, by decide +kernel⟩,
    ⟨{ base with tt := { base.tt with pend := some { tt := 0, src := .cmd } } }, { tt := 0, src := .cmd }, by decide +kernel⟩,
    ⟨(sets base [(F.TT_CTRL_SEL, 4)]), by decide +kernel⟩⟩

theorem witness_TimetableSteps :
    (∃ (s : State) (r : TtRun) (w : Word) (b : Bool), s.dev = .run ∧ s.tt.run = some r ∧ r.wait = .ready ∧ s.failed 2 = false ∧ s.ttStepWord r.tt r.step = w ∧ stepOp w = (if b then 0 else 1) ∧ bitsOf w 24 4 = 7) ∧
    (∃ (s : State) (r : TtRun) (w : Word) (q : _), s.dev = .run ∧ s.tt.run = some r ∧ r.wait = .ready ∧ s.failed 2 = false ∧ s.ttStepWord r.tt r.step = w ∧ stepOp w = 0 ∧ bitsOf w 24 4 = q ∧ q < 6 ∧ s.part.hasRail q = true ∧ s.works (railBp q) = true) ∧
    (∃ (s : State) (r : TtRun) (w : Word) (q : _), s.dev = .run ∧ s.tt.run = some r ∧ r.wait = .ready ∧ s.failed 2 = false ∧ s.ttStepWord r.tt r.step = w ∧ (stepOp w = 0 ∨ stepOp w = 1) ∧ bitsOf w 24 4 = q ∧ (q < 6 ∨ 7 < q) ∧ s.part.hasRail q = false) ∧
    (∃ (s : State) (r : TtRun) (w : Word), s.dev = .run ∧ s.tt.run = some r ∧ r.wait = .ready ∧ s.failed 2 = false ∧ s.ttStepWord r.tt r.step = w ∧ stepOp w = 0 ∧ bitsOf w 24 4 = 6 ∧ s.underTest 4 = false) ∧
    (∃ (s : State) (r : TtRun) (w : Word) (q : _), s.dev = .run ∧ s.tt.run = some r ∧ r.wait = .ready ∧ s.failed 2 = false ∧ s.ttStepWord r.tt r.step = w ∧ stepOp w = 1 ∧ bitsOf w 24 4 = q ∧ q < 6 ∧ s.part.hasRail q = true ∧ s.works (railBp q) = true) ∧
    (∃ (s : State) (r : TtRun) (w : Word), s.dev = .run ∧ s.tt.run = some r ∧ r.wait = .ready ∧ s.failed 2 = false ∧ s.ttStepWord r.tt r.step = w ∧ stepOp w = 2 ∧ bitsOf w 24 4 = 0) ∧
    (∃ (s : State) (r : TtRun) (w : Word) (k : _), s.dev = .run ∧ s.tt.run = some r ∧ r.wait = .ready ∧ s.failed 2 = false ∧ s.ttStepWord r.tt r.step = w ∧ stepOp w = 3 ∧ bitsOf w 27 1 = 0 ∧ bitsOf w 22 5 = k ∧ s.part.hasRail k = true) ∧
    (∃ (s : State) (r : TtRun) (w : Word), s.dev = .run ∧ s.tt.run = some r ∧ r.wait = .ready ∧ s.failed 2 = false ∧ s.ttStepWord r.tt r.step = w ∧ stepOp w = 4 ∧ bitsOf w 26 2 = 0 ∧ bitsOf w 18 8 = 0) ∧
    (∃ (s : State) (r : TtRun) (w : Word), s.dev = .run ∧ s.tt.run = some r ∧ r.wait = .ready ∧ s.failed 2 = false ∧ s.ttStepWord r.tt r.step = w ∧ stepOp w = 4 ∧ bitsOf w 26 2 = 1 ∧ s.flag F.TT_STATUS_LAST_FAIL = true) ∧
    (∃ (s : State) (r : TtRun) (w : Word) (q : _), s.dev = .run ∧ s.tt.run = some r ∧ r.wait = .ready ∧ s.failed 2 = false ∧ s.ttStepWord r.tt r.step = w ∧ stepOp w = 5 ∧ bitsOf w 24 4 = q ∧ 6 ≤ q) ∧
    (∃ (s : State) (r : TtRun) (w : Word), s.dev = .run ∧ s.tt.run = some r ∧ r.wait = .ready ∧ s.failed 2 = false ∧ s.ttStepWord r.tt r.step = w ∧ stepOp w = 6 ∧ r.tt < 8) ∧
    (∃ (s : State) (r : TtRun) (w : Word), s.dev = .run ∧ s.tt.run = some r ∧ r.wait = .ready ∧ s.failed 2 = false ∧ s.ttStepWord r.tt r.step = w ∧ stepOp w = 7) ∧
    (∃ (s : State) (r : TtRun) (w : Word), s.dev = .run ∧ s.tt.run = some r ∧ r.wait = .ready ∧ s.failed 2 = false ∧ s.ttStepWord r.tt r.step = w ∧ stepOp w ≠ 7) ∧
    (∃ (s : State) (r : TtRun) (w : Word), s.dev = .run ∧ s.tt.run = some r ∧ r.wait = .ready ∧ s.failed 2 = false ∧ s.ttStepWord r.tt r.step = w ∧ stepOp w ≠ 4) :=
  ⟨⟨(runs 3 2 0x17000000#32), { tt := 3, step := 2 }, 0x17000000#32, false, by decide +kernel⟩,
    ⟨(runs 3 2 0x04000000#32), { tt := 3, step := 2 }, 0x04000000#32, 4, by decide +kernel⟩,
    ⟨(runs 3 2 0x0F000000#32), { tt := 3, step := 2 }, 0x0F000000#32, 15, by decide +kernel⟩,
    ⟨(runs 3 2 0x06000000#32), { tt := 3, step := 2 }, 0x06000000#32, by decide +kernel⟩,
    ⟨(runs 3 2 0x15000000#32), { tt := 3, step := 2 }, 0x15000000#32, 5, by decide +kernel⟩,
    ⟨(runs 3 2 0x20000005#32), { tt := 3, step := 2 }, 0x20000005#32, by decide +kernel⟩,
    ⟨(runs 3 2 0x30C00000#32), { tt := 3, step := 2 }, 0x30C00000#32, 3, by decide +kernel⟩,
    ⟨(runs 3 2 0x40000005#32), { tt := 3, step := 2 }, 0x40000005#32, by decide +kernel⟩,
    ⟨(sets (runs 3 2 0x44000000#32) [(F.TT_STATUS_LAST_FAIL, 1)]), { tt := 3, step := 2 }, 0x44000000#32, by decide +kernel⟩,
    ⟨(runs 3 2 0x56000000#32), { tt := 3, step := 2 }, 0x56000000#32, 6, by decide +kernel⟩,
    ⟨(runs 3 2 0x60001234#32), { tt := 3, step := 2 }, 0x60001234#32, by decide +kernel⟩,
    ⟨(runs 3 2 0x70000000#32), { tt := 3, step := 2 }, 0x70000000#32, by decide +kernel⟩,
    ⟨(runs 3 2 0x40000005#32), { tt := 3, step := 2 }, 0x40000005#32, by decide +kernel⟩,
    ⟨(runs 3 2 0x70000000#32), { tt := 3, step := 2 }, 0x70000000#32, by decide +kernel⟩⟩

theorem witness_TimetableWaits :
    (∃ (s : State) (r : TtRun) (cond : _) (ev : _) (act : _) (till : _), s.dev = .run ∧ s.tt.run = some r ∧ r.wait = .wait cond ev act till ∧ s.condHolds cond ev = true) ∧
    (∃ (s : State) (r : TtRun) (cond : _) (ev : _) (act : _) (till : _), s.dev = .run ∧ s.tt.run = some r ∧ r.wait = .wait cond ev act till ∧ s.condHolds cond ev = false) ∧
    (∃ (s : State) (r : TtRun) (ev : _) (act : _) (d : _), s.dev = .run ∧ s.tt.run = some r ∧ r.wait = .wait 0 ev act (some d)) ∧
    (∃ (s : State) (r : TtRun) (cond : _) (ev : _) (d : _), s.dev = .run ∧ s.tt.run = some r ∧ r.wait = .wait cond ev 0 (some d) ∧ cond ≠ 0) ∧
    (∃ (s : State) (r : TtRun) (kind : _) (idx : _) (dw : _) (ch : _) (seen : _) (till : _) (since : _) (good : _), s.dev = .run ∧ s.tt.run = some r ∧ r.wait = .check kind idx 0 dw ch seen till since good) ∧
    (∃ (s : State) (r : TtRun) (kind : _) (idx : _) (dw : _) (ch : _) (seen : _) (till : _) (since : _) (good : _), s.dev = .run ∧ s.tt.run = some r ∧ r.wait = .check kind idx 2 dw ch seen till since good) ∧
    (∃ (s : State) (r : TtRun) (d : _), s.dev = .run ∧ s.tt.run = some r ∧ s.tt.sigPulseAt = some d) :=
  ⟨⟨{ base with tt := { base.tt with run := some { tt := 3, step := 2, wait := .wait 1 0 0 (some 90) } } }, { tt := 3, step := 2, wait := .wait 1 0 0 (some 90) }, 1, 0, 0, some 90, by decide +kernel⟩,
    ⟨{ base with tt := { base.tt with run := some { tt := 3, step := 2, wait := .wait 3 0 0 (some 90) } } }, { tt := 3, step := 2, wait := .wait 3 0 0 (some 90) }, 3, 0, 0, some 90, by decide +kernel⟩,
    ⟨{ base with tt := { base.tt with run := some { tt := 3, step := 2, wait := .wait 0 0 1 (some 90) } } }, { tt := 3, step := 2, wait := .wait 0 0 1 (some 90) }, 0, 1, 90, by decide +kernel⟩,
    ⟨{ base with tt := { base.tt with run := some { tt := 3, step := 2, wait := .wait 2 0 0 (some 90) } } }, { tt := 3, step := 2, wait := .wait 2 0 0 (some 90) }, 2, 0, 90, by decide +kernel⟩,
    ⟨{ base with tt := { base.tt with run := some { tt := 3, step := 2, wait := .check 0 3 0 4 0 0 90 80 false } } }, { tt := 3, step := 2, wait := .check 0 3 0 4 0 0 90 80 false }, 0, 3, 4, 0, 0, 90, 80, false, by decide +kernel⟩,
    ⟨{ base with tt := { base.tt with run := some { tt := 3, step := 2, wait := .check 0 3 2 4 0 0 90 80 false } } }, { tt := 3, step := 2, wait := .check 0 3 2 4 0 0 90 80 false }, 0, 3, 4, 0, 0, 90, 80, false, by decide +kernel⟩,
    ⟨{ (sets base [(F.SIG_STAT_BY, 4)]) with tt := { base.tt with run := some { tt := 3, step := 2 }, sigPulseAt := some 9 } }, { tt := 3, step := 2 }, 9, by decide +kernel⟩⟩

theorem witness_SystemQueries :
    (∃ (s : State) (p : PortId) (l : Line), l.toks = [] ∧ Grants s p l .caps true) ∧
    (∃ (s : State) (p : PortId) (l : Line), l.toks = [] ∧ Grants s p l .state true) ∧
    (∃ (s : State) (p : PortId) (l : Line), l.toks = [] ∧ Grants s p l .time true) ∧
    (∃ (s : State) (p : PortId) (l : Line), l.toks = [] ∧ Grants s p l .rod true) ∧
    (∃ (s : State) (p : PortId) (l : Line), l.toks = [] ∧ Grants s p l .freight true) ∧
    (∃ (s : State) (p : PortId) (l : Line), l.toks = [] ∧ Grants s p l .port true) ∧
    (∃ (s : State) (p : PortId) (l : Line), l.toks = [] ∧ Grants s p l .sub true) :=
  ⟨⟨(queued base { verb := .caps, query := true, toks := [] }), .host, { verb := .caps, query := true, toks := [] }, by unfold Grants; decide +kernel⟩,
    ⟨(queued base { verb := .state, query := true, toks := [] }), .host, { verb := .state, query := true, toks := [] }, by unfold Grants; decide +kernel⟩,
    ⟨(queued base { verb := .time, query := true, toks := [] }), .host, { verb := .time, query := true, toks := [] }, by unfold Grants; decide +kernel⟩,
    ⟨(queued base { verb := .rod, query := true, toks := [] }), .host, { verb := .rod, query := true, toks := [] }, by unfold Grants; decide +kernel⟩,
    ⟨(queued base { verb := .freight, query := true, toks := [] }), .host, { verb := .freight, query := true, toks := [] }, by unfold Grants; decide +kernel⟩,
    ⟨(queued base { verb := .port, query := true, toks := [] }), .host, { verb := .port, query := true, toks := [] }, by unfold Grants; decide +kernel⟩,
    ⟨(queued base { verb := .sub, query := true, toks := [] }), .host, { verb := .sub, query := true, toks := [] }, by unfold Grants; decide +kernel⟩⟩

theorem witness_PeekPokeSubPort :
    (∃ (s : State) (p : PortId) (l : Line) (a : _), Grants s p l .peek true ∧ bareNumbers s.compat ["ADDRESS"] ["ADDRESS", "COUNT"] l.toks = .ok [a] ∧ isAddr a = true) ∧
    (∃ (s : State) (p : PortId) (l : Line) (a : _) (v : _), Grants s p l .poke false ∧ bareNumbers s.compat ["ADDRESS", "VALUE"] ["ADDRESS", "VALUE"] l.toks = .ok [a, v] ∧ isAddr a = true) ∧
    (∃ (s : State) (p : PortId) (l : Line) (b : _), Grants s p l .sub false ∧ subLine s.part true (s.port p).subs l.toks = .ok b) ∧
    (∃ (s : State) (p : PortId) (l : Line) (b : _), Grants s p l .unsub false ∧ subLine s.part false (s.port p).subs l.toks = .ok b) ∧
    (∃ (k : Part), k.heads ≤ 2) ∧
    (∃ (s : State) (l : Line), Grants s .host l .port false ∧ s.compat = false ∧ l.toks = ["BAUD=230400", "FLOW=RTSCTS"]) ∧
    (∃ (s : State) (p : PortId) (l : Line), Grants s p l .port false ∧ s.compat = false ∧ s.canSend = true ∧ l.toks = [portName p, "MODE=STRICT"]) ∧
    (∃ (s : State) (p : PortId) (l : Line), Grants s p l .peek true ∧ l.toks = []) ∧
    (∃ (s : State) (p : PortId) (l : Line) (v : _), Grants s p l .poke false ∧ bareNumbers s.compat ["ADDRESS", "VALUE"] ["ADDRESS", "VALUE"] l.toks = .ok [2, v]) :=
  ⟨⟨(queued base { verb := .peek, query := true, toks := ["0X0008"] }), .host, { verb := .peek, query := true, toks := ["0X0008"] }, 8, by unfold Grants; decide +kernel⟩,
    ⟨(queued base { verb := .poke, toks := ["0X0E00", "0X01"] }), .host, { verb := .poke, toks := ["0X0E00", "0X01"] }, 0x0E00, 1, by unfold Grants; decide +kernel⟩,
    ⟨(queued base { verb := .sub, toks := ["EV", "3"] }), .host, { verb := .sub, toks := ["EV", "3"] }, okOf (subLine .uhk7344 true base.host.subs ["EV", "3"]) base.host.subs, by unfold Grants; decide +kernel⟩,
    ⟨(queued base { verb := .unsub, toks := ["ALL"] }), .host, { verb := .unsub, toks := ["ALL"] }, okOf (subLine .uhk7344 false base.host.subs ["ALL"]) base.host.subs, by unfold Grants; decide +kernel⟩,
    ⟨.uhk7340, by decide +kernel⟩,
    ⟨(queued base { verb := .port, toks := ["BAUD=230400", "FLOW=RTSCTS"] }), { verb := .port, toks := ["BAUD=230400", "FLOW=RTSCTS"] }, by unfold Grants; decide +kernel⟩,
    ⟨(queued base { verb := .port, toks := ["HOST", "MODE=STRICT"] }), .host, { verb := .port, toks := ["HOST", "MODE=STRICT"] }, by unfold Grants; decide +kernel⟩,
    ⟨(queued base { verb := .peek, query := true }), .host, { verb := .peek, query := true }, by unfold Grants; decide +kernel⟩,
    ⟨(queued base { verb := .poke, toks := ["2", "5"] }), .host, { verb := .poke, toks := ["2", "5"] }, 5, by unfold Grants; decide +kernel⟩⟩

theorem witness_PowerQueries :
    (∃ (s : State) (p : PortId) (l : Line) (n : Nat), Grants s p l .mon true ∧ objMon s.part l = .ok n ∧ restToks l = [] ∧ s.failed 5 = false) ∧
    (∃ (s : State) (p : PortId) (l : Line) (n : Nat), Grants s p l .harvest true ∧ objHarv s.part l = .ok n ∧ restToks l = []) ∧
    (∃ (s : State) (p : PortId) (l : Line), Grants s p l .vka true ∧ l.toks = []) ∧
    (∃ (s : State) (p : PortId) (l : Line), Grants s p l .stack true ∧ l.toks = [] ∧ s.failed 4 = false) ∧
    (∃ (s : State) (p : PortId) (l : Line) (n : Nat), Grants s p l .stack true ∧ s.objCell l = .ok n ∧ restToks l = [] ∧ s.failed 4 = false) ∧
    (∃ (s : State) (p : PortId) (l : Line), Grants s p l .bridge true ∧ l.toks = [] ∧ s.failed 4 = false) ∧
    (∃ (s : State) (p : PortId) (l : Line), Grants s p l .relay true ∧ l.toks = [] ∧ s.failed 4 = false) ∧
    (∃ (s : State) (p : PortId) (l : Line), Grants s p l .backup true ∧ l.toks = [] ∧ s.failed 4 = false) ∧
    (∃ (s : State) (p : PortId) (l : Line), Grants s p l .gauge true ∧ l.toks = [] ∧ s.failed 6 = false) ∧
    (∃ (s : State) (p : PortId) (l : Line), Grants s p l .rightaway true ∧ l.toks = [] ∧ s.failed 6 = false) ∧
    (∃ (s : State) (p : PortId) (l : Line), Grants s p l .budget true ∧ l.toks = [] ∧ s.failed 6 = false) :=
  ⟨⟨(queued (sets base [(F.RES_CFG_CELLS, 6)]) { verb := .mon, query := true, toks := ["MON3"] }), .host, { verb := .mon, query := true, toks := ["MON3"] }, 3, by unfold Grants; decide +kernel⟩,
    ⟨(queued (sets base [(F.RES_CFG_CELLS, 6)]) { verb := .harvest, query := true, toks := ["TEG"] }), .host, { verb := .harvest, query := true, toks := ["TEG"] }, 2, by unfold Grants; decide +kernel⟩,
    ⟨(queued (sets base [(F.RES_CFG_CELLS, 6)]) { verb := .vka, query := true, toks := [] }), .host, { verb := .vka, query := true, toks := [] }, by unfold Grants; decide +kernel⟩,
    ⟨(queued (sets base [(F.RES_CFG_CELLS, 6)]) { verb := .stack, query := true, toks := [] }), .host, { verb := .stack, query := true, toks := [] }, by unfold Grants; decide +kernel⟩,
    ⟨(queued (sets base [(F.RES_CFG_CELLS, 6)]) { verb := .stack, query := true, toks := ["CELL2"] }), .host, { verb := .stack, query := true, toks := ["CELL2"] }, 1, by unfold Grants; decide +kernel⟩,
    ⟨(queued (sets base [(F.RES_CFG_CELLS, 6)]) { verb := .bridge, query := true, toks := [] }), .host, { verb := .bridge, query := true, toks := [] }, by unfold Grants; decide +kernel⟩,
    ⟨(queued (sets base [(F.RES_CFG_CELLS, 6)]) { verb := .relay, query := true, toks := [] }), .host, { verb := .relay, query := true, toks := [] }, by unfold Grants; decide +kernel⟩,
    ⟨(queued (sets base [(F.RES_CFG_CELLS, 6)]) { verb := .backup, query := true, toks := [] }), .host, { verb := .backup, query := true, toks := [] }, by unfold Grants; decide +kernel⟩,
    ⟨(queued (sets base [(F.RES_CFG_CELLS, 6)]) { verb := .gauge, query := true, toks := [] }), .host, { verb := .gauge, query := true, toks := [] }, by unfold Grants; decide +kernel⟩,
    ⟨(queued (sets base [(F.RES_CFG_CELLS, 6)]) { verb := .rightaway, query := true, toks := [] }), .host, { verb := .rightaway, query := true, toks := [] }, by unfold Grants; decide +kernel⟩,
    ⟨(queued (sets base [(F.RES_CFG_CELLS, 6)]) { verb := .budget, query := true, toks := [] }), .host, { verb := .budget, query := true, toks := [] }, by unfold Grants; decide +kernel⟩⟩

theorem witness_RailQueries :
    (∃ (s : State) (p : PortId) (l : Line) (n : Nat), Grants s p l .phase true ∧ objPhase s.part l = .ok n ∧ restToks l = [] ∧ s.failed (s.phBp n) = false) ∧
    (∃ (s : State) (p : PortId) (l : Line), Grants s p l .sync true ∧ l.toks = [] ∧ s.failed 4 = false) ∧
    (∃ (s : State) (p : PortId) (l : Line) (n : Nat), Grants s p l .balance true ∧ objRail s.part l = .ok n ∧ restToks l = [] ∧ s.failed (railBp n) = false) ∧
    (∃ (s : State) (p : PortId) (l : Line) (n : Nat), Grants s p l .rail true ∧ objRail s.part l = .ok n ∧ restToks l = [] ∧ s.failed (railBp n) = false) ∧
    (∃ (s : State) (p : PortId) (l : Line) (n : Nat), Grants s p l .margin true ∧ objRail s.part l = .ok n ∧ restToks l = [] ∧ s.failed (railBp n) = false) ∧
    (∃ (s : State) (p : PortId) (l : Line) (n : Nat), Grants s p l .limit true ∧ objRail s.part l = .ok n ∧ restToks l = [] ∧ s.failed (railBp n) = false) ∧
    (∃ (s : State) (p : PortId) (l : Line) (n : Nat), Grants s p l .depends true ∧ objRail s.part l = .ok n ∧ restToks l = [] ∧ s.failed (railBp n) = false) ∧
    (∃ (s : State) (p : PortId) (l : Line) (n : Nat), Grants s p l .tt true ∧ objTt l = .ok n ∧ restToks l = [] ∧ s.failed 2 = false) :=
  ⟨⟨(queued base { verb := .phase, query := true, toks := ["PH5"] }), .host, { verb := .phase, query := true, toks := ["PH5"] }, 5, by unfold Grants; decide +kernel⟩,
    ⟨(queued base { verb := .sync, query := true, toks := [] }), .host, { verb := .sync, query := true, toks := [] }, by unfold Grants; decide +kernel⟩,
    ⟨(queued base { verb := .balance, query := true, toks := ["C"] }), .host, { verb := .balance, query := true, toks := ["C"] }, 4, by unfold Grants; decide +kernel⟩,
    ⟨(queued base { verb := .rail, query := true, toks := ["H2"] }), .host, { verb := .rail, query := true, toks := ["H2"] }, 1, by unfold Grants; decide +kernel⟩,
    ⟨(queued base { verb := .margin, query := true, toks := ["A"] }), .host, { verb := .margin, query := true, toks := ["A"] }, 5, by unfold Grants; decide +kernel⟩,
    ⟨(queued base { verb := .limit, query := true, toks := ["H1"] }), .host, { verb := .limit, query := true, toks := ["H1"] }, 0, by unfold Grants; decide +kernel⟩,
    ⟨(queued base { verb := .depends, query := true, toks := ["H4"] }), .host, { verb := .depends, query := true, toks := ["H4"] }, 3, by unfold Grants; decide +kernel⟩,
    ⟨(queued base { verb := .tt, query := true, toks := ["TT7"] }), .host, { verb := .tt, query := true, toks := ["TT7"] }, 7, by unfold Grants; decide +kernel⟩⟩

theorem witness_HeadQueries :
    (∃ (s : State) (p : PortId) (l : Line) (n : Nat), Grants s p l .link true ∧ objHead s.part l = .ok n ∧ restToks l = [] ∧ s.failed (headBp n) = false) ∧
    (∃ (s : State) (p : PortId) (l : Line) (n : Nat), Grants s p l .enc true ∧ objHead s.part l = .ok n ∧ restToks l = [] ∧ s.failed (headBp n) = false) ∧
    (∃ (s : State) (p : PortId) (l : Line) (n : Nat), Grants s p l .reg true ∧ objHead s.part l = .ok n ∧ restToks l = [] ∧ s.failed (headBp n) = false) ∧
    (∃ (s : State) (p : PortId) (l : Line) (n : Nat), Grants s p l .strobe true ∧ objHead s.part l = .ok n ∧ restToks l = [] ∧ s.failed (headBp n) = false) ∧
    (∃ (s : State) (p : PortId) (l : Line) (n : Nat), Grants s p l .head true ∧ objHead s.part l = .ok n ∧ restToks l = [] ∧ s.failed (headBp n) = false) ∧
    (∃ (s : State) (p : PortId) (l : Line) (n : Nat), Grants s p l .dose true ∧ objHead s.part l = .ok n ∧ restToks l = [] ∧ s.failed (headBp n) = false) ∧
    (∃ (s : State) (p : PortId) (l : Line) (n : Nat), Grants s p l .lightgate true ∧ objHead s.part l = .ok n ∧ restToks l = [] ∧ s.failed (headBp n) = false) :=
  ⟨⟨(queued base { verb := .link, query := true, toks := ["HEAD1"] }), .host, { verb := .link, query := true, toks := ["HEAD1"] }, 0, by unfold Grants; decide +kernel⟩,
    ⟨(queued base { verb := .enc, query := true, toks := ["HEAD4"] }), .host, { verb := .enc, query := true, toks := ["HEAD4"] }, 3, by unfold Grants; decide +kernel⟩,
    ⟨(queued base { verb := .reg, query := true, toks := ["HEAD1"] }), .host, { verb := .reg, query := true, toks := ["HEAD1"] }, 0, by unfold Grants; decide +kernel⟩,
    ⟨(queued base { verb := .strobe, query := true, toks := ["HEAD4"] }), .host, { verb := .strobe, query := true, toks := ["HEAD4"] }, 3, by unfold Grants; decide +kernel⟩,
    ⟨(queued base { verb := .head, query := true, toks := ["HEAD1"] }), .host, { verb := .head, query := true, toks := ["HEAD1"] }, 0, by unfold Grants; decide +kernel⟩,
    ⟨(queued base { verb := .dose, query := true, toks := ["HEAD4"] }), .host, { verb := .dose, query := true, toks := ["HEAD4"] }, 3, by unfold Grants; decide +kernel⟩,
    ⟨(queued base { verb := .lightgate, query := true, toks := ["HEAD1"] }), .host, { verb := .lightgate, query := true, toks := ["HEAD1"] }, 0, by unfold Grants; decide +kernel⟩⟩

theorem witness_JunctionQueries :
    (∃ (s : State) (p : PortId) (l : Line) (n : Nat), Grants s p l .route true ∧ objEv s.part l = .ok n ∧ restToks l = []) ∧
    (∃ (s : State) (p : PortId) (l : Line), Grants s p l .fault true ∧ l.toks = []) ∧
    (∃ (s : State) (p : PortId) (l : Line) (n : Nat), Grants s p l .fault true ∧ objEv s.part l = .ok n ∧ restToks l = []) ∧
    (∃ (s : State) (p : PortId) (l : Line), Grants s p l .flt true ∧ l.toks = []) ∧
    (∃ (s : State) (p : PortId) (l : Line), Grants s p l .signal true ∧ l.toks = []) ∧
    (∃ (s : State) (p : PortId) (l : Line), Grants s p l .bist true ∧ l.toks = []) ∧
    (∃ (s : State) (p : PortId) (l : Line) (n : Nat), Grants s p l .bist true ∧ objBp l = .ok n ∧ restToks l = []) ∧
    (∃ (s : State) (p : PortId) (l : Line), Grants s p l .log true ∧ l.toks = [] ∧ s.failed 9 = false) ∧
    (∃ (s : State) (p : PortId) (l : Line), Grants s p l .nv true ∧ l.toks = [] ∧ s.failed 9 = false) :=
  ⟨⟨(queued base { verb := .route, query := true, toks := ["EV63"] }), .host, { verb := .route, query := true, toks := ["EV63"] }, 63, by unfold Grants; decide +kernel⟩,
    ⟨(queued base { verb := .fault, query := true, toks := [] }), .host, { verb := .fault, query := true, toks := [] }, by unfold Grants; decide +kernel⟩,
    ⟨(queued base { verb := .fault, query := true, toks := ["EV0"] }), .host, { verb := .fault, query := true, toks := ["EV0"] }, 0, by unfold Grants; decide +kernel⟩,
    ⟨(queued base { verb := .flt, query := true, toks := [] }), .host, { verb := .flt, query := true, toks := [] }, by unfold Grants; decide +kernel⟩,
    ⟨(queued base { verb := .signal, query := true, toks := [] }), .host, { verb := .signal, query := true, toks := [] }, by unfold Grants; decide +kernel⟩,
    ⟨(queued base { verb := .bist, query := true, toks := [] }), .host, { verb := .bist, query := true, toks := [] }, by unfold Grants; decide +kernel⟩,
    ⟨(queued base { verb := .bist, query := true, toks := ["BP9"] }), .host, { verb := .bist, query := true, toks := ["BP9"] }, 9, by unfold Grants; decide +kernel⟩,
    ⟨(queued base { verb := .log, query := true, toks := [] }), .host, { verb := .log, query := true, toks := [] }, by unfold Grants; decide +kernel⟩,
    ⟨(queued base { verb := .nv, query := true, toks := [] }), .host, { verb := .nv, query := true, toks := [] }, by unfold Grants; decide +kernel⟩⟩

theorem witness_PowerCommands :
    (∃ (s : State) (p : PortId) (l : Line) (n : Nat), Grants s p l .mon false ∧ objMon s.part l = .ok n ∧ nonAbsent (restToks l) "INPUT" (absentIn inputNames s.part.hasInput) = .ok () ∧ nonAbsent (restToks l) "BLANK" (absentIn blankNames s.part.hasBlank) = .ok () ∧ parseArgs s.compat (monKinds ((granted s).monInput n (restToks l)) ((granted s).monConv n (restToks l)) (rawValue (restToks l) "STBYPERIOD" == some "OFF")) (restToks l) = .ok (argsOf (parseArgs s.compat (monKinds ((granted s).monInput n (restToks l)) ((granted s).monConv n (restToks l)) (rawValue (restToks l) "STBYPERIOD" == some "OFF")) (restToks l))) ∧ ((argsOf (parseArgs s.compat (monKinds ((granted s).monInput n (restToks l)) ((granted s).monConv n (restToks l)) (rawValue (restToks l) "STBYPERIOD" == some "OFF")) (restToks l))).txt "EVENTS").isSome = (((argsOf (parseArgs s.compat (monKinds ((granted s).monInput n (restToks l)) ((granted s).monConv n (restToks l)) (rawValue (restToks l) "STBYPERIOD" == some "OFF")) (restToks l))).txt "EVENTS").bind eventMask).isSome ∧ ((granted s).monStored n (argsOf (parseArgs s.compat (monKinds ((granted s).monInput n (restToks l)) ((granted s).monConv n (restToks l)) (rawValue (restToks l) "STBYPERIOD" == some "OFF")) (restToks l))) ((granted s).monConv n (restToks l)) (((argsOf (parseArgs s.compat (monKinds ((granted s).monInput n (restToks l)) ((granted s).monConv n (restToks l)) (rawValue (restToks l) "STBYPERIOD" == some "OFF")) (restToks l))).txt "EVENTS").bind eventMask) (if rawValue (restToks l) "STBYPERIOD" = some "OFF" then some 15 else (argsOf (parseArgs s.compat (monKinds ((granted s).monInput n (restToks l)) ((granted s).monConv n (restToks l)) (rawValue (restToks l) "STBYPERIOD" == some "OFF")) (restToks l))).nat "STBYPERIOD")).regOk (.MON_CTRL n) = true ∧ ((granted s).monStored n (argsOf (parseArgs s.compat (monKinds ((granted s).monInput n (restToks l)) ((granted s).monConv n (restToks l)) (rawValue (restToks l) "STBYPERIOD" == some "OFF")) (restToks l))) ((granted s).monConv n (restToks l)) (((argsOf (parseArgs s.compat (monKinds ((granted s).monInput n (restToks l)) ((granted s).monConv n (restToks l)) (rawValue (restToks l) "STBYPERIOD" == some "OFF")) (restToks l))).txt "EVENTS").bind eventMask) (if rawValue (restToks l) "STBYPERIOD" = some "OFF" then some 15 else (argsOf (parseArgs s.compat (monKinds ((granted s).monInput n (restToks l)) ((granted s).monConv n (restToks l)) (rawValue (restToks l) "STBYPERIOD" == some "OFF")) (restToks l))).nat "STBYPERIOD")).thrOk n = true ∧ s.failed 5 = false) ∧
    (∃ (s : State) (p : PortId) (l : Line) (n : Nat), Grants s p l .harvest false ∧ objHarv s.part l = .ok n ∧ parseArgs s.compat (harvKinds n) (restToks l) = .ok (argsOf (parseArgs s.compat (harvKinds n) (restToks l))) ∧ ((granted s).harvStored n (argsOf (parseArgs s.compat (harvKinds n) (restToks l)))).get (F.HARV_LIM_VMIN n) ≤ ((granted s).harvStored n (argsOf (parseArgs s.compat (harvKinds n) (restToks l)))).get (F.HARV_LIM_VMAX n) ∧ ¬(n = 3 ∧ (argsOf (parseArgs s.compat (harvKinds n) (restToks l))).nat "MODE" = some 1)) ∧
    (∃ (s : State) (p : PortId) (l : Line), Grants s p l .stack false ∧ parseArgs s.compat stackKinds l.toks = .ok (argsOf (parseArgs s.compat stackKinds l.toks)) ∧ ((granted s).stackStored (argsOf (parseArgs s.compat stackKinds l.toks))).regOk .RES_CFG = true ∧ (granted s).changeOk ((granted s).stackStored (argsOf (parseArgs s.compat stackKinds l.toks))) .RES_CFG = true ∧ s.failed 4 = false) ∧
    (∃ (s : State) (p : PortId) (l : Line), Grants s p l .bridge false ∧ parseArgs s.compat bridgeKinds l.toks = .ok (argsOf (parseArgs s.compat bridgeKinds l.toks)) ∧ s.failed 4 = false ∧ (((argsOf (parseArgs s.compat bridgeKinds l.toks)).nat "EN" = some 0 ∨ (argsOf (parseArgs s.compat bridgeKinds l.toks)).nat "SUPPORT" = some 0) → s.bridgeKeeps = false)) ∧
    (∃ (s : State) (p : PortId) (l : Line), Grants s p l .relay false ∧ l.toks = ["SET"] ∧ s.failed 4 = false) ∧
    (∃ (s : State) (p : PortId) (l : Line), Grants s p l .relay false ∧ l.toks = ["CLR"] ∧ (granted s).relayRefusal = none) ∧
    (∃ (s : State) (p : PortId) (l : Line) (why : _), Grants s p l .relay false ∧ l.toks = ["CLR"] ∧ (granted s).relayRefusal = some why) ∧
    (∃ (s : State) (p : PortId) (l : Line), Grants s p l .relay false ∧ relaySets l = false ∧ relayClears l = false ∧ parseArgs s.compat relayKinds l.toks = .ok (argsOf (parseArgs s.compat relayKinds l.toks)) ∧ s.failed 4 = false) ∧
    (∃ (s : State), s.dev = .run ∧ s.works 4 = true ∧ s.flag F.RELAY_CTRL_SET = false) ∧
    (∃ (s : State), s.dev = .run ∧ s.works 4 = true ∧ s.flag F.RELAY_CTRL_CLR = false ∧ s.relayRefusal = none) ∧
    (∃ (s : State) (why : _), s.dev = .run ∧ s.works 4 = true ∧ s.flag F.RELAY_CTRL_CLR = false ∧ s.relayRefusal = some why) ∧
    (∃ (s : State), 0 < s.claims ∧ s.failed 4 = false ∧ s.failed 6 = false) :=
  ⟨⟨(queued (sets base [((F.MON_THR_HI 3), 1023)]) { verb := .mon, toks := ["MON3", "LO=1V", "EVENTS=BELOW,ABOVE"] }), .host, { verb := .mon, toks := ["MON3", "LO=1V", "EVENTS=BELOW,ABOVE"] }, 3, by unfold Grants; decide +kernel⟩,
    ⟨(queued base { verb := .harvest, toks := ["AC1", "FRACTION=50%"] }), .host, { verb := .harvest, toks := ["AC1", "FRACTION=50%"] }, 0, by unfold Grants; decide +kernel⟩,
    ⟨(queued base { verb := .stack, toks := ["BALDELTA=20MV"] }), .host, { verb := .stack, toks := ["BALDELTA=20MV"] }, by unfold Grants; decide +kernel⟩,
    ⟨(queued base { verb := .bridge, toks := ["EN=ON", "FREQ=100KHZ"] }), .host, { verb := .bridge, toks := ["EN=ON", "FREQ=100KHZ"] }, by unfold Grants; decide +kernel⟩,
    ⟨(queued base { verb := .relay, toks := ["SET"] }), .host, { verb := .relay, toks := ["SET"] }, by unfold Grants; decide +kernel⟩,
    ⟨(queued base { verb := .relay, toks := ["CLR"] }), .host, { verb := .relay, toks := ["CLR"] }, by unfold Grants; decide +kernel⟩,
    ⟨(queued (sets base [(F.GAUGE_RA_CLAIMS, 1)]) { verb := .relay, toks := ["CLR"] }), .host, { verb := .relay, toks := ["CLR"] }, "CLAIMED", by unfold Grants; decide +kernel⟩,
    ⟨(queued base { verb := .relay, toks := ["TOPUPEN=ON"] }), .host, { verb := .relay, toks := ["TOPUPEN=ON"] }, by unfold Grants; decide +kernel⟩,
    ⟨(sets base [(F.RELAY_CTRL_SET, 0)]), by decide +kernel⟩,
    ⟨base, by decide +kernel⟩,
    ⟨(sets base [(F.GAUGE_RA_CLAIMS, 1)]), "CLAIMED", by decide +kernel⟩,
    ⟨(sets base [(F.GAUGE_RA_CLAIMS, 1)]), by decide +kernel⟩⟩

theorem witness_ClaimsAndReleases :
    (∃ (s : State), s.dev = .run ∧ s.bist.run = none ∧ s.pinsCount = true ∧ s.claims < 4 ∧ s.flag F.GAUGE_RA_RIGHTAWAY = true) ∧
    (∃ (s : State) (k : Nat), s.dev = .run ∧ s.bist.run = none ∧ s.pinsCount = true ∧ s.claims < 4 ∧ s.flag F.GAUGE_RA_RIGHTAWAY = false ∧ 20 < k) ∧
    (∃ (s : State), s.dev = .run ∧ s.bist.run = none ∧ s.pinsCount = true ∧ 4 ≤ s.claims) ∧
    (∃ (s : State), s.dev = .run ∧ s.bist.run = none ∧ s.pinsCount = true ∧ s.claims = 0) ∧
    (∃ (s : State), s.dev = .run ∧ s.bist.run = none ∧ s.pinsCount = true ∧ 2 ≤ s.claims ∧ s.flag F.GAUGE_CFG_LOAD_SNS = false ∧ (∀ r : Nat, r < 4 → s.flag (F.RAIL_PSTAT_OVERLOAD r) = false)) ∧
    (∃ (s : State), s.dev = .run ∧ s.bist.run = none ∧ s.pinsCount = false) ∧
    (∃ (s : State) (p : PortId) (l : Line), s.dev = .run ∧ s.bist.run = none ∧ Grants s p l .claim false ∧ l.toks = [] ∧ (granted s).claimRefusal = none ∧ s.claims < 4) ∧
    (∃ (s : State) (p : PortId) (l : Line), s.dev = .run ∧ s.bist.run = none ∧ Grants s p l .done false ∧ l.toks = [] ∧ s.failed 6 = false ∧ 0 < s.claims) ∧
    (∃ (s : State) (p : PortId) (l : Line), s.dev = .run ∧ s.bist.run = none ∧ Grants s p l .done false ∧ l.toks = [] ∧ s.failed 6 = false ∧ s.claims = 0) :=
  ⟨⟨(sets base [(F.GAUGE_RA_CLAIMS, 3), (F.GAUGE_RA_RIGHTAWAY, 1)]), by decide +kernel⟩,
    ⟨(sets base [(F.GAUGE_RA_CLAIMS, 3)]), 21, by decide +kernel⟩,
    ⟨(sets base [(F.GAUGE_RA_CLAIMS, 4)]), by decide +kernel⟩,
    ⟨base, by decide +kernel⟩,
    ⟨(sets base [(F.GAUGE_RA_CLAIMS, 2), (F.GAUGE_CFG_LOAD_SNS, 0)]), by decide +kernel⟩,
    ⟨{ base with aon := { base.aon with vioOk := false } }, by decide +kernel⟩,
    ⟨(queued ready { verb := .claim, toks := [] }), .host, { verb := .claim, toks := [] }, by unfold Grants; decide +kernel⟩,
    ⟨(queued (sets base [(F.GAUGE_RA_CLAIMS, 1)]) { verb := .done, toks := [] }), .host, { verb := .done, toks := [] }, by unfold Grants; decide +kernel⟩,
    ⟨(queued base { verb := .done, toks := [] }), .host, { verb := .done, toks := [] }, by unfold Grants; decide +kernel⟩⟩

theorem witness_BudgetAndGaugeCalibration :
    (∃ (s : State) (p : PortId) (l : Line), Grants s p l .budget false ∧ nonAbsent l.toks "HEADS" (absentHead s.part) = .ok () ∧ parseArgs s.compat budgetKinds l.toks = .ok (argsOf (parseArgs s.compat budgetKinds l.toks)) ∧ ((argsOf (parseArgs s.compat budgetKinds l.toks)).txt "HEADS").isSome = (((argsOf (parseArgs s.compat budgetKinds l.toks)).txt "HEADS").bind headMask).isSome ∧ s.failed 6 = false) ∧
    (∃ (s : State) (p : PortId) (l : Line), Grants s p l .cal false ∧ l.toks = ["GAUGE"] ∧ s.failed 6 = false ∧ s.claims = 0) ∧
    (∃ (s : State) (p : PortId) (l : Line), Grants s p l .cal false ∧ l.toks = ["GAUGE"] ∧ s.failed 6 = false ∧ 0 < s.claims) ∧
    (∃ (s : State), s.dev = .run ∧ s.gauge.calPend = true ∧ s.claims = 0 ∧ s.works 6 = true) ∧
    (∃ (s : State), (s.gauge.calPend = false ∨ 0 < s.claims)) :=
  ⟨⟨(queued base { verb := .budget, toks := ["SET=500J", "HEADS=HEAD1,HEAD2"] }), .host, { verb := .budget, toks := ["SET=500J", "HEADS=HEAD1,HEAD2"] }, by unfold Grants; decide +kernel⟩,
    ⟨(queued base { verb := .cal, toks := ["GAUGE"] }), .host, { verb := .cal, toks := ["GAUGE"] }, by unfold Grants; decide +kernel⟩,
    ⟨(queued (sets base [(F.GAUGE_RA_CLAIMS, 1)]) { verb := .cal, toks := ["GAUGE"] }), .host, { verb := .cal, toks := ["GAUGE"] }, by unfold Grants; decide +kernel⟩,
    ⟨{ base with gauge := { base.gauge with calPend := true } }, by decide +kernel⟩,
    ⟨base, by decide +kernel⟩⟩

theorem witness_RailCommands :
    (∃ (s : State) (p : PortId) (l : Line) (n : Nat), s.failed (railBp n) = false ∧ objRail s.part l = .ok n ∧ Grants s p l .rail false ∧ parseArgs s.compat railKinds (restToks l) = .ok (argsOf (parseArgs s.compat railKinds (restToks l))) ∧ ((argsOf (parseArgs s.compat railKinds (restToks l))).has "SLEW" = true → (argsOf (parseArgs s.compat railKinds (restToks l))).has "TARGET" = true) ∧ ((granted s).railStored n (argsOf (parseArgs s.compat railKinds (restToks l)))).vSetmOk n = true ∧ ((argsOf (parseArgs s.compat railKinds (restToks l))).nat "ANT" = some 1 → n < s.part.heads)) ∧
    (∃ (s : State) (p : PortId) (l : Line) (n : Nat), s.failed (railBp n) = false ∧ objRail s.part l = .ok n ∧ Grants s p l .enable false ∧ restToks l = [] ∧ s.assigned n ≠ []) ∧
    (∃ (s : State) (p : PortId) (l : Line) (n : Nat), s.failed (railBp n) = false ∧ objRail s.part l = .ok n ∧ Grants s p l .enable false ∧ restToks l = [] ∧ s.assigned n = []) ∧
    (∃ (s : State) (p : PortId) (l : Line) (n : Nat), s.failed (railBp n) = false ∧ objRail s.part l = .ok n ∧ Grants s p l .disable false ∧ restToks l = []) ∧
    (∃ (s : State) (p : PortId) (l : Line) (n : Nat) (v : _) (more : _) (m : _), s.failed (railBp n) = false ∧ objRail s.part l = .ok n ∧ Grants s p l .margin false ∧ restToks l = v :: more ∧ cutEq v.toList = none ∧ parseArgs s.compat [("SLEW", kSlew 1 255)] more = .ok (argsOf (parseArgs s.compat [("SLEW", kSlew 1 255)] more)) ∧ bareValue s.compat (kPct 1 (-100) 100) v = .ok m ∧ (granted s).marginSet n m = some (stateOf ((granted s).marginSet n m))) ∧
    (∃ (s : State) (p : PortId) (l : Line) (n : Nat), s.failed (railBp n) = false ∧ objRail s.part l = .ok n ∧ Grants s p l .limit false ∧ restores l = false ∧ parseArgs s.compat limitKinds (restToks l) = .ok (argsOf (parseArgs s.compat limitKinds (restToks l))) ∧ ((granted s).limitStored n (argsOf (parseArgs s.compat limitKinds (restToks l)))).regOk (.RAIL_PROT n) = true) ∧
    (∃ (s : State) (p : PortId) (l : Line) (n : Nat), s.failed (railBp n) = false ∧ objRail s.part l = .ok n ∧ Grants s p l .limit false ∧ restToks l = ["RESTORE=ALL"] ∧ s.canRestore n = true) ∧
    (∃ (s : State) (p : PortId) (l : Line) (n : Nat), s.failed (railBp n) = false ∧ objRail s.part l = .ok n ∧ Grants s p l .depends false ∧ nonAbsent (restToks l) "ON" (absentRail s.part) = .ok () ∧ parseArgs s.compat dependsKinds (restToks l) = .ok (argsOf (parseArgs s.compat dependsKinds (restToks l))) ∧ ((argsOf (parseArgs s.compat dependsKinds (restToks l))).txt "ON").isSome = (((argsOf (parseArgs s.compat dependsKinds (restToks l))).txt "ON").bind railMask).isSome ∧ ((granted s).dependsStored n (argsOf (parseArgs s.compat dependsKinds (restToks l))) (((argsOf (parseArgs s.compat dependsKinds (restToks l))).txt "ON").bind railMask)).noCycle = true) ∧
    (∃ (s : State) (p : PortId) (l : Line) (n : Nat) (dv : _), s.failed (railBp n) = false ∧ objRail s.part l = .ok n ∧ Grants s p l .balance false ∧ parseArgs s.compat balanceKinds (restToks l) = .ok (argsOf (parseArgs s.compat balanceKinds (restToks l))) ∧ divCode ((argsOf (parseArgs s.compat balanceKinds (restToks l))).nat "DIV") = .ok dv ∧ ((granted s).balanceStored n (argsOf (parseArgs s.compat balanceKinds (restToks l))) dv).refOk = true ∧ ((granted s).balanceStored n (argsOf (parseArgs s.compat balanceKinds (restToks l))) dv).regOk (.RAIL_LIGHT n) = true ∧ (s.enabled n = true → (argsOf (parseArgs s.compat balanceKinds (restToks l))).has "DIV" = false ∧ (argsOf (parseArgs s.compat balanceKinds (restToks l))).has "ISGAIN" = false)) :=
  ⟨⟨(queued base { verb := .rail, toks := ["H2", "TARGET=1.2V", "SLEW=10MV/US"] }), .host, { verb := .rail, toks := ["H2", "TARGET=1.2V", "SLEW=10MV/US"] }, 1, by unfold Grants; decide +kernel⟩,
    ⟨(queued (sets base [((F.PH_CTRL_RAIL 2), 1), ((F.PH_CTRL_RAIL 3), 1)]) { verb := .enable, toks := ["H2"] }), .host, { verb := .enable, toks := ["H2"] }, 1, by unfold Grants; decide +kernel⟩,
    ⟨(queued (sets base [((F.PH_CTRL_RAIL 3), 7), ((F.PH_CTRL_RAIL 4), 7), ((F.PH_CTRL_RAIL 5), 7)]) { verb := .enable, toks := ["H2"] }), .host, { verb := .enable, toks := ["H2"] }, 1, by unfold Grants; decide +kernel⟩,
    ⟨(queued base { verb := .disable, toks := ["H2"] }), .host, { verb := .disable, toks := ["H2"] }, 1, by unfold Grants; decide +kernel⟩,
    ⟨(queued base { verb := .margin, toks := ["H2", "-5%"] }), .host, { verb := .margin, toks := ["H2", "-5%"] }, 1, "-5%", [], -50, by unfold Grants; decide +kernel⟩,
    ⟨(queued base { verb := .limit, toks := ["H2", "HICCUPN=255"] }), .host, { verb := .limit, toks := ["H2", "HICCUPN=255"] }, 1, by unfold Grants; decide +kernel⟩,
    ⟨(queued base { verb := .limit, toks := ["H2", "RESTORE=ALL"] }), .host, { verb := .limit, toks := ["H2", "RESTORE=ALL"] }, 1, by unfold Grants; decide +kernel⟩,
    ⟨(queued base { verb := .depends, toks := ["H2", "ON=C", "TRACK=ON"] }), .host, { verb := .depends, toks := ["H2", "ON=C", "TRACK=ON"] }, 1, by unfold Grants; decide +kernel⟩,
    ⟨(queued base { verb := .balance, toks := ["H2", "DIV=2", "RIPPLE=10MV"] }), .host, { verb := .balance, toks := ["H2", "DIV=2", "RIPPLE=10MV"] }, 1, some 1, by unfold Grants; decide +kernel⟩⟩

theorem witness_PhaseAndSyncCommands :
    (∃ (s : State) (p : PortId) (l : Line) (n : Nat), Grants s p l .phase false ∧ objPhase s.part l = .ok n ∧ nonAbsent (restToks l) "RAIL" (absentRail s.part) = .ok () ∧ parseArgs s.compat [("RAIL", .raw), ("TRIM", kPct 1 (-120) 120)] (restToks l) = .ok (argsOf (parseArgs s.compat [("RAIL", .raw), ("TRIM", kPct 1 (-120) 120)] (restToks l))) ∧ ((argsOf (parseArgs s.compat [("RAIL", .raw), ("TRIM", kPct 1 (-120) 120)] (restToks l))).txt "RAIL").isSome = (((argsOf (parseArgs s.compat [("RAIL", .raw), ("TRIM", kPct 1 (-120) 120)] (restToks l))).txt "RAIL").bind (fun x => if x = "NONE" then some 7 else readRail x)).isSome ∧ ((granted s).setArg (F.PH_CTRL_RAIL n) (((argsOf (parseArgs s.compat [("RAIL", .raw), ("TRIM", kPct 1 (-120) 120)] (restToks l))).txt "RAIL").bind (fun x => if x = "NONE" then some 7 else readRail x))).refOk = true ∧ s.failed (s.phBp n) = false ∧ ((granted s).setArg (F.PH_CTRL_RAIL n) (((argsOf (parseArgs s.compat [("RAIL", .raw), ("TRIM", kPct 1 (-120) 120)] (restToks l))).txt "RAIL").bind (fun x => if x = "NONE" then some 7 else readRail x))).regOk (.PH_CTRL n) = true ∧ (granted s).changeOk ((granted s).setArg (F.PH_CTRL_RAIL n) (((argsOf (parseArgs s.compat [("RAIL", .raw), ("TRIM", kPct 1 (-120) 120)] (restToks l))).txt "RAIL").bind (fun x => if x = "NONE" then some 7 else readRail x))) (.PH_CTRL n) = true ∧ ((argsOf (parseArgs s.compat [("RAIL", .raw), ("TRIM", kPct 1 (-120) 120)] (restToks l))).has "TRIM" = true → (((granted s).setArg (F.PH_CTRL_RAIL n) (((argsOf (parseArgs s.compat [("RAIL", .raw), ("TRIM", kPct 1 (-120) 120)] (restToks l))).txt "RAIL").bind (fun x => if x = "NONE" then some 7 else readRail x))).get (F.PH_CTRL_RAIL n)) < 6 ∧ ((granted s).setArg (F.PH_CTRL_RAIL n) (((argsOf (parseArgs s.compat [("RAIL", .raw), ("TRIM", kPct 1 (-120) 120)] (restToks l))).txt "RAIL").bind (fun x => if x = "NONE" then some 7 else readRail x))).get (F.RAIL_BAL_MODE (((granted s).setArg (F.PH_CTRL_RAIL n) (((argsOf (parseArgs s.compat [("RAIL", .raw), ("TRIM", kPct 1 (-120) 120)] (restToks l))).txt "RAIL").bind (fun x => if x = "NONE" then some 7 else readRail x))).get (F.PH_CTRL_RAIL n))) = 2) ∧ (∀ v, (argsOf (parseArgs s.compat [("RAIL", .raw), ("TRIM", kPct 1 (-120) 120)] (restToks l))).int "TRIM" = some v → v.natAbs ≤ ((granted s).setArg (F.PH_CTRL_RAIL n) (((argsOf (parseArgs s.compat [("RAIL", .raw), ("TRIM", kPct 1 (-120) 120)] (restToks l))).txt "RAIL").bind (fun x => if x = "NONE" then some 7 else readRail x))).get (F.RAIL_BAL_LIM (((granted s).setArg (F.PH_CTRL_RAIL n) (((argsOf (parseArgs s.compat [("RAIL", .raw), ("TRIM", kPct 1 (-120) 120)] (restToks l))).txt "RAIL").bind (fun x => if x = "NONE" then some 7 else readRail x))).get (F.PH_CTRL_RAIL n))))) ∧
    (∃ (s : State) (p : PortId) (l : Line), Grants s p l .sync false ∧ parseArgs s.compat syncKinds l.toks = .ok (argsOf (parseArgs s.compat syncKinds l.toks)) ∧ ((granted s).syncStored (argsOf (parseArgs s.compat syncKinds l.toks))).refOk = true ∧ s.failed 4 = false) ∧
    (∃ (s : State) (p : PortId) (l : Line) (n : Nat), Grants s p l .cal false ∧ calsPhase l = true ∧ objPhase s.part l = .ok n ∧ restToks l = [] ∧ s.failed (s.phBp n) = false ∧ 0 < s.claims) ∧
    (∃ (s : State) (p : PortId) (l : Line) (n : Nat), Grants s p l .cal false ∧ calsPhase l = true ∧ objPhase s.part l = .ok n ∧ restToks l = [] ∧ s.failed (s.phBp n) = false ∧ s.claims = 0) ∧
    (∃ (s : State) (m : Fin 16), s.dev = .run ∧ m < s.part.phases ∧ s.works (s.phBp m) = true ∧ s.flag (F.PH_CAL_CAL_PEND m) = false ∧ 0 < s.claims) ∧
    (∃ (s : State) (m : Fin 16), s.dev = .run ∧ m < s.part.phases ∧ s.works (s.phBp m) = true ∧ s.flag (F.PH_CAL_CAL_PEND m) = false ∧ s.claims = 0) ∧
    (∃ (s : State) (m : Fin 16), s.dev = .run ∧ m < s.part.phases ∧ s.works (s.phBp m) = true ∧ s.canRestore (s.get (F.PH_CTRL_RAIL m)) = true ∧ s.phFailed m = true) ∧
    (∃ (s : State) (m : Fin 16), s.canRestore (s.get (F.PH_CTRL_RAIL m)) = false) :=
  ⟨⟨(queued base { verb := .phase, toks := ["PH2", "RAIL=H2"] }), .host, { verb := .phase, toks := ["PH2", "RAIL=H2"] }, 2, by unfold Grants; decide +kernel⟩,
    ⟨(queued base { verb := .sync, toks := ["MODE=INTERNAL", "SHIFT=63"] }), .host, { verb := .sync, toks := ["MODE=INTERNAL", "SHIFT=63"] }, by unfold Grants; decide +kernel⟩,
    ⟨(queued (sets base [(F.GAUGE_RA_CLAIMS, 1)]) { verb := .cal, toks := ["PH2"] }), .host, { verb := .cal, toks := ["PH2"] }, 2, by unfold Grants; decide +kernel⟩,
    ⟨(queued base { verb := .cal, toks := ["PH2"] }), .host, { verb := .cal, toks := ["PH2"] }, 2, by unfold Grants; decide +kernel⟩,
    ⟨(sets base [(F.GAUGE_RA_CLAIMS, 1)]), 15, by decide +kernel⟩,
    ⟨base, 15, by decide +kernel⟩,
    ⟨(sets base [((F.PH_PROT_OPEN 15), 1)]), 15, by decide +kernel⟩,
    ⟨(((sets base [((F.PH_CTRL_RAIL 2), 1)])).setRs 1 rsOn), 2, by decide +kernel⟩⟩

theorem witness_RailRegisterWrites :
    (∃ (s : State) (r : Fin 6) (w : Word), s.dev = .run ∧ s.part.hasRail r = true ∧ s.works (railBp r) = true ∧ s.tryWord (.RAIL_TARGET r) w = some (stateOf (s.tryWord (.RAIL_TARGET r) w))) ∧
    (∃ (s : State) (r : Fin 6) (w : Word), s.dev = .run ∧ s.part.hasRail r = true ∧ s.works (railBp r) = true ∧ s.tryWord (.RAIL_TARGET r) w = none) :=
  ⟨⟨base, 5, 5600#32, by decide +kernel⟩,
    ⟨base, 0, 399#32, by decide +kernel⟩⟩

theorem witness_RegisterWrites :
    (∃ (a : Nat), regAt a = none) ∧
    (∃ (s : State) (a : Nat), s.failed (s.regBp a) = true) ∧
    (∃ (s : State) (a : Nat) (r : _), regAt a = some r ∧ r.absent s.part = true) ∧
    (∃ (s : State) (a : Nat) (w : Word) (r : _), s.dev = .run ∧ regAt a = some r ∧ r.absent s.part = false ∧ s.works (s.regBp a) = true ∧ bothRelay r w.toNat = false ∧ s.tryWord r w = none) ∧
    (∃ (s : State) (a : Nat) (w : Word) (t : _) (r : _) (k : _), s.dev = .run ∧ regAt a = some r ∧ r.absent s.part = false ∧ s.works (s.regBp a) = true ∧ (r = .HARV_KA ∨ r = .SIG_CTRL ∨ (∃ n, r = .TT_PG n) ∨ (∃ n, r = .RAIL_DELAY n) ∨ ∃ h, r = .HEAD_RANK h) ∧ s.tryWord r w = some t ∧ k < 32 ∧ bitAt r.rw k = true ∧ bitAt (r.ignored s.part) k = false) ∧
    (∃ (s : State), s.dev = .run ∧ s.failed 2 = false ∧ s.underTest 2 = false) ∧
    (∃ (s : State) (h : Fin 4), s.dev = .run ∧ h < s.part.heads ∧ s.works (headBp h) = true) :=
  ⟨⟨2, by decide +kernel⟩,
    ⟨(sets base [(F.BIST_SUM_FAILED, 4)]), 0x0604, by decide +kernel⟩,
    ⟨{ base with part := .uhk7340 }, Reg.addr (.RAIL_DELAY 1), .RAIL_DELAY 1, by decide +kernel⟩,
    ⟨base, Reg.addr (.RAIL_TARGET 0), 399#32, .RAIL_TARGET 0, by decide +kernel⟩,
    ⟨base, Reg.addr (.RAIL_DELAY 5), 0xFFFFFFFF#32, stateOf (base.tryWord (.RAIL_DELAY 5) 0xFFFFFFFF#32), .RAIL_DELAY 5, 0, by decide +kernel, by decide +kernel, by decide +kernel, by decide +kernel, .inr (.inr (.inr (.inl ⟨5, rfl⟩))), by decide +kernel⟩,
    ⟨(sets base [(F.TT_ADDR_ADDR, 511)]), by decide +kernel⟩,
    ⟨base, 3, by decide +kernel⟩⟩

theorem witness_HeadCommands :
    (∃ (s : State) (p : PortId) (l : Line) (n : Nat), objHead s.part l = .ok n ∧ s.failed (headBp n) = false ∧ Grants s p l .enc false ∧ parseArgs s.compat encKinds (restToks l) = .ok (argsOf (parseArgs s.compat encKinds (restToks l))) ∧ (s.lineEn n = true → (argsOf (parseArgs s.compat encKinds (restToks l))).has "CPL" = false ∧ (argsOf (parseArgs s.compat encKinds (restToks l))).has "DIR" = false)) ∧
    (∃ (s : State) (p : PortId) (l : Line) (n : Nat) (v : _), objHead s.part l = .ok n ∧ s.failed (headBp n) = false ∧ Grants s p l .reg false ∧ parseArgs s.compat [("OFFSET", .num (-32768) 32767)] (restToks l) = .ok (argsOf (parseArgs s.compat [("OFFSET", .num (-32768) 32767)] (restToks l))) ∧ (argsOf (parseArgs s.compat [("OFFSET", .num (-32768) 32767)] (restToks l))).int "OFFSET" = some v ∧ (s.lineEn n = true → (((granted s).sset (F.LINE_REG_REG n) v).sget (F.LINE_REG_REG n) - s.sget (F.LINE_REG_REG n)).natAbs ≤ 32)) ∧
    (∃ (s : State) (p : PortId) (l : Line) (n : Nat), objHead s.part l = .ok n ∧ s.failed (headBp n) = false ∧ Grants s p l .strobe false ∧ parseArgs s.compat strobeKinds (restToks l) = .ok (argsOf (parseArgs s.compat strobeKinds (restToks l))) ∧ ((granted s).strobeStored n (argsOf (parseArgs s.compat strobeKinds (restToks l)))).groupsOk n = true ∧ s.lineEn n = false) ∧
    (∃ (s : State) (p : PortId) (l : Line) (n : Nat), objHead s.part l = .ok n ∧ s.failed (headBp n) = false ∧ Grants s p l .dose false ∧ parseArgs s.compat doseKinds (restToks l) = .ok (argsOf (parseArgs s.compat doseKinds (restToks l))) ∧ ((argsOf (parseArgs s.compat doseKinds (restToks l))).txt "RANKS").isSome = (((argsOf (parseArgs s.compat doseKinds (restToks l))).txt "RANKS").bind rankMask).isSome ∧ ((granted s).doseStored n (argsOf (parseArgs s.compat doseKinds (restToks l))) (((argsOf (parseArgs s.compat doseKinds (restToks l))).txt "RANKS").bind rankMask)).regOk (.HEAD_TEMP n) = true ∧ ((argsOf (parseArgs s.compat doseKinds (restToks l))).has "RESUME" = true → s.flag (F.HEAD_STATUS_STOPPED n) = true)) ∧
    (∃ (s : State) (p : PortId) (l : Line) (n : Nat), objHead s.part l = .ok n ∧ s.failed (headBp n) = false ∧ Grants s p l .lightgate false ∧ lgStarts l = false ∧ lgAborts l = false ∧ parseArgs s.compat lgKinds (restToks l) = .ok (argsOf (parseArgs s.compat lgKinds (restToks l))) ∧ ((granted s).lgStored n (argsOf (parseArgs s.compat lgKinds (restToks l)))).regOk (.HEAD_LG n) = true) ∧
    (∃ (s : State) (p : PortId) (l : Line) (n : Nat) (parked : _), objHead s.part l = .ok n ∧ s.failed (headBp n) = false ∧ Grants s p l .lightgate false ∧ restToks l = ["START"] ∧ ((granted s).setPark n parked).lgRefusal n = none ∧ (s.head n).lg = none) ∧
    (∃ (s : State) (p : PortId) (l : Line) (n : Nat) (parked : _) (c : _) (nm : _) (d : _), objHead s.part l = .ok n ∧ s.failed (headBp n) = false ∧ Grants s p l .lightgate false ∧ restToks l = ["START"] ∧ ((granted s).setPark n parked).lgRefusal n = some (c, nm, d)) ∧
    (∃ (s : State) (p : PortId) (l : Line) (n : Nat), objHead s.part l = .ok n ∧ s.failed (headBp n) = false ∧ Grants s p l .lightgate false ∧ restToks l = ["ABORT"] ∧ (s.head n).lg.isSome = true) ∧
    (∃ (s : State) (p : PortId) (l : Line) (n : Nat), objHead s.part l = .ok n ∧ s.failed (headBp n) = false ∧ Grants s p l .cal false ∧ calsHead l = true ∧ restToks l = [] ∧ s.flag (F.HEAD_CAL_CAL_PEND n) = false ∧ 0 < s.claims) ∧
    (∃ (s : State) (p : PortId) (l : Line) (n : Nat), objHead s.part l = .ok n ∧ s.failed (headBp n) = false ∧ Grants s p l .cal false ∧ calsHead l = true ∧ restToks l = [] ∧ s.flag (F.HEAD_CAL_CAL_PEND n) = false ∧ s.claims = 0) :=
  ⟨⟨(queued (sets base [((F.LINE_CTRL_EN 2), 1)]) { verb := .enc, toks := ["HEAD3", "EN=ON", "BACKLASH=15"] }), .host, { verb := .enc, toks := ["HEAD3", "EN=ON", "BACKLASH=15"] }, 2, by unfold Grants; decide +kernel⟩,
    ⟨(queued (sets base [((F.LINE_CTRL_EN 2), 1)]) { verb := .reg, toks := ["HEAD3", "OFFSET=32"] }), .host, { verb := .reg, toks := ["HEAD3", "OFFSET=32"] }, 2, 32, by unfold Grants; decide +kernel⟩,
    ⟨(queued base { verb := .strobe, toks := ["HEAD3", "GROUPS=1"] }), .host, { verb := .strobe, toks := ["HEAD3", "GROUPS=1"] }, 2, by unfold Grants; decide +kernel⟩,
    ⟨(queued base { verb := .dose, toks := ["HEAD3", "GAIN=101%", "RANKS=0,1"] }), .host, { verb := .dose, toks := ["HEAD3", "GAIN=101%", "RANKS=0,1"] }, 2, by unfold Grants; decide +kernel⟩,
    ⟨(queued base { verb := .lightgate, toks := ["HEAD3", "DEADMAX=64"] }), .host, { verb := .lightgate, toks := ["HEAD3", "DEADMAX=64"] }, 2, by unfold Grants; decide +kernel⟩,
    ⟨(queued ((sets base [((F.LINE_LSTAT_STATE 2), 3)]).modHead 2 fun x => { x with attached := true, hpark := true }) { verb := .lightgate, toks := ["HEAD3", "START"] }), .host, { verb := .lightgate, toks := ["HEAD3", "START"] }, 2, true, by unfold Grants; decide +kernel⟩,
    ⟨(queued base { verb := .lightgate, toks := ["HEAD3", "START"] }), .host, { verb := .lightgate, toks := ["HEAD3", "START"] }, 2, true, 20, "STATE", "NOLINK", by unfold Grants; decide +kernel⟩,
    ⟨(queued ((sets base [((F.LINE_LSTAT_STATE 2), 3)]).modHead 2 fun x => { x with lg := some {} }) { verb := .lightgate, toks := ["HEAD3", "ABORT"] }), .host, { verb := .lightgate, toks := ["HEAD3", "ABORT"] }, 2, by unfold Grants; decide +kernel⟩,
    ⟨(queued (sets base [(F.GAUGE_RA_CLAIMS, 1)]) { verb := .cal, toks := ["HEAD3"] }), .host, { verb := .cal, toks := ["HEAD3"] }, 2, by unfold Grants; decide +kernel⟩,
    ⟨(queued base { verb := .cal, toks := ["HEAD3"] }), .host, { verb := .cal, toks := ["HEAD3"] }, 2, by unfold Grants; decide +kernel⟩⟩

theorem witness_LinkTraining :
    (∃ (s : State) (h : Fin 4), s.dev = .run ∧ s.headLive h = true ∧ s.aon.vlvOk = true ∧ s.link h = 0 ∧ s.flag (F.LINE_CTRL_AUTO_TRAIN h) = true) ∧
    (∃ (s : State) (h : Fin 4), s.dev = .run ∧ s.headLive h = true ∧ s.aon.vlvOk = true ∧ s.link h ≠ 0) ∧
    (∃ (s : State) (h : Fin 4), s.dev = .run ∧ s.headLive h = true ∧ (s.link h = 4 ∨ s.link h = 5)) ∧
    (∃ (s : State) (h : Fin 4), s.dev = .run ∧ s.headLive h = true ∧ s.link h = 1 ∧ (s.head h).step = .idle) ∧
    (∃ (s : State) (h : Fin 4) (chars : List Nat) (ident : _), s.dev = .run ∧ s.headLive h = true ∧ upFrame chars = some (.ident ident) ∧ s.link h = 1 ∧ (s.head h).step = .sets) ∧
    (∃ (s : State) (h : Fin 4) (chars : List Nat) (chip : _), s.dev = .run ∧ s.headLive h = true ∧ upFrame chars = some (.ack 0 chip) ∧ s.link h = 1 ∧ (s.head h).step = .probe ∧ (s.head h).attached = false) ∧
    (∃ (s : State) (h : Fin 4) (chars : List Nat) (chip : _), s.dev = .run ∧ s.headLive h = true ∧ upFrame chars = some (.ack 0 chip) ∧ s.link h = 1 ∧ (s.head h).step = .probe ∧ (s.head h).attached = true ∧ (s.head h).ident = (s.head h).lastIdent) ∧
    (∃ (s : State) (h : Fin 4) (chars : List Nat) (status : _) (chip : _), s.dev = .run ∧ s.headLive h = true ∧ upFrame chars = some (.ack status chip) ∧ status ≠ 0) ∧
    (∃ (s : State) (h : Fin 4) (chars : List Nat) (c : Instr), s.dev = .run ∧ s.headLive h = true ∧ upFrame chars = none ∧ (c = .identReceived h chars ∨ c = .probeAck h chars)) ∧
    (∃ (s : State) (h : Fin 4), s.dev = .run ∧ s.headLive h = true ∧ s.link h = 1 ∧ s.get (F.LINE_LSTAT_RETRIES h) + 1 < s.get (F.LINE_CTRL_RETRY_MAX h)) ∧
    (∃ (s : State) (h : Fin 4), s.dev = .run ∧ s.headLive h = true ∧ s.link h = 1 ∧ s.get (F.LINE_CTRL_RETRY_MAX h) ≤ s.get (F.LINE_LSTAT_RETRIES h) + 1 ∧ s.get (F.LINE_LSTAT_RETRIES h) < 15) ∧
    (∃ (s : State) (h : Fin 4) (d : _), s.dev = .run ∧ s.headLive h = true ∧ (s.head h).retryAt = some d ∧ s.link h = 4 ∧ s.flag (F.LINE_CTRL_AUTO_TRAIN h) = true) ∧
    (∃ (s : State) (h : Fin 4), s.dev = .run ∧ s.headLive h = true ∧ s.flag (F.LINE_CTRL_AUTO_TRAIN h) = false) ∧
    (∃ (s : State) (h : Fin 4) (d : _), s.dev = .run ∧ s.headLive h = true ∧ (s.head h).upAt = some d ∧ s.link h = 3) ∧
    (∃ (s : State) (h : Fin 4), s.dev = .run ∧ s.headLive h = true ∧ (s.link h = 0 ∨ s.link h = 4 ∨ s.link h = 5)) ∧
    (∃ (s : State) (h : Fin 4), s.dev = .run ∧ s.headLive h = true ∧ (s.link h = 1 ∨ s.link h = 2 ∨ s.link h = 3)) ∧
    (∃ (s : State) (h : Fin 4) (id : List Byte), s.dev = .run ∧ s.headLive h = true ∧ id.length = 16) ∧
    (∃ (s : State) (h : Fin 4) (status : Nat) (chip : Nat), s.dev = .run ∧ s.headLive h = true ∧ status < 16 ∧ chip < 256) :=
  ⟨⟨(sets base [((F.LINE_LSTAT_STATE 2), 0), ((F.LINE_CTRL_AUTO_TRAIN 2), 1)]), 2, by decide +kernel⟩,
    ⟨(sets base [((F.LINE_LSTAT_STATE 2), 3)]), 2, by decide +kernel⟩,
    ⟨(sets base [((F.LINE_LSTAT_STATE 2), 5)]), 2, by decide +kernel⟩,
    ⟨(sets base [((F.LINE_LSTAT_STATE 2), 1)]), 2, by decide +kernel⟩,
    ⟨((sets base [(F.LINE_LSTAT_STATE 2, 1)]).modHead 2 fun x => { x with step := .sets }), 2, UpFrame.chars false (.ident (List.replicate 16 0#8)), List.replicate 16 0#8, by decide +kernel⟩,
    ⟨((sets base [(F.LINE_LSTAT_STATE 2, 1)]).modHead 2 fun x => { x with step := .probe }), 2, UpFrame.chars false (.ack 0 7), 7, by decide +kernel⟩,
    ⟨((sets base [(F.LINE_LSTAT_STATE 2, 1)]).modHead 2 fun x => { x with step := .probe, attached := true }), 2, UpFrame.chars false (.ack 0 7), 7, by decide +kernel⟩,
    ⟨(sets base [(F.LINE_LSTAT_STATE 2, 1)]), 2, UpFrame.chars false (.ack 1 7), 1, 7, by decide +kernel⟩,
    ⟨base, 2, [], .probeAck 2 [], by decide +kernel⟩,
    ⟨(sets base [((F.LINE_LSTAT_STATE 2), 1), ((F.LINE_LSTAT_RETRIES 2), 1), ((F.LINE_CTRL_RETRY_MAX 2), 3)]), 2, by decide +kernel⟩,
    ⟨(sets base [((F.LINE_LSTAT_STATE 2), 1), ((F.LINE_LSTAT_RETRIES 2), 2), ((F.LINE_CTRL_RETRY_MAX 2), 3)]), 2, by decide +kernel⟩,
    ⟨((sets base [(F.LINE_LSTAT_STATE 2, 4), (F.LINE_CTRL_AUTO_TRAIN 2, 1)]).modHead 2 fun x => { x with retryAt := some 8 }), 2, 8, by decide +kernel⟩,
    ⟨(sets base [(F.LINE_CTRL_AUTO_TRAIN 2, 0)]), 2, by decide +kernel⟩,
    ⟨((sets base [((F.LINE_LSTAT_STATE 2), 3)]).modHead 2 fun x => { x with upAt := some 8 }), 2, 8, by decide +kernel⟩,
    ⟨(sets base [((F.LINE_LSTAT_STATE 2), 4)]), 2, by decide +kernel⟩,
    ⟨(sets base [((F.LINE_LSTAT_STATE 2), 1)]), 2, by decide +kernel⟩,
    ⟨base, 2, List.replicate 16 0#8, by decide +kernel⟩,
    ⟨base, 2, 1, 7, by decide +kernel⟩⟩

theorem witness_HeadAttach :
    (∃ (s : State) (h : Fin 4) (chars : List Nat) (b : _) (k : _) (data : List Byte), s.dev = .run ∧ s.headLive h = true ∧ upFrame chars = some (.memblock b data) ∧ s.link h = 2 ∧ (s.head h).step = .memory b k ∧ b ≠ 255) ∧
    (∃ (s : State) (h : Fin 4) (chars : List Nat) (b : _) (k : _), s.dev = .run ∧ s.headLive h = true ∧ upFrame chars = none ∧ s.link h = 2 ∧ (s.head h).step = .memory b k ∧ k < 3) ∧
    (∃ (s : State) (h : Fin 4) (chars : List Nat) (k : _) (data : List Byte), s.dev = .run ∧ s.headLive h = true ∧ upFrame chars = some (.memblock 255 data) ∧ s.link h = 2 ∧ (s.head h).step = .memory 255 k) ∧
    (∃ (s : State) (h : Fin 4) (b : _) (k : _), s.dev = .run ∧ s.headLive h = true ∧ s.link h = 2 ∧ (s.head h).step = .memory b k ∧ 3 ≤ k) ∧
    (∃ (s : State) (h : Fin 4) (chars : List Nat) (c : _) (k : _), s.dev = .run ∧ s.headLive h = true ∧ upFrame chars = some (.ack 0 c) ∧ s.link h = 2 ∧ (s.head h).step = .trims c k ∧ c + 1 < 248) ∧
    (∃ (s : State) (h : Fin 4) (chars : List Nat) (k : _), s.dev = .run ∧ s.headLive h = true ∧ upFrame chars = some (.ack 0 247) ∧ s.link h = 2 ∧ (s.head h).step = .trims 247 k) ∧
    (∃ (s : State) (h : Fin 4) (c : _) (k : _), s.dev = .run ∧ s.headLive h = true ∧ s.link h = 2 ∧ (s.head h).step = .trims c k ∧ k < 3) ∧
    (∃ (s : State) (h : Fin 4) (c : _) (k : _), s.dev = .run ∧ s.headLive h = true ∧ s.link h = 2 ∧ (s.head h).step = .trims c k ∧ 3 ≤ k) ∧
    (∃ (s : State) (h : Fin 4) (m : _), s.dev = .run ∧ s.headLive h = true ∧ s.attachRefusal h m = none) ∧
    (∃ (s : State) (h : Fin 4) (chars : List Nat) (r : _) (d : Side), s.dev = .run ∧ s.headLive h = true ∧ upFrame chars = some (.side d) ∧ s.link h = 3 ∧ (s.head h).side = some r ∧ r.out = true ∧ r.write = false ∧ r.why = .scrub ∧ d.op = 1 ∧ d.chip = r.chip ∧ d.idx = r.idx ∧ (s.head h).reread = [] ∧ d.data = s.fourTrims h r.chip r.idx) ∧
    (∃ (s : State) (h : Fin 4) (chars : List Nat) (r : _) (d : Side), s.dev = .run ∧ s.headLive h = true ∧ upFrame chars = some (.side d) ∧ s.link h = 3 ∧ (s.head h).side = some r ∧ r.out = true ∧ r.write = false ∧ r.why = .scrub ∧ d.op = 1 ∧ d.chip = r.chip ∧ d.idx = r.idx ∧ (s.head h).trimQ = [] ∧ d.data ≠ s.fourTrims h r.chip r.idx) ∧
    (∃ (s : State) (h : Fin 4) (b : Nat) (data : List Byte), s.dev = .run ∧ s.headLive h = true ∧ b < 256 ∧ data.length = 128) ∧
    (∃ (s : State) (h : Fin 4) (op : Nat) (chip : Nat) (idx : Nat) (a : Nat) (b : Nat) (c : Nat) (d : Nat), s.dev = .run ∧ s.headLive h = true ∧ op < 8 ∧ chip < 256 ∧ idx < 32 ∧ a < 64 ∧ b < 64 ∧ c < 64 ∧ d < 64) :=
  ⟨⟨((sets base [(F.LINE_LSTAT_STATE 2, 2)]).modHead 2 fun x => { x with step := .memory 254 2 }), 2, UpFrame.chars false (.memblock 254 (List.replicate 128 0#8)), 254, 2, List.replicate 128 0#8, by decide +kernel⟩,
    ⟨((sets base [(F.LINE_LSTAT_STATE 2, 2)]).modHead 2 fun x => { x with step := .memory 254 2 }), 2, [], 254, 2, by decide +kernel⟩,
    ⟨((sets base [(F.LINE_LSTAT_STATE 2, 2)]).modHead 2 fun x => { x with step := .memory 255 2 }), 2, UpFrame.chars false (.memblock 255 (List.replicate 128 0#8)), 2, List.replicate 128 0#8, by decide +kernel⟩,
    ⟨((sets base [(F.LINE_LSTAT_STATE 2, 2)]).modHead 2 fun x => { x with step := .memory 254 3 }), 2, 254, 3, by decide +kernel⟩,
    ⟨((sets base [(F.LINE_LSTAT_STATE 2, 2)]).modHead 2 fun x => { x with step := .trims 246 2 }), 2, UpFrame.chars false (.ack 0 246), 246, 2, by decide +kernel⟩,
    ⟨((sets base [(F.LINE_LSTAT_STATE 2, 2)]).modHead 2 fun x => { x with step := .trims 247 3 }), 2, UpFrame.chars false (.ack 0 247), 3, by decide +kernel⟩,
    ⟨((sets base [((F.LINE_LSTAT_STATE 2), 2)]).modHead 2 fun x => { x with step := .trims 246 2 }), 2, 246, 2, by decide +kernel⟩,
    ⟨((sets base [((F.LINE_LSTAT_STATE 2), 2)]).modHead 2 fun x => { x with step := .trims 246 3 }), 2, 246, 3, by decide +kernel⟩,
    ⟨base, 2, goodMem (crc16 (Tab.getList (fun _ => 0#8) goodMem0 128 32512)), by decide +kernel, by decide +kernel, by exact goodMem_accepted _ rfl⟩,
    ⟨((sets base [(F.LINE_LSTAT_STATE 2, 3)]).modHead 2 fun x => { x with side := some ⟨false, 3, 4, [0, 0, 0, 0], .scrub, false, true⟩ }), 2, UpFrame.chars false (.side { op := 1, chip := 3, idx := 4 }), ⟨false, 3, 4, [0, 0, 0, 0], .scrub, false, true⟩, { op := 1, chip := 3, idx := 4 }, by decide +kernel⟩,
    ⟨((sets base [(F.LINE_LSTAT_STATE 2, 3)]).modHead 2 fun x => { x with side := some ⟨false, 3, 4, [0, 0, 0, 0], .scrub, false, true⟩ }), 2, UpFrame.chars false (.side { op := 1, chip := 3, idx := 4, data := [0, 0, 0, 63] }), ⟨false, 3, 4, [0, 0, 0, 0], .scrub, false, true⟩, { op := 1, chip := 3, idx := 4, data := [0, 0, 0, 63] }, by decide +kernel⟩,
    ⟨base, 2, 254, List.replicate 128 0#8, by decide +kernel⟩,
    ⟨base, 2, 1, 3, 4, 0, 1, 2, 63, by decide +kernel⟩⟩

theorem witness_EncoderAndPulses :
    (∃ (s : State) (h : Fin 4) (mv : EncMove), s.dev = .run ∧ s.headLive h = true ∧ s.aon.vioOk = true ∧ -1000000000 < s.sget (F.LINE_POS_POS h) ∧ s.sget (F.LINE_POS_POS h) < 1000000000 ∧ (mv = .forward ∨ mv = .backward)) ∧
    (∃ (s : State) (h : Fin 4) (x : _), s.dev = .run ∧ s.headLive h = true ∧ (s.head h).fixed.find? (fun y => y.group == 0) = some x ∧ s.flag (F.HEAD_STATUS_STOPPED h) = false ∧ s.link h = 3 ∧ (s.head h).lastGo = none ∧ (∀ c, (s.head h).committed = some c → c.1 ≠ x.line ∨ x.t < c.2 + 4000)) ∧
    (∃ (s : State) (h : Fin 4) (x : _) (u : _), s.dev = .run ∧ s.headLive h = true ∧ (s.head h).fixed.find? (fun y => y.group == 0) = some x ∧ s.flag (F.HEAD_STATUS_STOPPED h) = false ∧ s.link h = 3 ∧ (s.head h).lastGo = none ∧ (s.head h).committed = some (x.line, u) ∧ u + 4000 ≤ x.t) ∧
    (∃ (s : State) (h : Fin 4) (x : _) (u : _) (g : _), s.dev = .run ∧ s.headLive h = true ∧ (s.head h).fixed.find? (fun y => y.group == 0) = some x ∧ s.flag (F.HEAD_STATUS_STOPPED h) = false ∧ s.link h = 3 ∧ (s.head h).lastGo = some g ∧ 8 * ((max x.t (g + 120400)) - x.t) ≤ (s.lPred h).getD 0 ∧ (s.head h).committed = some (x.line, u) ∧ u + 4000 ≤ (max x.t (g + 120400)) ∧ (s.head h).accepted.contains (x.line % 65536) = true) ∧
    (∃ (s : State) (h : Fin 4) (x : _) (g : _), s.dev = .run ∧ s.headLive h = true ∧ (s.head h).fixed.find? (fun y => y.group == 0) = some x ∧ s.flag (F.HEAD_STATUS_STOPPED h) = false ∧ s.link h = 3 ∧ (s.head h).lastGo = some g ∧ (s.lPred h).getD 0 < 8 * (g + 120400 - x.t)) ∧
    (∃ (s : State) (h : Fin 4) (x : _), s.dev = .run ∧ s.headLive h = true ∧ (s.head h).fixed.find? (fun y => y.group == 0) = some x ∧ s.flag (F.HEAD_STATUS_STOPPED h) = true ∧ s.flag (F.HEAD_CTRL_INHIBIT h) = true ∧ s.link h = 3) ∧
    (∃ (s : State) (h : Fin 4) (k : _) (d : _) (x : _) (rest : _), s.dev = .run ∧ s.headLive h = true ∧ (s.head h).cur = some (k, d) ∧ (s.head h).fixed = x :: rest ∧ x.line = k ∧ s.link h = 3) ∧
    (∃ (s : State) (h : Fin 4), s.dev = .run ∧ s.headLive h = true ∧ (s.head h).cur = none) ∧
    (∃ (s : State) (h : Fin 4) (k : _) (d : _), s.dev = .run ∧ s.headLive h = true ∧ (s.head h).cur = some (k, d) ∧ (∀ y ∈ (s.head h).fixed, y.line ≠ k) ∧ (s.head h).next.1 ≠ k) :=
  ⟨⟨base, 3, .forward, by decide +kernel⟩,
    ⟨((sets base [(F.LINE_LSTAT_STATE 2, 3), (F.LINE_CTRL_EN 2, 1)]).modHead 2 fun x => { x with fixed := [⟨9, 0, 70⟩] }), 2, ⟨9, 0, 70⟩, by decide +kernel, by decide +kernel, by decide +kernel, by decide +kernel, by decide +kernel, by decide +kernel, fun c hc => nomatch (show (none : Option (Nat × Nat)) = some c from hc)⟩,
    ⟨((sets base [(F.LINE_LSTAT_STATE 2, 3), (F.LINE_CTRL_EN 2, 1)]).modHead 2 fun x => { x with fixed := [⟨9, 0, 4070⟩], committed := some (9, 70) }), 2, ⟨9, 0, 4070⟩, 70, by decide +kernel⟩,
    ⟨((sets base [(F.LINE_LSTAT_STATE 2, 3), (F.LINE_CTRL_EN 2, 1)]).modHead 2 fun x => { x with fixed := [⟨9, 0, 130000⟩], committed := some (9, 70), lastGo := some 100, accepted := [9] }), 2, ⟨9, 0, 130000⟩, 70, 100, by decide +kernel⟩,
    ⟨((sets base [(F.LINE_LSTAT_STATE 2, 3), (F.LINE_CTRL_EN 2, 1)]).modHead 2 fun x => { x with fixed := [⟨9, 0, 70⟩], lastGo := some 100 }), 2, ⟨9, 0, 70⟩, 100, by decide +kernel⟩,
    ⟨((sets base [((F.LINE_LSTAT_STATE 2), 3), ((F.LINE_CTRL_EN 2), 1), ((F.HEAD_STATUS_STOPPED 2), 1), ((F.HEAD_CTRL_INHIBIT 2), 1)]).modHead 2 fun x => { x with fixed := [⟨9, 0, 70⟩] }), 2, ⟨9, 0, 70⟩, by decide +kernel⟩,
    ⟨((sets base [((F.LINE_LSTAT_STATE 2), 3)]).modHead 2 fun x => { x with cur := some (9, 0), fixed := [⟨9, 1, 70⟩] }), 2, 9, 0, ⟨9, 1, 70⟩, [], by decide +kernel⟩,
    ⟨base, 2, by decide +kernel⟩,
    ⟨((sets base [(F.LINE_LSTAT_STATE 2, 3)]).modHead 2 fun x => { x with cur := some (9, 0), next := (10, 0) }), 2, 9, 0, by decide +kernel⟩⟩

theorem witness_ReportsAndFrames :
    (∃ (s : State) (h : Fin 4) (chars : List Nat), s.dev = .run ∧ s.headLive h = true ∧ s.link h = 3 ∧ upFrame chars = none) ∧
    (∃ (s : State) (h : Fin 4) (chars : List Nat) (rep : Report), s.dev = .run ∧ s.headLive h = true ∧ s.link h = 3 ∧ upFrame chars = some (.report rep) ∧ s.lgRunning h = false ∧ (s.head h).expected = none) ∧
    (∃ (s : State) (h : Fin 4) (τ : Nat) (chars : List Nat) (rep : Report) (n : _), s.dev = .run ∧ s.headLive h = true ∧ s.link h = 3 ∧ upFrame chars = some (.report rep) ∧ s.lgRunning h = false ∧ (s.head h).expected = some n ∧ s.lineEn h = true ∧ s.reportOk h n rep τ = true ∧ rep.frameBad = false ∧ rep.echoMismatch = false) ∧
    (∃ (s : State) (h : Fin 4), s.dev = .run ∧ s.headLive h = true ∧ s.link h = 3 ∧ s.lineEn h = true ∧ (s.head h).ready ((s.head h).dueLine) = false) ∧
    (∃ (s : State) (h : Fin 4), s.dev = .run ∧ s.headLive h = true ∧ s.link h = 3 ∧ s.lineEn h = true ∧ (s.head h).frame = none ∧ (s.head h).sent ≠ some ((s.head h).nextLine % 65536) ∧ (s.head h).sent ≠ some (((s.head h).nextLine + 65535) % 65536)) ∧
    (∃ (s : State) (h : Fin 4) (τ : Nat) (w : _), s.dev = .run ∧ s.headLive h = true ∧ s.link h = 3 ∧ s.lineEn h = true ∧ (s.head h).frame = none ∧ (s.head h).sent = some (((s.head h).nextLine + 65535) % 65536) ∧ (s.head h).widths = some w ∧ w.line = (s.head h).nextLine ∧ (s.head h).tooLate w.line τ = false) ∧
    (∃ (s : State) (h : Fin 4), s.dev = .run ∧ s.headLive h = true ∧ s.link h = 3 ∧ (s.head h).sent = some ((s.head h).nextLine % 65536)) ∧
    (∃ (s : State) (h : Fin 4) (k : _) (number : _), s.dev = .run ∧ s.headLive h = true ∧ s.link h = 3 ∧ (s.head h).frame = some (k, number)) ∧
    (∃ (s : State) (h : Fin 4) (lim : Nat), s.dev = .run ∧ s.headLive h = true ∧ s.link h = 3 ∧ s.get (F.HEAD_CTRL_W_MIN h) ≤ lim) ∧
    (∃ (s : State) (h : Fin 4) (rep : Report), s.dev = .run ∧ s.headLive h = true ∧ s.link h = 3 ∧ rep.line < 65536 ∧ rep.lits.length = 4 ∧ (∀ n ∈ rep.lits, n < 32768) ∧ rep.tseg.length = 8 ∧ (∀ n ∈ rep.tseg, n < 1024) ∧ rep.vhead < 4096 ∧ rep.side.op < 8 ∧ rep.side.chip < 256 ∧ rep.side.idx < 32 ∧ rep.side.data.length = 4 ∧ (∀ n ∈ rep.side.data, n < 64)) :=
  ⟨⟨(sets base [(F.LINE_LSTAT_STATE 2, 3)]), 2, [], by decide +kernel⟩,
    ⟨(sets base [(F.LINE_LSTAT_STATE 2, 3)]), 2, UpFrame.chars false (.report report10), report10, by decide +kernel⟩,
    ⟨((sets base [(F.LINE_LSTAT_STATE 2, 3), (F.LINE_CTRL_EN 2, 1)]).modHead 2 fun x => { x with sent := some 9, next := (10, 0) }), 2, 7, UpFrame.chars false (.report report10), report10, 10, by decide +kernel⟩,
    ⟨((sets base [(F.LINE_LSTAT_STATE 2, 3), (F.LINE_CTRL_EN 2, 1)]).modHead 2 fun x => { x with sent := some 9, next := (10, 0) }), 2, by decide +kernel⟩,
    ⟨((sets base [(F.LINE_LSTAT_STATE 2, 3), (F.LINE_CTRL_EN 2, 1)]).modHead 2 fun x => { x with sent := none, next := (10, 0) }), 2, by decide +kernel⟩,
    ⟨((sets base [(F.LINE_LSTAT_STATE 2, 3), (F.LINE_CTRL_EN 2, 1)]).modHead 2 fun x => { x with sent := some 9, next := (10, 0), widths := some { line := 10, w := [5], fb := false, echo := none, tfac := [], vfac := [], frozenT := 0, frozenV := false } }), 2, 7, { line := 10, w := [5], fb := false, echo := none, tfac := [], vfac := [], frozenT := 0, frozenV := false }, by decide +kernel⟩,
    ⟨((sets base [(F.LINE_LSTAT_STATE 2, 3), (F.LINE_CTRL_EN 2, 1)]).modHead 2 fun x => { x with sent := some 10, next := (10, 0) }), 2, by decide +kernel⟩,
    ⟨((sets base [((F.LINE_LSTAT_STATE 2), 3), ((F.LINE_CTRL_EN 2), 1)]).modHead 2 fun x => { x with frame := some (10, true) }), 2, 10, true, by decide +kernel⟩,
    ⟨(sets base [(F.LINE_LSTAT_STATE 2, 3)]), 2, 4095, by decide +kernel⟩,
    ⟨(sets base [(F.LINE_LSTAT_STATE 2, 3)]), 2, report10, by decide +kernel⟩⟩

theorem witness_HeadUpkeep :
    (∃ (s : State) (h : Fin 4) (k : _), s.dev = .run ∧ s.headLive h = true ∧ s.lineWaits = false ∧ (s.head h).attached = true ∧ s.lgRunning h = false ∧ k < 3967 ∧ (s.head h).bad.contains k = false) ∧
    (∃ (s : State) (h : Fin 4) (d : _), s.dev = .run ∧ s.headLive h = true ∧ s.lineWaits = false ∧ (s.head h).attached = true ∧ s.lgRunning h = false ∧ (s.job 1 h).since = some d ∧ (s.job 1 h).paused = none) ∧
    (∃ (s : State) (h : Fin 4), s.dev = .run ∧ s.headLive h = true ∧ s.lineWaits = false ∧ s.link h = 3 ∧ (s.head h).cur = none ∧ s.lgRunning h = false ∧ (s.head h).side = none ∧ (s.head h).verify = none ∧ (s.head h).bad = [] ∧ (s.head h).scrubAt < 7935) ∧
    (∃ (s : State) (h : Fin 4) (v : Nat), s.dev = .run ∧ s.headLive h = true ∧ s.lineWaits = false ∧ s.link h = 3 ∧ (s.head h).cur = none ∧ -50 ≤ (s.sget (F.HEAD_VOFS_VOFS h) + roundDiv ((v : Int) * 20000 - s.vRefU h - s.sget (F.HEAD_VOFS_VOFS h) * 20000) 80000) ∧ (s.sget (F.HEAD_VOFS_VOFS h) + roundDiv ((v : Int) * 20000 - s.vRefU h - s.sget (F.HEAD_VOFS_VOFS h) * 20000) 80000) ≤ 50) ∧
    (∃ (s : State) (h : Fin 4), s.dev = .run ∧ s.headLive h = true ∧ s.flag (F.HEAD_CAL_CAL_PEND h) = false ∧ 0 < s.claims) ∧
    (∃ (s : State) (h : Fin 4), s.dev = .run ∧ s.headLive h = true ∧ s.flag (F.HEAD_CAL_CAL_PEND h) = false ∧ s.claims = 0) ∧
    (∃ (s : State) (h : Fin 4), s.dev = .run ∧ s.headLive h = true ∧ s.flag (F.HEAD_STATUS_STOPPED h) = true) ∧
    (∃ (s : State) (h : Fin 4), s.dev = .run ∧ s.headLive h = true ∧ s.flag (F.HEAD_STATUS_STOPPED h) = false) ∧
    (∃ (s : State) (h : Fin 4), s.dev = .run ∧ s.headLive h = true ∧ s.lineWaits = true ∧ s.core.passRun < 7) :=
  ⟨⟨(base.modHead 2 fun x => { x with attached := true }), 2, 3966, by decide +kernel⟩,
    ⟨({ base with core := { base.core with jobs := [(34, { since := some 5 })] } }.modHead 2 fun x => { x with attached := true }), 2, 5, by decide +kernel⟩,
    ⟨((sets base [(F.LINE_LSTAT_STATE 2, 3)]).modHead 2 fun x => { x with scrubAt := 7934 }), 2, by decide +kernel⟩,
    ⟨(sets base [(F.LINE_LSTAT_STATE 2, 3)]), 2, 0, by decide +kernel⟩,
    ⟨(sets base [(F.GAUGE_RA_CLAIMS, 1)]), 2, by decide +kernel⟩,
    ⟨base, 2, by decide +kernel⟩,
    ⟨(sets base [((F.HEAD_STATUS_STOPPED 2), 1)]), 2, by decide +kernel⟩,
    ⟨base, 2, by decide +kernel⟩,
    ⟨(queued base { verb := .caps, query := true }), 2, by decide +kernel⟩⟩

theorem witness_LightGate :
    (∃ (s : State) (h : Fin 4), s.dev = .run ∧ s.headLive h = true ∧ (s.head h).lg = none ∧ (s.setPark h true).lgRefusal h = none) ∧
    (∃ (s : State) (h : Fin 4), s.dev = .run ∧ s.headLive h = true ∧ s.lgRunning h = true) ∧
    (∃ (s : State) (h : Fin 4), s.dev = .run ∧ s.headLive h = true ∧ s.lgRunning h = false) ∧
    (∃ (s : State) (h : Fin 4) (parked : Bool) (x : _), s.dev = .run ∧ s.headLive h = true ∧ (s.head h).lg = some x ∧ x.running = false ∧ s.claims = 0 ∧ (s.setPark h parked).lgRefusal h = none) ∧
    (∃ (s : State) (h : Fin 4) (x : _), s.dev = .run ∧ s.headLive h = true ∧ (s.head h).lg = some x ∧ 0 < s.claims) ∧
    (∃ (s : State) (h : Fin 4) (chars : List Nat) (rep : Report) (x : _), s.dev = .run ∧ s.headLive h = true ∧ (s.head h).lg = some x ∧ x.running = true ∧ x.j < emitters ∧ x.resps.length < 127 ∧ upFrame chars = some (.report rep) ∧ rep.line = x.j % 65536 ∧ rep.lits.headD 0 = 1 ∧ (∀ c ∈ rep.tseg, c = 1023)) ∧
    (∃ (s : State) (h : Fin 4) (chars : List Nat) (x : _), s.dev = .run ∧ s.headLive h = true ∧ (s.head h).lg = some x ∧ x.running = true ∧ x.j < emitters ∧ x.again = false ∧ upFrame chars = none) ∧
    (∃ (s : State) (h : Fin 4) (x : _), s.dev = .run ∧ s.headLive h = true ∧ (s.head h).lg = some x ∧ x.running = true ∧ x.j < emitters ∧ x.again = true) ∧
    (∃ (s : State) (h : Fin 4) (x : _), s.dev = .run ∧ s.headLive h = true ∧ (s.head h).lg = some x ∧ x.running = true ∧ emitters ≤ x.j) :=
  ⟨⟨((sets base [((F.LINE_LSTAT_STATE 2), 3)]).modHead 2 fun x => { x with attached := true }), 2, by decide +kernel⟩,
    ⟨((sets base [((F.LINE_LSTAT_STATE 2), 3)]).modHead 2 fun x => { x with attached := true, hpark := true, lg := some { running := true } }), 2, by decide +kernel⟩,
    ⟨((sets base [((F.LINE_LSTAT_STATE 2), 3)]).modHead 2 fun x => { x with attached := true, hpark := true, lg := some {} }), 2, by decide +kernel⟩,
    ⟨((sets base [((F.LINE_LSTAT_STATE 2), 3)]).modHead 2 fun x => { x with attached := true, hpark := true, lg := some {} }), 2, true, {}, by decide +kernel⟩,
    ⟨(sets ((sets base [((F.LINE_LSTAT_STATE 2), 3)]).modHead 2 fun x => { x with attached := true, hpark := true, lg := some {} }) [(F.GAUGE_RA_CLAIMS, 1)]), 2, {}, by decide +kernel⟩,
    ⟨((sets base [(F.LINE_LSTAT_STATE 2, 3)]).modHead 2 fun x => { x with attached := true, hpark := true, lg := some { running := true, j := 31743, resps := [5] } }), 2, UpFrame.chars false (.report { line := 31743, lits := [1, 0, 0, 0], tseg := List.replicate 8 1023, vhead := 0 }), { line := 31743, lits := [1, 0, 0, 0], tseg := List.replicate 8 1023, vhead := 0 }, { running := true, j := 31743, resps := [5] }, by decide +kernel⟩,
    ⟨((sets base [(F.LINE_LSTAT_STATE 2, 3)]).modHead 2 fun x => { x with attached := true, hpark := true, lg := some { running := true, j := 31743, resps := [5] } }), 2, [], { running := true, j := 31743, resps := [5] }, by decide +kernel⟩,
    ⟨((sets base [((F.LINE_LSTAT_STATE 2), 3)]).modHead 2 fun x => { x with attached := true, hpark := true, lg := some { running := true, j := 31743, again := true } }), 2, { running := true, j := 31743, again := true }, by decide +kernel⟩,
    ⟨((sets base [((F.LINE_LSTAT_STATE 2), 3)]).modHead 2 fun x => { x with attached := true, hpark := true, lg := some { running := true, j := 31744 } }), 2, { running := true, j := 31744 }, by decide +kernel⟩⟩

theorem witness_GrantsAndLines :
    (∃ (s : State), s.flt.causes = []) ∧
    (∃ (s : State) (c : _), s.nextCause = some c ∧ c.src < 64 ∧ c.no < 32) ∧
    (∃ (s : State) (e : Fin 64), s.dev = .run ∧ sourceAbsent s.part e = false ∧ s.latched e = true ∧ s.srcPresent e = false) ∧
    (∃ (s : State) (e : Fin 64), s.dev = .run ∧ sourceAbsent s.part e = false ∧ s.latched e = true ∧ s.srcPresent e = true) ∧
    (∃ (s : State), s.dev = .run ∧ s.get F.FLT_CTRL_MODE = 1 ∧ s.flt.fltMin = false) ∧
    (∃ (s : State), s.dev = .run ∧ s.get F.FLT_CTRL_MODE = 1 ∧ s.flt.fltMin = true) ∧
    (∃ (s : State), s.get F.FLT_CTRL_MODE ≠ 1) ∧
    (∃ (s : State), s.dev = .run ∧ s.sigPull = false) ∧
    (∃ (s : State), (s.dev ≠ .run ∨ s.sigPull = true)) ∧
    (∃ (s : State) (d : _), s.dev = .run ∧ s.flt.stuckAt = some d) ∧
    (∃ (s : State), s.dev = .run ∧ s.flt.sigFallen = true) :=
  ⟨⟨base, by decide +kernel⟩,
    ⟨{ base with flt := { base.flt with causes := [{ src := 63, no := 1, key := 0, cls := .caution, text := "X" }] } }, { src := 63, no := 1, key := 0, cls := .caution, text := "X" }, by decide +kernel⟩,
    ⟨(base.setLatched 63 true), 63, by decide +kernel⟩,
    ⟨({ base with flt := { base.flt with present := [(45, 1, 0)] } }.setLatched 45 true), 45, by decide +kernel⟩,
    ⟨{ (sets base [(F.FLT_CTRL_MODE, 1)]) with flt := { base.flt with fltHeld := true, fltMin := false } }, by decide +kernel⟩,
    ⟨{ (sets base [(F.FLT_CTRL_MODE, 1)]) with flt := { base.flt with fltHeld := true, fltMin := true } }, by decide +kernel⟩,
    ⟨(sets base [(F.FLT_CTRL_MODE, 2)]), by decide +kernel⟩,
    ⟨(sets base [(F.SIG_STAT_FALLS, 254)]), by decide +kernel⟩,
    ⟨(sets base [(F.SIG_STAT_BY, 4)]), by decide +kernel⟩,
    ⟨{ base with flt := { base.flt with stuckAt := some 4 } }, 4, by decide +kernel⟩,
    ⟨{ base with flt := { base.flt with sigFallen := true, sigHigh := false } }, by decide +kernel⟩⟩

theorem witness_FaultVerbs :
    (∃ (s : State) (p : PortId) (l : Line) (e : Nat) (evt : _) (pc : _) (tt : _) (tc : _) (aff : _), Grants s p l .route false ∧ objEv s.part l = .ok e ∧ nonAbsent (restToks l) "AFFECT" (absentRail s.part) = .ok () ∧ parseArgs s.compat routeKinds (restToks l) = .ok (argsOf (parseArgs s.compat routeKinds (restToks l))) ∧ rawArg (argsOf (parseArgs s.compat routeKinds (restToks l))) "EVT" evtList = .ok evt ∧ rawArg (argsOf (parseArgs s.compat routeKinds (restToks l))) "PCAUSE" (causeArg e "ALL") = .ok pc ∧ rawArg (argsOf (parseArgs s.compat routeKinds (restToks l))) "START" startArg = .ok tt ∧ rawArg (argsOf (parseArgs s.compat routeKinds (restToks l))) "STARTCAUSE" (causeArg e "ANY") = .ok tc ∧ rawArg (argsOf (parseArgs s.compat routeKinds (restToks l))) "AFFECT" railMask = .ok aff) ∧
    (∃ (s : State) (p : PortId) (l : Line) (e : Nat), Grants s p l .clear false ∧ clearsFault l = false ∧ objEv s.part l = .ok e ∧ restToks l = []) ∧
    (∃ (s : State) (p : PortId) (l : Line), Grants s p l .clear false ∧ clearsFault l = true ∧ restToks l = []) ∧
    (∃ (s : State) (p : PortId) (l : Line), Grants s p l .flt false ∧ parseArgs s.compat fltKinds l.toks = .ok (argsOf (parseArgs s.compat fltKinds l.toks)) ∧ ((argsOf (parseArgs s.compat fltKinds l.toks)).has "RELEASE" = true → ((granted s).fltStored (argsOf (parseArgs s.compat fltKinds l.toks))).get F.FLT_CTRL_MODE = 1)) ∧
    (∃ (s : State) (p : PortId) (l : Line), Grants s p l .flt false ∧ parseArgs s.compat fltKinds l.toks = .ok (argsOf (parseArgs s.compat fltKinds l.toks)) ∧ (argsOf (parseArgs s.compat fltKinds l.toks)).has "RELEASE" = true ∧ ((granted s).fltStored (argsOf (parseArgs s.compat fltKinds l.toks))).get F.FLT_CTRL_MODE ≠ 1) ∧
    (∃ (a : Args) (k : Fin 64) (j : Nat), a.nat "NOTIFY" = none ∧ a.nat "LOG" = some 1 ∧ a.nat "FLT" = none ∧ a.nat "PROMOTE" = some 2 ∧ j ≠ Reg.addr (.ROUTE k)) :=
  ⟨⟨(queued base { verb := .route, toks := ["EV3", "EVT=0,2", "START=TT3", "NOTIFY=ON"] }), .host, { verb := .route, toks := ["EV3", "EVT=0,2", "START=TT3", "NOTIFY=ON"] }, 3, some 5, none, some 3, none, none, by unfold Grants; decide +kernel⟩,
    ⟨(queued base { verb := .clear, toks := ["EV63"] }), .host, { verb := .clear, toks := ["EV63"] }, 63, by unfold Grants; decide +kernel⟩,
    ⟨(queued base { verb := .clear, toks := ["FAULT"] }), .host, { verb := .clear, toks := ["FAULT"] }, by unfold Grants; decide +kernel⟩,
    ⟨(queued base { verb := .flt, toks := ["MODE=LATCH", "RELEASE"] }), .host, { verb := .flt, toks := ["MODE=LATCH", "RELEASE"] }, by unfold Grants; decide +kernel⟩,
    ⟨(queued base { verb := .flt, toks := ["RELEASE"] }), .host, { verb := .flt, toks := ["RELEASE"] }, by unfold Grants; decide +kernel⟩,
    ⟨[("LOG", .int 1), ("PROMOTE", .int 2)], 63, 0, by decide +kernel⟩⟩

theorem witness_TimetableVerbs :
    (∃ (s : State) (p : PortId) (l : Line) (n : Nat), objTt l = .ok n ∧ Grants s p l .start false ∧ restToks l = [] ∧ s.failed 2 = true) ∧
    (∃ (s : State) (p : PortId) (l : Line) (n : Nat), objTt l = .ok n ∧ Grants s p l .start false ∧ restToks l = [] ∧ s.failed 2 = false ∧ s.ttRuns 4 = true) ∧
    (∃ (s : State) (p : PortId) (l : Line) (n : Nat), objTt l = .ok n ∧ s.failed 2 = false ∧ Grants s p l .start false ∧ restToks l = [] ∧ s.ttRuns 4 = false ∧ s.committing n = false ∧ s.ttValid n = true ∧ s.tt.run = none) ∧
    (∃ (s : State) (p : PortId) (l : Line), objTt l = .ok 4 ∧ s.failed 2 = false ∧ Grants s p l .start false ∧ restToks l = [] ∧ s.ttRuns 4 = false ∧ s.committing 4 = false ∧ s.ttValid 4 = true ∧ s.tt.run ≠ none) ∧
    (∃ (s : State) (p : PortId) (l : Line) (n : Nat), objTt l = .ok n ∧ s.failed 2 = false ∧ Grants s p l .start false ∧ restToks l = [] ∧ s.ttRuns 4 = false ∧ s.committing n = false ∧ s.ttValid n = true ∧ n ≠ 4 ∧ s.tt.run ≠ none) ∧
    (∃ (s : State) (p : PortId) (l : Line) (n : Nat), objTt l = .ok n ∧ s.failed 2 = false ∧ Grants s p l .start false ∧ restToks l = [] ∧ s.ttRuns 4 = false ∧ s.committing n = false ∧ s.ttValid n = false) ∧
    (∃ (s : State) (p : PortId) (l : Line) (n : Nat), objTt l = .ok n ∧ s.failed 2 = false ∧ Grants s p l .stop false ∧ restToks l = [] ∧ n ≠ 4 ∧ s.ttRuns n = true) ∧
    (∃ (s : State) (p : PortId) (l : Line), objTt l = .ok 4 ∧ s.failed 2 = false ∧ Grants s p l .stop false ∧ restToks l = []) ∧
    (∃ (s : State) (p : PortId) (l : Line) (n : Nat) (k : _) (crc : _), objTt l = .ok n ∧ s.failed 2 = false ∧ Grants s p l .load false ∧ s.failed 9 = false ∧ loadForm l = "BEGIN" ∧ parseArgs s.compat [("BEGIN", .key), ("STEPS", .num 1 511), ("CRC", .num 0 65535)] (restToks l) = .ok (argsOf (parseArgs s.compat [("BEGIN", .key), ("STEPS", .num 1 511), ("CRC", .num 0 65535)] (restToks l))) ∧ (argsOf (parseArgs s.compat [("BEGIN", .key), ("STEPS", .num 1 511), ("CRC", .num 0 65535)] (restToks l))).has "BEGIN" = true ∧ (argsOf (parseArgs s.compat [("BEGIN", .key), ("STEPS", .num 1 511), ("CRC", .num 0 65535)] (restToks l))).nat "STEPS" = some k ∧ (argsOf (parseArgs s.compat [("BEGIN", .key), ("STEPS", .num 1 511), ("CRC", .num 0 65535)] (restToks l))).nat "CRC" = some crc ∧ s.fits n (k + 1) = true) ∧
    (∃ (s : State) (p : PortId) (l : Line) (n : Nat) (vs : _) (i : _) (x : _), objTt l = .ok n ∧ s.failed 2 = false ∧ Grants s p l .load false ∧ s.failed 9 = false ∧ loadForm l = "AT" ∧ (restToks l).tail.find? (·.toList.contains '=') = none ∧ (restToks l).tail.length ≤ 8 ∧ (restToks l).tail ≠ [] ∧ bareValues s.compat (.num 0 0xFFFFFFFF) (restToks l).tail = .ok vs ∧ parseArgs s.compat [("AT", .num 0 510)] ((restToks l).take 1) = .ok (argsOf (parseArgs s.compat [("AT", .num 0 510)] ((restToks l).take 1))) ∧ (argsOf (parseArgs s.compat [("AT", .num 0 510)] ((restToks l).take 1))).nat "AT" = some i ∧ s.staged p n = .ok x ∧ i + vs.length ≤ x.n) ∧
    (∃ (s : State) (p : PortId) (l : Line) (n : Nat) (x : _) (ws : _), objTt l = .ok n ∧ s.failed 2 = false ∧ Grants s p l .load false ∧ s.failed 9 = false ∧ loadForm l = "END" ∧ (restToks l).tail = [] ∧ s.staged p n = .ok x ∧ x.image = .ok ws ∧ s.ttBusy n = false ∧ s.fits n ws.length = true) ∧
    (∃ (s : State) (p : PortId) (l : Line) (n : Nat) (x : _), objTt l = .ok n ∧ s.failed 2 = false ∧ Grants s p l .load false ∧ s.failed 9 = false ∧ loadForm l = "ABORT" ∧ (restToks l).tail = [] ∧ s.staged p n = .ok x) ∧
    (∃ (s : State) (p : PortId) (l : Line) (n : Nat), objTt l = .ok n ∧ s.failed 2 = false ∧ Grants s p l .load false ∧ s.failed 9 = false ∧ loadForm l = "ERASE" ∧ (restToks l).tail = [] ∧ s.ttBusy n = false ∧ s.plannedLen n ≠ 0) ∧
    (∃ (s : State) (l : Line) (n : Nat), objTt l = .ok n ∧ s.failed 2 = false ∧ s.tt.commit = none ∧ s.tt.commits = []) :=
  ⟨⟨(queued (sets base [(F.BIST_SUM_FAILED, 4)]) { verb := .start, toks := ["TT3"] }), .host, { verb := .start, toks := ["TT3"] }, 3, by unfold Grants; decide +kernel⟩,
    ⟨(queued { (sets base [(F.TT_DIR_VALID 3, 1)]) with tt := { base.tt with run := some { tt := 4 } } } { verb := .start, toks := ["TT3"] }), .host, { verb := .start, toks := ["TT3"] }, 3, by unfold Grants; decide +kernel⟩,
    ⟨(queued (sets base [(F.TT_DIR_VALID 3, 1)]) { verb := .start, toks := ["TT3"] }), .host, { verb := .start, toks := ["TT3"] }, 3, by unfold Grants; decide +kernel⟩,
    ⟨(queued { (sets base [(F.TT_DIR_VALID 4, 1)]) with tt := { base.tt with run := some { tt := 2 } } } { verb := .start, toks := ["TT4"] }), .host, { verb := .start, toks := ["TT4"] }, by unfold Grants; decide +kernel⟩,
    ⟨(queued { (sets base [((F.TT_DIR_VALID 3), 1)]) with tt := { base.tt with run := some { tt := 2 } } } { verb := .start, toks := ["TT3"] }), .host, { verb := .start, toks := ["TT3"] }, 3, by unfold Grants; decide +kernel⟩,
    ⟨(queued base { verb := .start, toks := ["TT3"] }), .host, { verb := .start, toks := ["TT3"] }, 3, by unfold Grants; decide +kernel⟩,
    ⟨(queued { base with tt := { base.tt with run := some { tt := 3 } } } { verb := .stop, toks := ["TT3"] }), .host, { verb := .stop, toks := ["TT3"] }, 3, by unfold Grants; decide +kernel⟩,
    ⟨(queued base { verb := .stop, toks := ["TT4"] }), .host, { verb := .stop, toks := ["TT4"] }, by unfold Grants; decide +kernel⟩,
    ⟨(queued base { verb := .load, toks := ["TT3", "BEGIN", "STEPS=511", "CRC=0X1234"] }), .host, { verb := .load, toks := ["TT3", "BEGIN", "STEPS=511", "CRC=0X1234"] }, 3, 511, 0x1234, by unfold Grants; decide +kernel⟩,
    ⟨(queued { base with tt := { base.tt with staging := some { port := .host, tt := 3, n := 2, crc := 0 } } } { verb := .load, toks := ["TT3", "AT=0", "1", "2"] }), .host, { verb := .load, toks := ["TT3", "AT=0", "1", "2"] }, 3, [1, 2], 0, { port := .host, tt := 3, n := 2, crc := 0 }, by unfold Grants; decide +kernel⟩,
    ⟨(queued { base with tt := { base.tt with staging := some { port := .host, tt := 3, n := 1, crc := crc16 (wordBytes [0x70000000#32]), words := [(0, some 0x70000000#32)] } } } { verb := .load, toks := ["TT3", "END"] }), .host, { verb := .load, toks := ["TT3", "END"] }, 3, { port := .host, tt := 3, n := 1, crc := crc16 (wordBytes [0x70000000#32]), words := [(0, some 0x70000000#32)] }, okOf (Staging.image { port := .host, tt := 3, n := 1, crc := crc16 (wordBytes [0x70000000#32]), words := [(0, some 0x70000000#32)] }) [], by unfold Grants; decide +kernel⟩,
    ⟨(queued { base with tt := { base.tt with staging := some { port := .host, tt := 3, n := 2, crc := 0 } } } { verb := .load, toks := ["TT3", "ABORT"] }), .host, { verb := .load, toks := ["TT3", "ABORT"] }, 3, { port := .host, tt := 3, n := 2, crc := 0 }, by unfold Grants; decide +kernel⟩,
    ⟨(queued (sets base [((F.TT_DIR_LEN 3), 5)]) { verb := .load, toks := ["TT3", "ERASE"] }), .host, { verb := .load, toks := ["TT3", "ERASE"] }, 3, by unfold Grants; decide +kernel⟩,
    ⟨base, { verb := .load, toks := ["TT3"] }, 3, by decide +kernel⟩⟩

theorem witness_StoreCommands :
    (∃ (s : State) (p : PortId) (l : Line), s.failed 9 = false ∧ Grants s p l .save false ∧ l.toks = ["CONFIG"] ∧ s.store.save = none ∧ (granted s).saveEntries.length ≤ 168) ∧
    (∃ (s : State) (p : PortId) (l : Line), s.failed 9 = false ∧ Grants s p l .save false ∧ l.toks = ["CONFIG"] ∧ 168 < (granted s).saveEntries.length) ∧
    (∃ (s : State), s.failed 9 = false ∧ s.dev = .run ∧ s.store.save = none ∧ s.saveEntries.length ≤ 168) ∧
    (∃ (s : State), s.failed 9 = false ∧ s.dev = .run ∧ s.store.save = none ∧ 168 < s.saveEntries.length) ∧
    (∃ (s : State), s.failed 9 = false ∧ s.dev = .run ∧ s.lineWaits = false ∧ s.flag F.NV_CTRL_SCRUB_EN = true ∧ s.works 9 = true ∧ s.store.scrubAt < 511 ∧ (s.store.scrubAt < 256 ∨ slotErased (s.slot s.store.scrubAt) = true ∨ slotIntact (s.slot s.store.scrubAt) = true)) ∧
    (∃ (s : State), s.failed 9 = false ∧ s.dev = .run ∧ s.lineWaits = false ∧ s.flag F.NV_CTRL_SCRUB_EN = true ∧ s.works 9 = true ∧ s.store.scrubAt < 128) ∧
    (∃ (s : State), s.failed 9 = false ∧ s.dev = .run ∧ s.lineWaits = false ∧ s.flag F.NV_CTRL_SCRUB_EN = true ∧ s.works 9 = true ∧ s.store.scrubAt = 511 ∧ slotErased (s.slot 511) = true) ∧
    (∃ (s : State), s.failed 9 = false ∧ (s.dev ≠ .run ∨ (s.lineWaits = true ∧ s.core.passRun < 7))) ∧
    (∃ (s : State), s.failed 9 = false ∧ s.dev = .run ∧ s.lineWaits = false ∧ s.flag F.NV_CTRL_SCRUB_EN = false) ∧
    (∃ (s : State) (j : _), s.failed 9 = false ∧ s.store.job = some j ∧ j.why = .log ∧ j.bytes.length = 16 ∧ j.slot < 512) ∧
    (∃ (s : State) (j : _) (v : _), s.failed 9 = false ∧ s.store.job = some j ∧ j.why = .save ∧ s.store.save = some v ∧ v.next = 63 ∧ v.bank < 2 ∧ v.gen < 2 ^ 32) ∧
    (∃ (s : State) (j : _), s.failed 9 = false ∧ s.store.job = some j ∧ j.again = false) ∧
    (∃ (s : State) (j : _), s.failed 9 = false ∧ s.dev = .run ∧ s.store.job = some j ∧ j.again = true) :=
  ⟨⟨(queued base { verb := .save, toks := ["CONFIG"] }), .host, { verb := .save, toks := ["CONFIG"] }, by unfold Grants; decide +kernel⟩,
    ⟨(queued manySettings { verb := .save, toks := ["CONFIG"] }), .host, { verb := .save, toks := ["CONFIG"] }, by decide +kernel, by unfold Grants; decide +kernel, by decide +kernel, by exact saveEntries_of_words _ rfl manyAt_words⟩,
    ⟨base, by decide +kernel⟩,
    ⟨manySettings, by decide +kernel, by decide +kernel, by decide +kernel, by exact saveEntries_of_words _ rfl manyAt_words⟩,
    ⟨{ (sets base [(F.NV_CTRL_SCRUB_EN, 1)]) with store := { base.store with scrubAt := 510 } }, by decide +kernel⟩,
    ⟨{ (sets base [(F.NV_CTRL_SCRUB_EN, 1)]) with store := { base.store with scrubAt := 127 } }, by decide +kernel⟩,
    ⟨{ (sets base [(F.NV_CTRL_SCRUB_EN, 1)]) with store := { base.store with scrubAt := 511 } }, by decide +kernel⟩,
    ⟨(queued base { verb := .caps, query := true }), by decide +kernel⟩,
    ⟨(sets base [(F.NV_CTRL_SCRUB_EN, 0)]), by decide +kernel⟩,
    ⟨{ (sets base [(F.NV_CTRL_SCRUB_EN, 1)]) with store := { base.store with job := some { slot := 500, bytes := List.replicate 16 5#8, why := .log } } }, { slot := 500, bytes := List.replicate 16 5#8, why := .log }, by decide +kernel⟩,
    ⟨{ (sets base [(F.NV_CTRL_SCRUB_EN, 1)]) with store := { base.store with job := some { slot := 500, bytes := List.replicate 16 5#8, why := .save }, save := some { bank := 1, bytes := [], next := 63, gen := 7 } } }, { slot := 500, bytes := List.replicate 16 5#8, why := .save }, { bank := 1, bytes := [], next := 63, gen := 7 }, by decide +kernel⟩,
    ⟨{ (sets base [(F.NV_CTRL_SCRUB_EN, 1)]) with store := { base.store with job := some { slot := 500, bytes := List.replicate 16 5#8, why := .log } } }, { slot := 500, bytes := List.replicate 16 5#8, why := .log }, by decide +kernel⟩,
    ⟨{ (sets base [(F.NV_CTRL_SCRUB_EN, 1)]) with store := { base.store with job := some { slot := 500, bytes := List.replicate 16 5#8, why := .log, again := true } } }, { slot := 500, bytes := List.replicate 16 5#8, why := .log, again := true }, by decide +kernel⟩⟩

theorem witness_SelfTestCommands :
    (∃ (s : State) (bp : Nat), s.dev = .run ∧ s.get F.BIST_CTRL_SEL = bp ∧ s.bistRefusal bp = none) ∧
    (∃ (s : State) (bp : Nat) (x : _), s.dev = .run ∧ s.get F.BIST_CTRL_SEL = bp ∧ s.bistRefusal bp = some x) ∧
    (∃ (s : State) (r : _), s.dev = .run ∧ s.bist.run = some r ∧ r.bp = s.get F.BIST_CTRL_SEL ∧ r.bp < 10) ∧
    (∃ (s : State) (p : PortId) (l : Line) (bp : Nat), Grants s p l .bist false ∧ bistForm l = "START" ∧ objBp l = .ok bp ∧ restToks l = [] ∧ (granted s).bistRefusal bp = none) ∧
    (∃ (s : State) (p : PortId) (l : Line) (bp : Nat) (c : _) (n : _) (d : _), Grants s p l .bist false ∧ bistForm l = "START" ∧ objBp l = .ok bp ∧ restToks l = [] ∧ (granted s).bistRefusal bp = some (c, n, d)) ∧
    (∃ (s : State) (p : PortId) (l : Line) (bp : Nat), Grants s p l .bist false ∧ bistForm l = "ABORT" ∧ objBp l = .ok bp ∧ (restToks l).tail = [] ∧ s.testOf bp = true) ∧
    (∃ (s : State) (p : PortId) (l : Line), Grants s p l .bist false ∧ bistForm l = "PWRUP" ∧ parseArgs s.compat [("PWRUP", .switch)] l.toks = .ok (argsOf (parseArgs s.compat [("PWRUP", .switch)] l.toks))) ∧
    (∃ (s : State), s.bist.run = none) ∧
    (∃ (s : State) (r : _), s.dev = .run ∧ s.bist.run = some r ∧ r.bp < 10 ∧ r.running = false ∧ r.how = .register ∧ s.core.stby = false ∧ s.bistLive r.bp = true) ∧
    (∃ (s : State) (osc : Nat) (r : _), s.dev = .run ∧ s.bist.run = some r ∧ r.bp < 10 ∧ r.running = false ∧ r.how = .register ∧ s.core.stby = false ∧ s.bistLive r.bp = false ∧ s.bistCond osc = true) ∧
    (∃ (s : State) (osc : Nat) (r : _), s.dev = .run ∧ s.bist.run = some r ∧ r.bp < 10 ∧ r.running = false ∧ r.how = .register ∧ s.core.stby = false ∧ s.bistLive r.bp = false ∧ s.bistCond osc = false) ∧
    (∃ (s : State) (osc : Nat) (r : _), s.dev = .selftest ∧ s.bist.run = some r ∧ r.running = false ∧ r.how = .powerup ∧ s.bistCond osc = false) ∧
    (∃ (s : State) (sig : Word) (r : _), s.dev = .run ∧ s.bist.run = some r ∧ r.bp < 10 ∧ r.running = true ∧ r.how = .register ∧ sig ≠ bistExp s.rev r.bp) ∧
    (∃ (s : State) (r : _), s.dev = .selftest ∧ s.bist.run = some r ∧ r.running = true ∧ r.how = .powerup ∧ r.bp < 9 ∧ s.failed r.bp = false) :=
  ⟨⟨(sets base [(F.BIST_CTRL_SEL, 9)]), 9, by decide +kernel⟩,
    ⟨(sets base [(F.BIST_CTRL_SEL, 2)]), 2, (22, "REFUSED", "POWERUP"), by decide +kernel⟩,
    ⟨{ (sets base [(F.BIST_CTRL_SEL, 9)]) with dev := .run, bist := { base.bist with run := some { bp := 9, how := .register } } }, { bp := 9, how := .register }, by decide +kernel⟩,
    ⟨(queued base { verb := .bist, toks := ["BP9"] }), .host, { verb := .bist, toks := ["BP9"] }, 9, by unfold Grants; decide +kernel⟩,
    ⟨(queued base { verb := .bist, toks := ["BP0"] }), .host, { verb := .bist, toks := ["BP0"] }, 0, 22, "REFUSED", "POWERUP", by unfold Grants; decide +kernel⟩,
    ⟨(queued { (sets base []) with dev := .run, bist := { base.bist with run := some { bp := 9, how := .register } } } { verb := .bist, toks := ["BP9", "ABORT"] }), .host, { verb := .bist, toks := ["BP9", "ABORT"] }, 9, by unfold Grants; decide +kernel⟩,
    ⟨(queued base { verb := .bist, toks := ["PWRUP=OFF"] }), .host, { verb := .bist, toks := ["PWRUP=OFF"] }, by unfold Grants; decide +kernel⟩,
    ⟨base, by decide +kernel⟩,
    ⟨{ (sets base [(F.BR_CTRL_EN, 1)]) with bist := { base.bist with run := some { bp := 4, how := .register } } }, { bp := 4, how := .register }, by decide +kernel⟩,
    ⟨{ base with bist := { base.bist with run := some { bp := 9, how := .register } } }, 5684, { bp := 9, how := .register }, by decide +kernel⟩,
    ⟨{ base with bist := { base.bist with run := some { bp := 9, how := .register } } }, 5683, { bp := 9, how := .register }, by decide +kernel⟩,
    ⟨{ (sets base []) with dev := .selftest, bist := { base.bist with run := some { bp := 8, how := .powerup } } }, 5683, { bp := 8, how := .powerup }, by decide +kernel⟩,
    ⟨{ (sets base []) with dev := .run, bist := { base.bist with run := some { bp := 9, how := .register, running := true } } }, 0#32, { bp := 9, how := .register, running := true }, by decide +kernel⟩,
    ⟨{ (sets base []) with dev := .selftest, bist := { base.bist with run := some { bp := 8, how := .powerup, running := true } } }, { bp := 8, how := .powerup, running := true }, by decide +kernel⟩⟩

theorem witness_RailCourse :
    (∃ (s : State) (r : Fin 6), s.dev = .run ∧ s.railLive r = true ∧ s.rs r = rsWaiting ∧ s.enabled r = true ∧ s.delayOk r = true ∧ (s.deps r).all s.railGood = true ∧ s.get (F.RAIL_DELAY_ON_DLY r) ≠ 0) ∧
    (∃ (s : State) (r : Fin 6), s.dev = .run ∧ s.railLive r = true ∧ s.rs r = rsWaiting ∧ (s.enabled r = false ∨ s.delayOk r = false ∨ (s.deps r).all s.railGood = false)) ∧
    (∃ (s : State) (r : Fin 6) (d : _), s.dev = .run ∧ s.railLive r = true ∧ (s.rail r).dlyAt = some d ∧ s.rs r = rsOnDelay ∧ s.get (F.RAIL_STATUS_VCMD r) ≠ (s.vSetm r).toNat) ∧
    (∃ (s : State) (r : Fin 6) (d : _), s.dev = .run ∧ s.railLive r = true ∧ (s.rail r).dlyAt = some d ∧ s.rs r = rsOffDelay ∧ s.offV r < s.get (F.RAIL_STATUS_VCMD r)) ∧
    (∃ (s : State) (r : Fin 6), s.dev = .run ∧ s.railLive r = true ∧ (s.rs r = rsRampUp ∨ s.rs r = rsMoving) ∧ s.get (F.RAIL_STATUS_VCMD r) + 1 < (s.rail r).vEnd ∧ s.get (F.RAIL_STATUS_VCMD r) < 5600) ∧
    (∃ (s : State) (r : Fin 6), s.dev = .run ∧ s.railLive r = true ∧ (s.rs r = rsRampUp ∨ s.rs r = rsMoving) ∧ s.get (F.RAIL_STATUS_VCMD r) + 1 = (s.rail r).vEnd ∧ (s.rail r).vEnd ≤ 5600) ∧
    (∃ (s : State) (r : Fin 6), s.dev = .run ∧ s.railLive r = true ∧ s.rs r = rsRampDown ∧ (s.rail r).vEnd + 1 < s.get (F.RAIL_STATUS_VCMD r)) ∧
    (∃ (s : State) (r : Fin 6), s.dev = .run ∧ s.railLive r = true ∧ s.rs r = rsRampDown ∧ s.get (F.RAIL_STATUS_VCMD r) ≤ (s.rail r).vEnd + 1) ∧
    (∃ (s : State) (r : Fin 6) (f : _) (d : _), s.dev = .run ∧ s.railLive r = true ∧ (s.rail r).fall = some f ∧ f.stage = 2 ∧ f.till = some d) ∧
    (∃ (s : State) (r : Fin 6) (f : _) (d : _), s.dev = .run ∧ s.railLive r = true ∧ (s.rail r).fall = some f ∧ f.stage = 3 ∧ f.till = some d) ∧
    (∃ (s : State) (r : Fin 6) (f : _) (d : _), s.dev = .run ∧ s.railLive r = true ∧ (s.rail r).fall = some f ∧ f.stage = 0 ∧ f.till = some d ∧ f.deps = 0) ∧
    (∃ (s : State) (r : Fin 6) (f : _) (d : _), s.dev = .run ∧ s.railLive r = true ∧ (s.rail r).fall = some f ∧ f.stage = 0 ∧ f.till = some d ∧ f.deps ≠ 0) ∧
    (∃ (s : State) (r : Fin 6) (n : Fin 16), s.dev = .run ∧ s.railLive r = true ∧ s.phaseLive n = true ∧ s.discharging n = true) ∧
    (∃ (s : State) (r : Fin 6) (n : Fin 16), s.dev = .run ∧ s.railLive r = true ∧ s.discharging n = false) :=
  ⟨⟨((sets base [((F.RAIL_CTRL_EN 1), 1), ((F.RAIL_DELAY_ON_DLY 1), 1), ((depField 1), 0)]).setRs 1 rsWaiting), 1, by decide +kernel⟩,
    ⟨((sets base [((F.RAIL_CTRL_EN 1), 0)]).setRs 1 rsWaiting), 1, by decide +kernel⟩,
    ⟨(((sets base []).setRs 1 rsOnDelay).modRail 1 fun x => { x with dlyAt := some 6 }), 1, 6, by decide +kernel⟩,
    ⟨(((sets base [((F.RAIL_STATUS_VCMD 1), 1000)]).setRs 1 rsOffDelay).modRail 1 fun x => { x with dlyAt := some 6 }), 1, 6, by decide +kernel⟩,
    ⟨(((sets base [((F.RAIL_STATUS_VCMD 1), 5598)]).setRs 1 rsRampUp).modRail 1 fun x => { x with vEnd := 5600 }), 1, by decide +kernel⟩,
    ⟨(((sets base [((F.RAIL_STATUS_VCMD 1), 5599)]).setRs 1 rsMoving).modRail 1 fun x => { x with vEnd := 5600 }), 1, by decide +kernel⟩,
    ⟨(((sets base [((F.RAIL_STATUS_VCMD 1), 9)]).setRs 1 rsRampDown).modRail 1 fun x => { x with vEnd := 7 }), 1, by decide +kernel⟩,
    ⟨(((sets base [((F.RAIL_STATUS_VCMD 1), 8)]).setRs 1 rsRampDown).modRail 1 fun x => { x with vEnd := 7 }), 1, by decide +kernel⟩,
    ⟨(((sets base []).setRs 1 rsFalling).modRail 1 fun x => { x with fall := some ⟨320, 640, none, 2, some 50, 0⟩ }), 1, ⟨320, 640, none, 2, some 50, 0⟩, 50, by decide +kernel⟩,
    ⟨(((sets base []).setRs 1 rsFalling).modRail 1 fun x => { x with fall := some ⟨320, 640, none, 3, some 50, 0⟩ }), 1, ⟨320, 640, none, 3, some 50, 0⟩, 50, by decide +kernel⟩,
    ⟨((base.setRs 1 rsOn).modRail 1 fun x => { x with fall := some ⟨320, 640, none, 0, some 50, 0⟩ }), 1, ⟨320, 640, none, 0, some 50, 0⟩, 50, by decide +kernel⟩,
    ⟨((base.setRs 1 rsOn).modRail 1 fun x => { x with fall := some ⟨320, 640, none, 0, some 50, 4⟩ }), 1, ⟨320, 640, none, 0, some 50, 4⟩, 50, by decide +kernel⟩,
    ⟨(((sets base [((F.PH_CTRL_RAIL 2), 1)]).setRs 1 rsFalling).modRail 1 fun x => { x with fall := some ⟨320, 640, none, 3, some 50, 0⟩ }), 1, 2, by decide +kernel⟩,
    ⟨base, 1, 15, by decide +kernel⟩⟩

theorem witness_RailProtection :
    (∃ (s : State) (r : Fin 6) (d : _), s.dev = .run ∧ s.railLive r = true ∧ (s.rail r).hicAt = some d ∧ s.rs r = rsOff ∧ s.enabled r = true ∧ (∃ n ∈ s.assigned r, s.phState n ≠ 4)) ∧
    (∃ (s : State) (r : Fin 6) (d : _), s.dev = .run ∧ s.railLive r = true ∧ (s.rail r).cleanFrom = some d ∧ s.rs r = rsOn ∧ s.get (F.RAIL_PSTAT_HICCUPS r) ≠ 0) ∧
    (∃ (s : State) (r : Fin 6) (d : _), s.dev = .run ∧ s.railLive r = true ∧ (s.rail r).ovlAt = some d) ∧
    (∃ (s : State) (r : Fin 6) (mV : _), s.dev = .run ∧ s.railLive r = true ∧ (s.rs r = rsOn ∨ s.rs r = rsMoving ∨ s.rs r = rsOffDelay) ∧ s.vOv r ≤ mV * 100) ∧
    (∃ (s : State) (r : Fin 6) (mV : _), s.dev = .run ∧ s.railLive r = true ∧ mV * 100 < s.vOv r) ∧
    (∃ (s : State) (r : Fin 6) (mV : _), s.dev = .run ∧ s.railLive r = true ∧ 1800 ≤ mV) ∧
    (∃ (s : State) (r : Fin 6) (mV : _), s.dev = .run ∧ s.railLive r = true ∧ mV < 360 ∧ s.enabled r = true ∧ (s.rail r).openRun = 3 ∧ s.flag (F.RAIL_PSTAT_TSNS_OPEN r) = false) ∧
    (∃ (s : State) (r : Fin 6) (mV : Nat), s.dev = .run ∧ s.railLive r = true ∧ 360 ≤ mV ∧ mV < 1800 ∧ s.enabled r = true ∧ (s.rail r).shutRun = 1 ∧ s.flag (F.RAIL_PSTAT_TSNS_OPEN r) = false ∧ (s.get (F.RAIL_PROT_OT_SHUT r) : Int) ≤ tsnsTemp mV) ∧
    (∃ (s : State) (r : Fin 6), s.dev = .run ∧ s.railLive r = true ∧ s.enabled r = false) ∧
    (∃ (s : State) (r : Fin 6) (n : Fin 16), s.dev = .run ∧ s.railLive r = true ∧ s.guarded n = true ∧ (s.ph n).on = true) ∧
    (∃ (s : State) (r : Fin 6) (n : Fin 16), s.dev = .run ∧ s.railLive r = true ∧ s.guarded n = true ∧ s.hiccups (s.get (F.PH_CTRL_RAIL n)) = true) ∧
    (∃ (s : State) (r : Fin 6) (n : Fin 16), s.dev = .run ∧ s.railLive r = true ∧ s.guarded n = true ∧ s.hiccups (s.get (F.PH_CTRL_RAIL n)) = false ∧ 3 ≤ (s.rail (s.get (F.PH_CTRL_RAIL n))).tripRun ∧ (s.rotation (s.get (F.PH_CTRL_RAIL n))).length ≤ 2) ∧
    (∃ (s : State) (r : Fin 6) (n : Fin 16), s.dev = .run ∧ s.railLive r = true ∧ s.guarded n = false) :=
  ⟨⟨(((sets base [(F.RAIL_CTRL_EN 1, 1), (F.PH_CTRL_RAIL 2, 1)]).setRs 1 rsOff).modRail 1 fun x => { x with hicAt := some 6 }), 1, 6, by decide +kernel⟩,
    ⟨(((sets base [((F.RAIL_PSTAT_HICCUPS 1), 1)]).setRs 1 rsOn).modRail 1 fun x => { x with cleanFrom := some 6 }), 1, 6, by decide +kernel⟩,
    ⟨(((sets base [((F.RAIL_CTRL_EN 1), 1)]).setRs 1 rsOn).modRail 1 fun x => { x with ovlAt := some 6 }), 1, 6, by decide +kernel⟩,
    ⟨((sets base [(F.RAIL_CTRL_EN 1, 1)]).setRs 1 rsOn), 1, 6001, by decide +kernel⟩,
    ⟨((sets base [(F.RAIL_CTRL_EN 1, 1)]).setRs 1 rsOn), 1, 0, by decide +kernel⟩,
    ⟨((sets base []).setRs 1 rsOn), 1, 1800, by decide +kernel⟩,
    ⟨(((sets base [((F.RAIL_CTRL_EN 1), 1)]).setRs 1 rsOn).modRail 1 fun x => { x with openRun := 3 }), 1, 359, by decide +kernel⟩,
    ⟨(((sets base [((F.RAIL_CTRL_EN 1), 1), ((F.RAIL_PROT_OT_SHUT 1), 60)]).setRs 1 rsOn).modRail 1 fun x => { x with shutRun := 1 }), 1, 1799, by decide +kernel⟩,
    ⟨((sets base []).setRs 1 rsOff), 1, by decide +kernel⟩,
    ⟨(((sets base [((F.PH_CTRL_RAIL 2), 1), ((F.PH_STATUS_STATE 2), 1)]).setRs 1 rsOn).modPh 2 fun x => { x with on := true }), 1, 2, by decide +kernel⟩,
    ⟨((sets base [(F.PH_CTRL_RAIL 2, 4), (F.PH_STATUS_STATE 2, 1)]).setRs 4 rsOn), 1, 2, by decide +kernel⟩,
    ⟨((((sets base [(F.PH_CTRL_RAIL 2, 1), (F.PH_STATUS_STATE 2, 1)]).setRs 1 rsOn).modPh 2 fun x => { x with on := true }).modRail 1 fun x => { x with tripRun := 3 }), 1, 2, by decide +kernel⟩,
    ⟨base, 1, 2, by decide +kernel⟩⟩

theorem witness_Switching :
    (∃ (s : State) (r : Fin 6), s.dev = .run ∧ s.railLive r = true ∧ s.railOn r = true ∧ (s.atTrigger r).railOn r = true) ∧
    (∃ (s : State) (r : Fin 6), s.dev = .run ∧ s.railOn r = false) ∧
    (∃ (s : State) (r : Fin 6) (skipped : _), s.dev = .run ∧ s.takeTrigger [] (afterLast (s.rotation r) (s.rail r).last) = (none, skipped)) ∧
    (∃ (s : State) (r : Fin 6) (k : _) (skipped : _), s.dev = .run ∧ s.takeTrigger [] (afterLast (s.rotation r) (s.rail r).last) = (some k, skipped)) ∧
    (∃ (s : State) (n : Fin 16), s.dev = .run ∧ (s.ph n).on = true ∧ (s.ph n).resp = false) ∧
    (∃ (s : State) (n : Fin 16), s.dev = .run ∧ (s.ph n).on = true ∧ (s.ph n).resp = true ∧ (s.ph n).minOk = false ∧ (s.rail (s.get (F.PH_CTRL_RAIL n))).respBack = false) ∧
    (∃ (s : State) (n : Fin 16), s.dev = .run ∧ s.phaseLive n = true ∧ (s.ph n).on = false ∧ (s.rail (s.get (F.PH_CTRL_RAIL n))).held = false) ∧
    (∃ (s : State) (n : Fin 16), s.dev = .run ∧ s.phaseLive n = true ∧ s.part.hasRail (s.get (F.PH_CTRL_RAIL n)) = true) ∧
    (∃ (s : State) (n : Fin 16) (off : _), s.dev = .run ∧ s.lineWaits = false ∧ s.phaseLive n = true ∧ (s.ph n).on = false ∧ ((s.ph n).tri = true ∨ 400 ≤ off) ∧ (s.ph n).ofsN < 15) ∧
    (∃ (s : State) (n : Fin 16) (code : _) (off : _), s.dev = .run ∧ s.lineWaits = false ∧ s.phaseLive n = true ∧ (s.ph n).on = false ∧ ((s.ph n).tri = true ∨ 400 ≤ off) ∧ (s.ph n).ofsN = 15 ∧ -320 ≤ (((s.ph n).ofsSum + min code 1023 : Nat) - (8000 : Int)) ∧ (((s.ph n).ofsSum + min code 1023 : Nat) - (8000 : Int)) ≤ 320) ∧
    (∃ (s : State) (n : Fin 16) (code : _) (off : _), s.dev = .run ∧ s.lineWaits = false ∧ s.phaseLive n = true ∧ (s.ph n).on = false ∧ ((s.ph n).tri = true ∨ 400 ≤ off) ∧ (s.ph n).ofsN = 15 ∧ ((s.ph n).ofsSum + min code 1023 < 7680 ∨ 8320 < (s.ph n).ofsSum + min code 1023)) ∧
    (∃ (s : State) (n : Fin 16) (off : _), s.dev = .run ∧ s.lineWaits = false ∧ ((s.ph n).on = true ∨ ((s.ph n).tri = false ∧ off < 400))) ∧
    (∃ (s : State) (r : Fin 6) (a : Nat) (b : Nat), s.dev = .run ∧ s.railLive r = true ∧ s.railOn r = true ∧ s.inUse r (F.RAIL_BAL_MODE r) = 1 ∧ s.rs r ≠ rsRampUp ∧ s.rs r ≠ rsRampDown ∧ (s.rail r).balBad = false ∧ (s.rail r).balSkip = 0 ∧ 64 ≤ (s.rail r).balCyc ∧ s.phasesIn r [1] = [a, b] ∧ a < 16 ∧ b < 16 ∧ ((s.ph a).balN * (s.ph b).balN) ≠ 0 ∧ (s.inUse r (F.RAIL_BAL_BAL_MIN r) * 20 * ((s.ph a).balN * (s.ph b).balN) : Int) ≤ ((s.ph a).balSum * (s.ph b).balN) + ((s.ph b).balSum * (s.ph a).balN) ∧ (s.inUse r (F.RAIL_BAL_DB r) * 10 * ((s.ph a).balN * (s.ph b).balN) : Int) < ((s.ph a).balSum * (s.ph b).balN) - ((s.ph b).balSum * (s.ph a).balN) ∧ s.sget (F.PH_TRIM_TRIM a) = 0 ∧ s.sget (F.PH_TRIM_TRIM b) = 0 ∧ 1 ≤ s.get (F.RAIL_BAL_LIM r)) ∧
    (∃ (s : State) (r : Fin 6), s.dev = .run ∧ s.railLive r = true ∧ s.railOn r = true ∧ 64 ≤ (s.rail r).balCyc ∧ s.inUse r (F.RAIL_BAL_MODE r) ≠ 1) ∧
    (∃ (s : State) (r : Fin 6), s.dev = .run ∧ (s.rail r).balCyc < 64) ∧
    (∃ (s : State) (r : Fin 6), s.dev = .run ∧ s.railLive r = true ∧ s.flag (F.RAIL_NL_NL_EN r) = true ∧ (s.rs r = rsOn ∨ s.rs r = rsMoving) ∧ (s.rail r).resp = false) ∧
    (∃ (s : State) (r : Fin 6), s.dev = .run ∧ s.flag (F.RAIL_NL_NL_EN r) = false) ∧
    (∃ (s : State) (r : Fin 6) (ns : _), s.dev = .run ∧ (s.rail r).resp = true ∧ (s.rail r).respBack = false ∧ s.get (F.RAIL_NL_NL_MAXON r) ≤ ns) ∧
    (∃ (s : State) (r : Fin 6) (ns : _), s.dev = .run ∧ (s.rail r).resp = true ∧ (s.rail r).respBack = false ∧ ns < s.get (F.RAIL_NL_NL_MAXON r)) ∧
    (∃ (s : State) (r : Fin 6) (g : Fin 4), s.dev = .run ∧ s.railLive r = true ∧ s.flag (F.RAIL_ANT_ANT_EN r) = true ∧ (s.rs r = rsOn ∨ s.rs r = rsMoving) ∧ (s.boostOf r g) = 0) ∧
    (∃ (s : State) (r : Fin 6) (g : Fin 4), s.dev = .run ∧ s.railLive r = true ∧ s.flag (F.RAIL_ANT_ANT_EN r) = true ∧ (s.rs r = rsOn ∨ s.rs r = rsMoving) ∧ 1 ≤ g.val ∧ (s.boostOf r g) ≠ 0) :=
  ⟨⟨(((sets base [(F.PH_CTRL_RAIL 2, 1), (F.PH_STATUS_STATE 2, 1)]).setRs 1 rsOn).modPh 2 fun x => { x with on := false }), 1, by decide +kernel⟩,
    ⟨base, 1, by decide +kernel⟩,
    ⟨base, 1, [], by decide +kernel⟩,
    ⟨(((sets base [(F.PH_CTRL_RAIL 2, 1), (F.PH_STATUS_STATE 2, 1)]).setRs 1 rsOn).modPh 2 fun x => { x with on := false }), 1, 2, [], by decide +kernel⟩,
    ⟨(((sets base [((F.PH_CTRL_RAIL 2), 1), ((F.PH_STATUS_STATE 2), 1)]).setRs 1 rsOn).modPh 2 fun x => { x with on := true }), 2, by decide +kernel⟩,
    ⟨(((sets base [(F.PH_CTRL_RAIL 2, 1), (F.PH_STATUS_STATE 2, 1)]).setRs 1 rsOn).modPh 2 fun x => { x with on := true, resp := true }), 2, by decide +kernel⟩,
    ⟨(((sets base [((F.PH_CTRL_RAIL 2), 1), ((F.PH_STATUS_STATE 2), 1)]).setRs 1 rsOn).modPh 2 fun x => { x with limited := true }), 2, by decide +kernel⟩,
    ⟨(((sets base [((F.PH_CTRL_RAIL 2), 1), ((F.PH_STATUS_STATE 2), 1)]).setRs 1 rsOn).modPh 2 fun x => { x with on := true }), 2, by decide +kernel⟩,
    ⟨(((sets base [(F.PH_CTRL_RAIL 2, 1), (F.PH_STATUS_STATE 2, 1)]).setRs 1 rsOn).modPh 2 fun x => { x with ofsN := 14 }), 2, 0, by decide +kernel⟩,
    ⟨(((sets base [(F.PH_CTRL_RAIL 2, 1), (F.PH_STATUS_STATE 2, 1)]).setRs 1 rsOn).modPh 2 fun x => { x with ofsN := 15, ofsSum := 7500 }), 2, 820, 0, by decide +kernel⟩,
    ⟨(((sets base [(F.PH_CTRL_RAIL 2, 1), (F.PH_STATUS_STATE 2, 1)]).setRs 1 rsOn).modPh 2 fun x => { x with ofsN := 15, ofsSum := 7500 }), 2, 821, 0, by decide +kernel⟩,
    ⟨(((sets base [(F.PH_CTRL_RAIL 2, 1), (F.PH_STATUS_STATE 2, 1)]).setRs 1 rsOn).modPh 2 fun x => { x with on := true }), 2, 0, by decide +kernel⟩,
    ⟨((((sets base [(F.PH_CTRL_RAIL 2, 1), (F.PH_STATUS_STATE 2, 1), (F.PH_CTRL_RAIL 3, 1), (F.PH_STATUS_STATE 3, 1), (F.RAIL_BAL_MODE 1, 1), (F.RAIL_BAL_LIM 1, 1), (F.RAIL_BAL_DB 1, 1), (F.RAIL_BAL_BAL_MIN 1, 10)]).setRs 1 rsOn).modRail 1 fun x => { x with balBad := false, balCyc := 64 }).modPh 2 fun x => { x with balSum := 111, balN := 1 }).modPh 3 fun x => { x with balSum := 100, balN := 1 }, 1, 2, 3, by decide +kernel⟩,
    ⟨(((sets base [(F.RAIL_BAL_MODE 1, 0)]).setRs 1 rsOn).modRail 1 fun x => { x with balCyc := 64 }), 1, by decide +kernel⟩,
    ⟨base, 1, by decide +kernel⟩,
    ⟨(((sets base [((F.RAIL_NL_NL_EN 1), 1)]).setRs 1 rsOn).modRail 1 fun x => { x with last := some 2 }), 1, by decide +kernel⟩,
    ⟨(sets base [(F.RAIL_NL_NL_EN 1, 0)]), 1, by decide +kernel⟩,
    ⟨(base.modRail 1 fun x => { x with resp := true }), 1, 100000, by decide +kernel⟩,
    ⟨((sets base [(F.RAIL_NL_NL_MAXON 1, 100)]).modRail 1 fun x => { x with resp := true }), 1, 99, by decide +kernel⟩,
    ⟨((sets base [(F.RAIL_ANT_ANT_EN 1, 1), (F.PH_CTRL_RAIL 2, 1), (F.PH_STATUS_STATE 2, 1)]).setRs 1 rsOn), 1, 1, by decide +kernel⟩,
    ⟨((((sets base [(F.RAIL_ANT_ANT_EN 1, 1), (F.PH_CTRL_RAIL 2, 1), (F.PH_STATUS_STATE 2, 1)]).setRs 1 rsOn).modRail 1 fun x => { x with boosts := [(9, [0, 500, 0, 0])] }).modHead 1 fun x => { x with fixed := [⟨9, 1, 70⟩] }), 1, 1, by decide +kernel⟩⟩

theorem witness_Reference :
    (∃ (s : State) (bp : Nat), s.dev = .run ∧ (bp = 3 ∨ bp = 4) ∧ s.works bp = true ∧ s.aon.vioOk = true ∧ (s.ref bp).src ≠ 1 ∧ s.flag F.SYS_SYNC_MODE = true ∧ (s.ref bp).qual = true) ∧
    (∃ (s : State) (bp : Nat), s.dev = .run ∧ (bp = 3 ∨ bp = 4) ∧ s.works bp = true ∧ s.syncLive = false) ∧
    (∃ (s : State) (bp : Nat) (high : _), s.dev = .run ∧ (bp = 3 ∨ bp = 4) ∧ s.works bp = true ∧ s.aon.vioOk = true ∧ (s.ref bp).src = 1 ∧ 625 < high) ∧
    (∃ (s : State) (bp : Nat) (high : _), s.dev = .run ∧ (bp = 3 ∨ bp = 4) ∧ s.works bp = true ∧ high ≤ 625) ∧
    (∃ (s : State) (bp : Nat) (f : Nat), s.dev = .run ∧ (bp = 3 ∨ bp = 4) ∧ s.works bp = true ∧ s.aon.vioOk = true ∧ 250000 ≤ f ∧ f ≤ 3000000 ∧ s.freqOk f = true ∧ (s.ref bp).okWins = 0) ∧
    (∃ (s : State) (bp : Nat) (f : Nat), s.dev = .run ∧ (bp = 3 ∨ bp = 4) ∧ s.works bp = true ∧ s.aon.vioOk = true ∧ 250000 ≤ f ∧ f ≤ 3000000 ∧ s.freqOk f = true ∧ 1 ≤ (s.ref bp).okWins ∧ 200 * ((f : Int) - (s.ref bp).f).natAbs ≤ (s.ref bp).f) ∧
    (∃ (s : State) (bp : Nat) (f : Nat), s.dev = .run ∧ (bp = 3 ∨ bp = 4) ∧ s.works bp = true ∧ s.aon.vioOk = true ∧ 250000 ≤ f ∧ f ≤ 3000000 ∧ s.freqOk f = true ∧ 1 ≤ (s.ref bp).okWins ∧ (s.ref bp).f < 200 * ((f : Int) - (s.ref bp).f).natAbs) ∧
    (∃ (s : State) (bp : Nat) (f : _), s.dev = .run ∧ (bp = 3 ∨ bp = 4) ∧ s.works bp = true ∧ s.aon.vioOk = true ∧ (f < 250000 ∨ 3000000 < f ∨ s.freqOk f = false)) :=
  ⟨⟨((sets base [(F.SYS_SYNC_MODE, 1)]).modRef 4 fun x => { x with qual := true }), 4, by decide +kernel⟩,
    ⟨{ base with aon := { base.aon with vioOk := false } }, 3, by decide +kernel⟩,
    ⟨(base.modRef 3 fun x => { x with src := 1 }), 3, 626, by decide +kernel⟩,
    ⟨base, 3, 625, by decide +kernel⟩,
    ⟨base, 4, 500000, by decide +kernel⟩,
    ⟨(base.modRef 4 fun x => { x with okWins := 1, f := 1000000 }), 4, 1005000, by decide +kernel⟩,
    ⟨(base.modRef 4 fun x => { x with okWins := 1, f := 1000000 }), 4, 1005001, by decide +kernel⟩,
    ⟨base, 3, 249999, by decide +kernel⟩⟩

theorem witness_LightLoadChoice :
    (∃ (s : State) (r : Fin 6) (i32 : Int) (k : _), s.dev = .run ∧ s.railLive r = true ∧ s.railOn r = true ∧ s.lightOk r = true ∧ (∀ n ∈ s.assigned r, (s.ph n).pend = none) ∧ (s.rail r).lightAvg = some i32 ∧ i32 < s.inUse r (F.RAIL_LIGHT_SHED_I r) * 320 * ((s.rotation r).length - 1 : Int) ∧ s.inUse r (F.RAIL_LIGHT_MIN_PH r) + 1 < (s.rotation r).length ∧ k ∈ s.assigned r ∧ s.phState k = 1 ∧ (∀ j ∈ s.assigned r, s.phState j = 1 → j ≤ k)) ∧
    (∃ (s : State) (r : Fin 6) (i32 : Int) (k : _), s.dev = .run ∧ s.railLive r = true ∧ s.railOn r = true ∧ s.lightOk r = true ∧ (∀ n ∈ s.assigned r, (s.ph n).pend = none) ∧ (s.rail r).lightAvg = some i32 ∧ ¬(i32 < s.inUse r (F.RAIL_LIGHT_SHED_I r) * 320 * ((s.rotation r).length - 1 : Int) ∧ s.inUse r (F.RAIL_LIGHT_MIN_PH r) + 1 < (s.rotation r).length) ∧ s.inUse r (F.RAIL_LIGHT_ADD_I r) * 320 * ((s.rotation r).length : Int) < i32 ∧ k ∈ s.assigned r ∧ s.phState k = 2 ∧ (∀ j ∈ s.assigned r, s.phState j = 2 → k ≤ j)) ∧
    (∃ (s : State) (r : Fin 6) (i32 : Int) (k : _), s.dev = .run ∧ s.railLive r = true ∧ s.railOn r = true ∧ s.lightOk r = true ∧ (∀ n ∈ s.assigned r, (s.ph n).pend = none) ∧ (s.rail r).lightAvg = some i32 ∧ s.phState k = 3) :=
  ⟨⟨(((sets base [(F.RAIL_CTRL_EN 1, 1), (F.RAIL_LIGHT_AUTOSHED 1, 1), (F.RAIL_LIGHT_MIN_PH 1, 1), (F.RAIL_LIGHT_SHED_I 1, 10), (F.RAIL_LIGHT_ADD_I 1, 20), (F.PH_CTRL_RAIL 2, 1), (F.PH_STATUS_STATE 2, 1), (F.PH_CTRL_RAIL 3, 1), (F.PH_STATUS_STATE 3, 1), (F.PH_CTRL_RAIL 4, 1), (F.PH_STATUS_STATE 4, 1)]).setRs 1 rsOn).modRail 1 fun x => { x with lightAvg := some 6399 }), 1, 6399, 4, by decide +kernel⟩,
    ⟨(((sets base [(F.RAIL_CTRL_EN 1, 1), (F.RAIL_LIGHT_AUTOSHED 1, 1), (F.RAIL_LIGHT_MIN_PH 1, 1), (F.RAIL_LIGHT_SHED_I 1, 10), (F.RAIL_LIGHT_ADD_I 1, 20), (F.PH_CTRL_RAIL 2, 1), (F.PH_STATUS_STATE 2, 1), (F.PH_CTRL_RAIL 3, 1), (F.PH_STATUS_STATE 3, 2), (F.PH_CTRL_RAIL 4, 1), (F.PH_STATUS_STATE 4, 1)]).setRs 1 rsOn).modRail 1 fun x => { x with lightAvg := some 12801 }), 1, 12801, 3, by decide +kernel⟩,
    ⟨(((sets base [(F.RAIL_CTRL_EN 1, 1), (F.RAIL_LIGHT_AUTOSHED 1, 1), (F.RAIL_LIGHT_MIN_PH 1, 1), (F.RAIL_LIGHT_SHED_I 1, 10), (F.RAIL_LIGHT_ADD_I 1, 20), (F.PH_CTRL_RAIL 2, 1), (F.PH_STATUS_STATE 2, 1), (F.PH_CTRL_RAIL 3, 1), (F.PH_STATUS_STATE 3, 3), (F.PH_CTRL_RAIL 4, 1), (F.PH_STATUS_STATE 4, 1)]).setRs 1 rsOn).modRail 1 fun x => { x with lightAvg := some 6399 }), 1, 6399, 3, by decide +kernel⟩⟩

theorem witness_UnassignedAddresses :
    (∃ (s : State) (a : Nat) (p : _) (l : _), regAt a = none ∧ Grants s p l .peek true ∧ bareNumbers s.compat ["ADDRESS"] ["ADDRESS", "COUNT"] l.toks = .ok [a] ∧ isAddr a = true) ∧
    (∃ (s : State) (a : Nat) (p : _) (l : _) (v : _), regAt a = none ∧ Grants s p l .poke false ∧ bareNumbers s.compat ["ADDRESS", "VALUE"] ["ADDRESS", "VALUE"] l.toks = .ok [a, v] ∧ isAddr a = true) :=
  ⟨⟨(queued base { verb := .peek, query := true, toks := ["0X03FC"] }), 0x03FC, .host, { verb := .peek, query := true, toks := ["0X03FC"] }, by unfold Grants; decide +kernel⟩,
    ⟨(queued base { verb := .poke, toks := ["0X03FC", "5"] }), 0x03FC, .host, { verb := .poke, toks := ["0X03FC", "5"] }, 5, by unfold Grants; decide +kernel⟩⟩


/-! ### The spec's worked examples, one step or one operation each -/

/-- R39's example: the check of `CAPS? ` is 0x18. -/
theorem test_check_of_caps : crc8 "CAPS? ".toList = 0x18 := by decide +kernel

/-- The rounding example of the scope file: 1 ms is stored as 33 ticks. -/
theorem test_time_rounds : parseArgs false [("ONDELAY", kTick 0 1023)] ["ONDELAY=1MS"] = .ok [("ONDELAY", .int 33)] := by
  decide +kernel

/-- The rounding example of the scope file: 1.2004 V with 1 mV steps is stored as 1.200 V. -/
theorem test_voltage_rounds : parseArgs false [("TARGET", kVolt 1 1 400 5600)] ["TARGET=1.2004V"] = .ok [("TARGET", .int 1200)] := by
  decide +kernel

/-- The state after a command, where it completes. -/
def after (c : Instr) (s : State) : State := match exec c s with | .next t => t | _ => s

/-- The example under R262: code 525 with OFFSET +16 and 5.00 mV/A is 4.800 A, in units of 10 mA. -/
theorem test_sense_example :
    (after (.phaseSample 1 525 0 0) (sets (base.setRs 0 rsOn) [(F.PH_CAL_OFFSET 1, 16), (F.RAIL_SW_ISGAIN 0, 500),
      (F.PH_STATUS_STATE 1, 1)])).sget (F.PH_ISNS_I 1) = 480 := by decide +kernel

/-- The example under R265: one interval with currents of 5.6 A, 4.8 A and 4.6 A moves the trims to −0.1 %, 0 and +0.1 %. -/
def balanced : State :=
  let s := (sets (base.setRs 0 rsOn) [(F.RAIL_BAL_MODE 0, 1), (F.RAIL_BAL_DB 0, 4), (F.RAIL_BAL_BAL_MIN 0, 10),
    (F.PH_STATUS_STATE 0, 1), (F.PH_STATUS_STATE 1, 1), (F.PH_STATUS_STATE 2, 1)]).modRail 0 fun x => { x with balBad := false, balCyc := 64 }
  after (.balanceInterval 0) ([(0, 560), (1, 480), (2, 460)].foldl (fun s i => s.modPh i.1 fun x => { x with balSum := i.2, balN := 1 }) s)

theorem test_balance_example :
    (balanced.sget (F.PH_TRIM_TRIM 0), balanced.sget (F.PH_TRIM_TRIM 1), balanced.sget (F.PH_TRIM_TRIM 2)) = (-1, 0, 1) := by
  decide +kernel

/-- The grid of H2 in the example of R253 (156.3, 822.9 and 1,489.6 ns), on the default phases and offsets. -/
theorem test_grid_example :
    let s := sets base [(F.PH_STATUS_STATE 3, 1), (F.PH_STATUS_STATE 4, 1), (F.PH_STATUS_STATE 5, 1)]
    [s.gridPoint 1 0, s.gridPoint 1 1, s.gridPoint 1 2] = [1563, 8229, 14896] := by decide +kernel

/-- An ACK of status 0 for chip 247, its bytes written out from R322 and R323, is that frame. -/
theorem test_ack_bytes : UpFrame.ofBody [0xB0#8, 0xF7#8] = some (.ack 0 247) ∧ (UpFrame.ack 0 247).body = [0xB0#8, 0xF7#8] := by
  decide +kernel

/-- A TRIM_RD reply of chip 3, index 4, trims 0, 1, 2 and 63, its 40 bits written out from R326. -/
theorem test_side_bits : UpFrame.ofBody [0xC0#8, 0b00100000#8, 0b01100100#8, 0b00000000#8, 0b00010000#8, 0b10111111#8] =
    some (.side { op := 1, chip := 3, idx := 4, data := [0, 1, 2, 63] }) := by decide +kernel

/-- RESET_N low in RUN: the next device state is RESET (R7). -/
theorem test_step_resetN : (match step { base with pending := [.resetNLow] } with
    | .next t => decide (t.dev = .reset ∧ t.lastReset = .resetn ∧ t.pending = []) | _ => false) = true := by decide +kernel

/-! ### Ill-formed commands: one for each check -/

theorem test_wf_line : (Instr.capsQuery .host { verb := .caps, query := true, toks := [] }).wf = true ∧
    (Instr.capsQuery .host { verb := .state, query := true }).wf = false ∧ (Instr.capsQuery .host { verb := .caps }).wf = false ∧
    (Instr.capsQuery .host { verb := .caps, query := true, toks := [""] }).wf = false ∧
    (Instr.capsQuery .host { verb := .caps, query := true, toks := ["a"] }).wf = false ∧
    (Instr.capsQuery .host { verb := .caps, query := true, toks := ["A B"] }).wf = false ∧
    (Instr.capsQuery .host { verb := .caps, query := true, tag := some 10000 }).wf = false ∧
    (Instr.capsQuery .host { verb := .caps, query := true, len := 161 }).wf = false := by decide +kernel

theorem test_wf_lengths : (Instr.aonStartRise 100 [1, 2, 3]).wf = false ∧ (Instr.referenceRefresh []).wf = false ∧
    (Instr.rodWindowEnd 500000 [1]).wf = false := by decide +kernel

theorem test_wf_codes : (Instr.registerWrite 2 0#32).wf = false ∧ (Instr.registerWrite 65536 0#32).wf = false ∧
    (Instr.monitorSample 0 4096).wf = false ∧ (Instr.blankWindowClose 0 4096).wf = false ∧ (Instr.converterFree 0 4096).wf = false ∧
    (Instr.calIsnsConversion 0 1024 0).wf = false ∧ (Instr.calHeadsnsSample 0 4096).wf = false ∧
    (Instr.phaseSample 0 1024 0 0).wf = false ∧ (Instr.vinsSample 1024).wf = false ∧ (Instr.scrubMirrorWord 0 3968 .clean).wf = false ∧
    (Instr.stackMeasTimer 4096 0 0 0).wf = false ∧ (Instr.stackMeasTimer 0 0 4096 0).wf = false ∧
    (Instr.bridgeCycle ⟨4096, 0, 0, 0, 0, false⟩).wf = false ∧ (Instr.bridgeCycle ⟨0, 0, 4096, 0, 0, false⟩).wf = false ∧
    (Instr.backupUpdate 4096 0).wf = false ∧ (Instr.vkaQuery .host { verb := .vka, query := true } 4096).wf = false ∧
    (Instr.lgTestLine 0 4096 0 none).wf = false ∧ (Instr.lgTestLine 0 0 4096 none).wf = false := by decide +kernel

/-- A code group of a lane has 10 bits (R321). -/
theorem test_wf_chars : (Instr.identReceived 0 [1024]).wf = false ∧ (Instr.probeAck 0 [1024]).wf = false ∧
    (Instr.memblockReceived 0 [0, 1024]).wf = false ∧ (Instr.trimAck 0 [1024]).wf = false ∧
    (Instr.sideReplyReceived 0 [1024]).wf = false ∧ (Instr.reportReceived 0 [1024] 0).wf = false ∧
    (Instr.lgTestLine 0 0 0 (some [1024])).wf = false ∧ (Instr.reportReceived 0 [1023] 0).wf = true := by decide +kernel

end Sys2Proof.Tests
end

section
/-! PROOFS. Light load of a rail (R254, R255): what a decision asks of which phase, and what the phase becomes at the rail's
next trigger. -/

namespace Sys2Proof.LightLoad

open Sys2Proof Sys2Proof.Machine Sys2Proof.Safety

/-! ### Phases and their register -/

@[simp] theorem ph_modPh_ne (s : State) {n j : Nat} (f : PhX → PhX) (h : j ≠ n) : (s.modPh n f).ph j = s.ph j :=
  Tab.get_put_ne _ _ _ h

@[simp] theorem ph_modRail (s : State) (r n : Nat) (f : RailX → RailX) : (s.modRail r f).ph n = s.ph n := rfl

@[simp] theorem ph_raise (s : State) (e : Nat) (c x : String) (m : Option Nat) (i n : Nat) :
    (s.raise e c x m i).ph n = s.ph n := by simp [State.ph]

@[simp] theorem rail_raise (s : State) (e : Nat) (c x : String) (m : Option Nat) (i r : Nat) :
    (s.raise e c x m i).rail r = s.rail r := by simp [State.rail]

@[simp] theorem phState_modPh (s : State) (n j : Nat) (f : PhX → PhX) : (s.modPh n f).phState j = s.phState j := rfl

/-- Opening blank windows stores no register. -/
theorem word_openBlank (s : State) (code a : Nat) : (s.openBlank code).word a = s.word a :=
  foldl_keep (State.word · a) _ (fun s n => by split <;> simp) _ s

/-- Ending an on-time stores no register. -/
theorem word_cutOn (s : State) (n : Nat) (tri : Bool) (a : Nat) : (s.cutOn n tri).word a = s.word a := by
  simp only [State.cutOn]
  split
  · rw [word_openBlank, State.word_modPh]
  · rw [State.word_modPh]

/-- A PWM tri-stated leaves every phase in its state. -/
@[simp] theorem phState_triPhase (s : State) (n j : Nat) : (s.triPhase n).phState j = s.phState j := by
  rw [State.triPhase, phState_modPh]
  exact State.get_eq_word s _ (word_cutOn s n true _)

/-- STATE reads as stored, modulo its three bits. -/
theorem phState_set (s : State) (n st : Nat) : (s.set (F.PH_STATUS_STATE n) st).phState n = st % 8 :=
  State.get_set_same s (F.PH_STATUS_STATE n) st (show 0 + 3 ≤ 32 by decide)

/-- A phase whose change is adopted at the trigger is in the state that waited for it (R256). -/
theorem phState_adoptPhase {s : State} {n st : Nat} (h : (s.ph n).pend = some st) (hst : st < 8) :
    (s.adoptPhase n).phState n = st := by
  have hset : (s.set (F.PH_STATUS_STATE n) st).phState n = st := by rw [phState_set, Nat.mod_eq_of_lt hst]
  simp only [State.adoptPhase, h, apply_ite (State.phState · n), phState_triPhase, phState_modPh, ite_self, hset]

/-! ### The highest and the lowest phase of a state -/

/-- The phases of a rail stand in ascending number. -/
theorem pairwise_phasesIn (s : State) (r : Nat) (sts : List Nat) : (s.phasesIn r sts).Pairwise (· < ·) :=
  (List.pairwise_lt_range.filter _).filter _

theorem mem_phasesIn_one {s : State} {r st k : Nat} : k ∈ s.phasesIn r [st] ↔ k ∈ s.assigned r ∧ s.phState k = st := by
  simp [State.phasesIn]

/-- The last of an ascending list is its greatest member. -/
theorem getLast?_eq_some_of_forall_le {l : List Nat} {k : Nat} (hl : l.Pairwise (· < ·)) (hk : k ∈ l) (hmax : ∀ j ∈ l, j ≤ k) :
    l.getLast? = some k := by
  rcases List.eq_nil_or_concat l with rfl | ⟨init, x, rfl⟩
  · simp at hk
  · have hx : x ≤ k := hmax x (by simp)
    have hinit : k ∉ init := fun h => by
      have := (List.pairwise_append.mp (by simpa using hl)).2.2 k h x (by simp)
      omega
    simp_all

/-- The first of an ascending list is its least member. -/
theorem head?_eq_some_of_forall_ge {l : List Nat} {k : Nat} (hl : l.Pairwise (· < ·)) (hk : k ∈ l) (hmin : ∀ j ∈ l, k ≤ j) :
    l.head? = some k := by
  cases l with
  | nil => simp at hk
  | cons x xs =>
    have hx : k ≤ x := hmin x (by simp)
    have hxs : k ∉ xs := fun h => by
      have := List.rel_of_pairwise_cons hl h
      omega
    simp_all

/-- The highest-numbered phase of rail `r` in state `st`. -/
theorem getLast?_phasesIn {s : State} {r st k : Nat} (hk : k ∈ s.assigned r) (hst : s.phState k = st)
    (hmax : ∀ j ∈ s.assigned r, s.phState j = st → j ≤ k) : (s.phasesIn r [st]).getLast? = some k :=
  getLast?_eq_some_of_forall_le (pairwise_phasesIn s r [st]) (mem_phasesIn_one.mpr ⟨hk, hst⟩)
    fun j hj => hmax j (mem_phasesIn_one.mp hj).1 (mem_phasesIn_one.mp hj).2

/-- The lowest-numbered phase of rail `r` in state `st`. -/
theorem head?_phasesIn {s : State} {r st k : Nat} (hk : k ∈ s.assigned r) (hst : s.phState k = st)
    (hmin : ∀ j ∈ s.assigned r, s.phState j = st → k ≤ j) : (s.phasesIn r [st]).head? = some k :=
  head?_eq_some_of_forall_ge (pairwise_phasesIn s r [st]) (mem_phasesIn_one.mpr ⟨hk, hst⟩)
    fun j hj => hmin j (mem_phasesIn_one.mp hj).1 (mem_phasesIn_one.mp hj).2

/-! ### A change asked for -/

/-- The phase sources of the rails that a part has are present in it (R394). -/
theorem sourceAbsent_phases {p : Part} {r : Fin 6} (h : p.hasRail r = true) : sourceAbsent p (6 + r) = false := by
  revert h; revert r; cases p <;> decide

/-- A change that light load may ask for: the state the phase is to take, and the cause that tells of it (R268). -/
def IsMove (st : Nat) (cause : String) : Prop := (st = 2 ∧ cause = "LIGHT_SHED") ∨ (st = 1 ∧ cause = "LIGHT_ADD")

/-- The phase source of a rail has each cause of light load. -/
theorem causeOf_isMove {st : Nat} {cause : String} (h : IsMove st cause) (r : Fin 6) :
    ∃ no i, causeOf (6 + r) cause = some (no, i) ∧ causeName (6 + r) no = cause := by
  rcases h with ⟨-, rfl⟩ | ⟨-, rfl⟩
  · exact ⟨3, ⟨"LIGHT_SHED", .notice, .normal, true⟩, by revert r; decide⟩
  · exact ⟨4, ⟨"LIGHT_ADD", .notice, .normal, true⟩, by revert r; decide⟩

theorem ph_lightMove_same (s : State) (r st : Nat) (cause : String) (k : Nat) :
    (s.lightMove r st cause k).ph k = { s.ph k with pend := some st } := by simp [State.lightMove]

theorem ph_lightMove_ne (s : State) (r st : Nat) (cause : String) {k j : Nat} (h : j ≠ k) :
    (s.lightMove r st cause k).ph j = s.ph j := by simp [State.lightMove, h]

theorem lightAvg_lightMove (s : State) (r st : Nat) (cause : String) (k : Nat) :
    ((s.lightMove r st cause k).rail r).lightAvg = none := by simp [State.lightMove]

theorem word_commit_lightMove (s : State) (r st : Nat) (cause : String) (k a : Nat) :
    (s.commit (s.lightMove r st cause k)).word a = s.word a :=
  State.word_congr (State.part_commit _ _) (by simp [State.lightMove, State.modRail, State.modPh]) a

theorem tells_lightMove {s : State} {r : Fin 6} {st : Nat} {cause : String} (k : Nat) (hd : s.dev = .run)
    (hr : s.part.hasRail r = true) (h : IsMove st cause) : Tells s (s.lightMove r st cause k) (6 + r) cause := by
  obtain ⟨no, i, hc, hn⟩ := causeOf_isMove h r
  exact Tells.raise _ (6 + r) cause _ _ 0 no i hd (sourceAbsent_phases hr) hc hn

/-- What a change asked for leaves: it waits for phase `k` alone and is told, phase `k` takes it at the next trigger, the next
decision waits for a fresh average, and no register has changed. -/
theorem lightMove_spec {s : State} {r : Fin 6} {st : Nat} {cause : String} (k : Nat) (hd : s.dev = .run)
    (hr : s.part.hasRail r = true) (h : IsMove st cause) :
    let t := s.commit (s.lightMove r st cause k)
    (t.ph k).pend = some st ∧ (∀ j, j ≠ k → t.ph j = s.ph j) ∧ Tells s t (6 + r) cause ∧ (t.adoptPhase k).phState k = st ∧
      (t.rail r).lightAvg = none ∧ OnlyRegs [] s t := by
  have hpend : ((s.commit (s.lightMove r st cause k)).ph k).pend = some st := by rw [State.ph_commit, ph_lightMove_same]
  have hst : st < 8 := by rcases h with ⟨rfl, -⟩ | ⟨rfl, -⟩ <;> decide
  exact ⟨hpend, fun j => ph_lightMove_ne s r st cause, tells_lightMove k hd hr h, phState_adoptPhase hpend hst,
    lightAvg_lightMove s r st cause k, fun a _ => word_commit_lightMove s r st cause k a⟩

/-! ### The decision -/

/-- Rail `r` is in the conditions of R254 with no change waiting, and `i32` is the sum of its current over 32 rank-0 cycles. -/
structure Due (s : State) (r : Fin 6) (i32 : Int) : Prop where
  run : s.dev = .run
  live : s.railLive r = true
  on : s.railOn r = true
  ok : s.lightOk r = true
  settled : ∀ n ∈ s.assigned r, (s.ph n).pend = none
  avg : (s.rail r).lightAvg = some i32

/-- The current is low enough to shed a phase, and more than MIN_PH are in rotation (R254). -/
def Sheds (s : State) (r : Fin 6) (i32 : Int) : Prop :=
  i32 < s.inUse r (F.RAIL_LIGHT_SHED_I r) * 320 * ((s.rotation r).length - 1 : Int) ∧
    s.inUse r (F.RAIL_LIGHT_MIN_PH r) + 1 < (s.rotation r).length

/-- The current is high enough to add a phase (R254). -/
def Adds (s : State) (r : Fin 6) (i32 : Int) : Prop :=
  s.inUse r (F.RAIL_LIGHT_ADD_I r) * 320 * ((s.rotation r).length : Int) < i32

theorem exec_eq (r : Fin 6) (s : State) : exec (.lightLoadDecision r) s = execLightLoadDecision r s := rfl

section
variable {s : State} {r : Fin 6} {i32 : Int}

theorem Due.hasRail (h : Due s r i32) : s.part.hasRail r = true := (Bool.and_eq_true _ _ ▸ h.live).1

theorem Due.no_pend (h : Due s r i32) : ¬∃ n ∈ s.assigned r, (s.ph n).pend.isSome = true := by
  simpa using h.settled

/-- A decision that sheds asks the last ACTIVE phase to become IDLE. -/
theorem exec_of_sheds {k : Nat} (h : Due s r i32) (hs : Sheds s r i32) (hk : (s.phasesIn r [1]).getLast? = some k) :
    exec (.lightLoadDecision r) s = .next (s.commit (s.lightMove r 2 "LIGHT_SHED" k)) := by
  rw [Sheds] at hs
  simp [exec_eq, execLightLoadDecision, inRun_of_run h.run, h.live, h.on, h.ok, h.no_pend, h.avg, hs, hk]

/-- A decision that adds asks the first IDLE phase to become ACTIVE. -/
theorem exec_of_adds {k : Nat} (h : Due s r i32) (hs : ¬Sheds s r i32) (ha : Adds s r i32)
    (hk : (s.phasesIn r [2]).head? = some k) :
    exec (.lightLoadDecision r) s = .next (s.commit (s.lightMove r 1 "LIGHT_ADD" k)) := by
  rw [Sheds] at hs
  rw [Adds] at ha
  simp [exec_eq, execLightLoadDecision, inRun_of_run h.run, h.live, h.on, h.ok, h.no_pend, h.avg, hs, ha, hk]

/-- All that a decision can do: nothing, or to ask an ACTIVE phase to become IDLE, or an IDLE one to become ACTIVE. -/
theorem exec_cases (s : State) (r : Fin 6) : exec (.lightLoadDecision r) s = .next (s.commit s) ∨
    (∃ k, s.phState k = 1 ∧ exec (.lightLoadDecision r) s = .next (s.commit (s.lightMove r 2 "LIGHT_SHED" k))) ∨
    (∃ k, s.phState k = 2 ∧ exec (.lightLoadDecision r) s = .next (s.commit (s.lightMove r 1 "LIGHT_ADD" k))) := by
  rw [exec_eq, execLightLoadDecision]
  rcases ne_or_eq s.dev .run with hd | hd
  · exact .inl (inRun_of_not_run hd)
  rw [inRun_of_run hd]
  dsimp only
  split -- R254 does not hold
  · exact .inl rfl
  split -- no fresh average
  · exact .inl rfl
  split
  case isTrue => -- low current
    split
    · next k hk => exact .inr (.inl ⟨k, (mem_phasesIn_one.mp (List.mem_of_getLast? hk)).2, rfl⟩)
    · exact .inl rfl
  split
  case isTrue => -- high current
    split
    · next k hk => exact .inr (.inr ⟨k, (mem_phasesIn_one.mp (List.mem_of_head? hk)).2, rfl⟩)
    · exact .inl rfl
  exact .inl rfl

end

/-- A FOLLOWER is never changed. -/
theorem follower_kept (s : State) (r : Fin 6) {k : Nat} (hk : s.phState k = 3) :
    ∃ t, exec (.lightLoadDecision r) s = .next t ∧ t.ph k = s.ph k := by
  have hne {j : Nat} (hj : s.phState j ≠ 3) : k ≠ j := by rintro rfl; exact hj hk
  rcases exec_cases s r with h | ⟨j, hj, h⟩ | ⟨j, hj, h⟩
  · exact ⟨_, h, rfl⟩
  · exact ⟨_, h, ph_lightMove_ne s r 2 _ (hne (by omega))⟩
  · exact ⟨_, h, ph_lightMove_ne s r 1 _ (hne (by omega))⟩

/-- Settles O59: the phases of a rail stand in ascending number, so the last ACTIVE one is the highest and the first IDLE one the
lowest. -/
theorem lightLoadChoice : Obligations.LightLoadChoice := by
  unfold Obligations.LightLoadChoice
  intro s r i32 hrun hlive hon hok hsettled havg
  have due : Due s r i32 := ⟨hrun, hlive, hon, hok, hsettled, havg⟩
  refine ⟨fun k hlow hmin hk hst hmax => ?_, fun k hs ha hk hst hmin => ?_, fun k hk => follower_kept s r hk⟩
  · exact ⟨_, exec_of_sheds due ⟨hlow, hmin⟩ (getLast?_phasesIn hk hst hmax),
      lightMove_spec k hrun due.hasRail (.inl ⟨rfl, rfl⟩)⟩
  · exact ⟨_, exec_of_adds due hs ha (head?_phasesIn hk hst hmin),
      lightMove_spec k hrun due.hasRail (.inr ⟨rfl, rfl⟩)⟩

end Sys2Proof.LightLoad
end

section
/-! PROOFS. Unassigned addresses (R468): no register stands there to be read, advanced or written, by a register row or by a line. -/

namespace Sys2Proof.Unassigned

open Sys2Proof Sys2Proof.Machine Sys2Proof.Safety Sys2Proof.Laws

/-! ### Reads and writes where no register stands -/

theorem readReg_of_unassigned {a : Nat} (h : regAt a = none) (s : State) : s.readReg a = 0#32 := by
  simp only [State.readReg, h]

theorem readAdvance_of_unassigned {a : Nat} (h : regAt a = none) (s : State) : s.readAdvance a = s := by
  simp only [State.readAdvance, h]

theorem writeReg_of_unassigned {a : Nat} (h : regAt a = none) (s : State) (w : Word) : s.writeReg a w = s := by
  simp only [State.writeReg, h]

/-! ### The register row and the lines -/

/-- A row whose work leaves the state as it is changes nothing, in RUN or not. -/
theorem inRun_of_eq_self {s : State} {f : State → State} (h : f s = s) : inRun s f = .next (s.commit s) := by
  rw [inRun, h, ite_self]

/-- A write that leaves the state as it is leaves it so while the partition is under test too. -/
theorem does_registerWrite_of_writeReg_eq_self {s : State} {a : Nat} {w : Word} (h : s.writeReg a w = s) :
    Does (.registerWrite a w) s s := by
  show execRegisterWrite a w s = _
  exact inRun_of_eq_self (by rw [h, ite_self])

/-- A line whose bare numbers are complete has tokens, where one number is required at least. -/
theorem isEmpty_of_bareNumbers {c : Bool} {n : String} {least most toks : List String} {vs : List Nat}
    (h : bareNumbers c (n :: least) most toks = .ok vs) : toks.isEmpty = false := by
  cases toks with
  | nil => cases most <;> simp [bareNumbers, bind, Except.bind, throw, throwThe, MonadExceptOf.throw] at h
  | cons t ts => rfl

section
variable {s : State} {p : PortId} {l : Line} {a : Nat}

/-- PEEK? of one register answers its word, then the address it reads from moves on (R61, R475). -/
theorem exec_peekQuery_one (hg : Grants s p l .peek true)
    (hn : bareNumbers s.compat ["ADDRESS"] ["ADDRESS", "COUNT"] l.toks = .ok [a]) (ha : isAddr a = true) :
    exec (.peekQuery p l) s =
      .next (replied s ((granted s).readAdvance a) p l (.ok (peekText a ((granted s).readReg a)))) := by
  show execPeekQuery p l s = _
  refine verbRow_ok hg rfl ?_
  simp [isEmpty_of_bareNumbers hn, hn, ha, within, joinWith, pure, Except.pure, bind, Except.bind]

/-- POKE writes its value and answers the word read back (R62). -/
theorem exec_pokeCmd {v : Nat} (hg : Grants s p l .poke false)
    (hn : bareNumbers s.compat ["ADDRESS", "VALUE"] ["ADDRESS", "VALUE"] l.toks = .ok [a, v]) (ha : isAddr a = true) :
    exec (.pokeCmd p l) s = .next (replied s ((granted s).writeReg a (BitVec.ofNat 32 v)) p l
      (.ok (peekText a (((granted s).writeReg a (BitVec.ofNat 32 v)).readReg a)))) := by
  show execPokeCmd p l s = _
  refine verbRow_ok hg rfl ?_
  simp [isEmpty_of_bareNumbers hn, hn, ha, pure, Except.pure, bind, Except.bind]

end

/-- Settles O60: a read, an advance and a write all look the address up in the register map, which lists nothing there. -/
theorem unassignedAddresses : Obligations.UnassignedAddresses := by
  unfold Obligations.UnassignedAddresses
  intro s a w h
  refine ⟨readReg_of_unassigned h s, readAdvance_of_unassigned h s,
    does_registerWrite_of_writeReg_eq_self (writeReg_of_unassigned h s w), fun p l hg hn ha => ?_, fun p l v hg hn ha => ?_⟩
  · rw [exec_peekQuery_one hg hn ha, readAdvance_of_unassigned h, readReg_of_unassigned h]
  · rw [exec_pokeCmd hg hn ha, writeReg_of_unassigned h, readReg_of_unassigned h]

end Sys2Proof.Unassigned
end
